-- ==== Sys2Proof/Word.lean ====
section
/-! DEFINITION. The word types of the AX-610: bytes of the placement link and the wrapping registers. -/

namespace Sys2Proof

/-- One byte of the placement link (R156). -/
abbrev Byte := BitVec 8

/-- A 16-bit value that is shifted, compared or wraps as a word: CRC, step number, sequence number. -/
abbrev Word16 := BitVec 16

/-- A 32-bit wrapping counter (00_scope.md, Counters). -/
abbrev Word32 := BitVec 32

end Sys2Proof
end

