-- ==== Sys2Proof/Syntax.lean ====
section
/-! DEFINITION. The commands of the AX-610: one constructor per row of spec/opcode_table.json, with the operands the
rows' rules give them. A request row carries the request's tag and its payload's fields as the link carries them (R164,
R166), out-of-range values included. -/

namespace Sys2Proof

/-- The two ports of the placement link (chapter 10). -/
inductive Port where
  | upstream
  | downstream
deriving DecidableEq, Repr

/-- A frame of the link without its lead and length bytes, which the other fields determine (R158). -/
structure Frame where
  address : Byte
  kind : Byte
  tag : Byte
  payload : List Byte
  crc : Word16
deriving DecidableEq, Repr

/-- One slot of the station reply frame as it comes in (section 3.9, R52). -/
inductive ReplySlot where
  | dropped
  | droppedLow
  | noPart
  | empty
  | fault
  /-- a slot with a parity error (R52) -/
  | parityError
  /-- a slot the station did not fill (R52) -/
  | unfilled
deriving DecidableEq, Repr

/-- The E-stop line (R145). -/
inductive LineState where
  | released
  | asserted
deriving DecidableEq, Repr

/-- The tension sensor's report (R81). -/
inductive Tension where
  | normal
  | broken
deriving DecidableEq, Repr

/-- The limit state of the table axes (R135). -/
inductive LimitState where
  | released
  | active
deriving DecidableEq, Repr

/-- The two servo axes of the head (R92). -/
inductive HeadAxis where
  | span
  | rotate
deriving DecidableEq, Repr

/-- The commands. -/
inductive Instr where
  -- resets, time and the link
  | powerOnReset (pins : BitVec 5) (estop : LineState) (tension : Tension) (limits : LimitState)
  | millisecondTick
  | upstreamFrameReceived (f : Frame)
  | downstreamFrameReceived (f : Frame)
  | framingError (p : Port)
  | interByteTimeout (p : Port)
  | lengthError (p : Port) (b : Byte)
  | downstreamSendEnd
  | upstreamSendEnd
  -- requests
  | place (tag : Byte) (payload : List Byte)
  | tableLoadComponent (tag : Byte) (first : Word16) (count : Byte) (body : List Byte)
  | tableLoadSpan (tag : Byte) (first : Word16) (count : Byte) (body : List Byte)
  | tableLoadStationMap (tag : Byte) (first : Word16) (count : Byte) (body : List Byte)
  | tableLoadProfile (tag : Byte) (first : Word16) (count : Byte) (body : List Byte)
  | tableLoadFilterSet (tag : Byte) (first : Word16) (count : Byte) (body : List Byte)
  | tableLoadPanelPattern (tag : Byte) (first : Word16) (count : Byte) (body : List Byte)
  | tableLoadAlarmMap (tag : Byte) (first : Word16) (count : Byte) (body : List Byte)
  | tableLoadConstants (tag : Byte) (first : Word16) (count : Byte) (body : List Byte)
  | tableReadComponent (tag : Byte) (first : Word16) (count : Byte)
  | tableReadSpan (tag : Byte) (first : Word16) (count : Byte)
  | tableReadStationMap (tag : Byte) (first : Word16) (count : Byte)
  | tableReadProfile (tag : Byte) (first : Word16) (count : Byte)
  | tableReadFilterSet (tag : Byte) (first : Word16) (count : Byte)
  | tableReadPanelPattern (tag : Byte) (first : Word16) (count : Byte)
  | tableReadAlarmMap (tag : Byte) (first : Word16) (count : Byte)
  | tableReadConstants (tag : Byte) (first : Word16) (count : Byte)
  | tableReadStationRecords (tag : Byte) (first : Word16) (count : Byte)
  | tableReadSubstitution (tag : Byte) (first : Word16) (count : Byte)
  | tableReadWear (tag : Byte) (first : Word16) (count : Byte)
  | tableReadLastSignature (tag : Byte) (first : Word16) (count : Byte)
  | tableReadImages (tag : Byte) (first : Word16) (count : Byte)
  | stationFlags (tag : Byte) (station clearSet setSet : Byte)
  | run (tag : Byte)
  | hold (tag : Byte)
  | stop (tag : Byte)
  | hornOff (tag : Byte)
  | panelLoad (tag : Byte)
  | flush (tag : Byte)
  | sweep (tag : Byte) (payload : List Byte)
  | sweepResult (tag : Byte)
  | tapeClear (tag : Byte)
  | mode (tag : Byte) (value : Byte)
  | alarmRead (tag : Byte) (channel : Byte)
  | alarmClear (tag : Byte) (channel : Byte) (seq : Word16)
  | status (tag : Byte)
  | recordReadStart (tag : Byte)
  | recordReadNext (tag : Byte)
  | reset (tag : Byte)
  -- operator panel and sensor lines
  | resumeButton
  | holdButton
  | clearButton
  | skipButton
  | estopAsserted
  | estopReleased
  | tensionBreak
  | tensionNormal
  | limitActive
  | limitReleased
  -- the chain and the station exchange
  | chainStepStart
  | chainIndexEvent (clipPresent : Bool)
  | chainStepTimeout
  | exchangeSend
  | exchangeComplete (replies : List ReplySlot)
  | unusableStationCascade
  -- the taper
  | tapedEvent
  | dumpEvent
  | taperTimeout
  | taperRestart
  -- marking notices at their holders
  | markingNoticePin
  | markingNoticeCsq
  | markingNoticeTpc
  | markingNoticeHdc
  -- the head and the clinch signature
  | insertCycleStart
  | dumpCycleStart
  | freeDumpCycleStart
  | axisInPosition (axis : HeadAxis)
  | spanFault
  | cutDone
  | formDone
  | driveDone
  | clinchDone
  | ejectDone
  | headUp
  | phaseTimeout
  | homingStart
  | homeDone
  | forceSample (code : BitVec 12)
  | silenceTimeout
  -- the table and the handler
  | loadStart
  | unloadStart
  | clamped
  | released
  | handlerTimeout
  | handlerRestart
  | surveyMoveStart
  | insertMoveStart
  | inPosition (markPresent : Bool)
  | followingError
  | moveTimeout
  -- bytes on the receive lines
  | frameByteReceived (p : Port) (b : Byte)
  | frameCrcMismatch (p : Port) (b : Byte)
deriving DecidableEq, Repr

end Sys2Proof
end

