-- ==== Sys2Proof/Config.lean ====
section
/-! DEFINITION. Capacities the spec fixes for every AX-610, and the one free value the spec leaves open. -/

namespace Sys2Proof.Config

/-- R6: the Placement Queue holds up to 64 records. -/
abbrev queueCapacity : Nat := 64
/-- R3: the most records of one PLACE frame. -/
abbrev placeMost : Nat := 24
/-- R141: each alarm channel holds up to 8 entries. -/
abbrev channelCapacity : Nat := 8
/-- R160, R162: a forward buffer and the answer queue hold up to 2 frames each. -/
abbrev bufferCapacity : Nat := 2
/-- R61: the Substitution Table holds up to 8 entries. -/
abbrev substCapacity : Nat := 8
/-- R56: the stations 1..96. -/
abbrev stationCount : Nat := 96
/-- R20: the places of the component table. -/
abbrev componentCount : Nat := 512
/-- R23: the places of the span table. -/
abbrev spanCount : Nat := 16
/-- R106: the places of the profile table. -/
abbrev profileCount : Nat := 32
/-- R108: the places of the filter set table. -/
abbrev filterCount : Nat := 4
/-- R139: the alarm kinds that have a map entry. -/
abbrev mapCount : Nat := 22
/-- R169: the bytes of the Record Ring. -/
abbrev ringBytes : Nat := 8192
/-- R170: the bytes of records one RECORD READ answer holds. -/
abbrev readBytes : Nat := 232
/-- R166: the data bytes one TABLE READ answer holds. -/
abbrev answerDataBytes : Nat := 238
/-- R157: the greatest length byte. -/
abbrev payloadMost : Nat := 240
/-- The greatest table X coordinate (00_scope.md, Units; R4). -/
abbrev travelX : Int := 45000
/-- The greatest table Y coordinate (00_scope.md, Units; R4). -/
abbrev travelY : Int := 36000
/-- The greatest value of a 16-bit saturating count. -/
abbrev sat16 : Nat := 65535
/-- R109: the silence timer starts with 2 ms. -/
abbrev silenceMs : Nat := 2
/-- R157: the gap allowed between two bytes of a frame, 1 ms. -/
abbrev gapMs : Nat := 1

/-- FREE VALUE (log 10). R155: the posts that a reset makes for ESTOP, TAPE BREAK and TABLE LIMIT "are independent
events and are taken in any order". Applied to the number of the reset it names one of their six orders; nothing
constrains it. -/
opaque repostOrder : Nat → Nat

end Sys2Proof.Config
end

