-- ==== Sys2Proof/Machine/State.lean ====
section
/-! DEFINITION. The state of the AX-610, block by block as the chapters give it, and its value after power-on reset.
Plain data throughout: every register, queue, table, timer, line and count of the spec, and three fields of the model's
own (pending, nextUid, resets). -/

namespace Sys2Proof.Machine

/-! ### Names -/

/-- Run levels (R146, R147). -/
inductive Level where
  | run
  | hold
  | stop
deriving DecidableEq, Repr

/-- The three modes (00_scope.md, Modes; R28 place 14). -/
inductive Mode where
  | sequenceInsert
  | sequenceOnly
  | insertOnly
deriving DecidableEq, Repr

/-- Rotation of the head for a component (R1). -/
inductive Orientation where
  | deg0
  | deg90
deriving DecidableEq, Repr

/-- Direction of the anvil's clinch (R20). -/
inductive ClinchForm where
  | inward
  | outward
deriving DecidableEq, Repr

/-- A block's own timer (R138): stopped, running or suspended with the milliseconds that remain. -/
inductive Timer where
  | stopped
  | running (left : Nat)
  | suspended (left : Nat)
deriving DecidableEq, Repr

/-- Clip states (R32). A RESERVED or LOADED clip's entry is the window entry at that clip position; a TEST clip names the
station tested. -/
inductive ClipState where
  | empty
  | reserved
  | loaded
  | reject
  | test (station : Nat)
  | unknown
deriving DecidableEq, Repr

/-- Sequencer states (R38). -/
inductive SeqState where
  | idle
  | running
  | held
  | sweeping
  | purging
deriving DecidableEq, Repr

/-- Chain cycle states (section 3.6). -/
inductive ChainCycle where
  | rest
  | step
  | settle
deriving DecidableEq, Repr

/-- States of a window entry (R33). -/
inductive EntryStatus where
  | unassigned
  | reserved
  | loaded
  | taping
deriving DecidableEq, Repr

/-- States of the exchange (section 3.9). -/
inductive ExchangeState where
  | none
  | waiting
  | inFlight
  | complete
deriving DecidableEq, Repr

/-- A command slot (R50); FIRE carries the number of the entry it was built for (R52), TEST the chain position of the clip
that was made TEST for it (R53) and whether its reply is judged: no, once the sweep that built it has ended (R72). -/
inductive SlotCommand where
  | none
  | fire (uid : Nat)
  | test (clip : Nat) (judged : Bool)
deriving DecidableEq, Repr

/-- A reply as CSQ reads it (R52). -/
inductive Reply where
  | dropped
  | droppedLow
  | noPart
  | empty
  | fault
  | silent
deriving DecidableEq, Repr

/-- Operations of the transfer action (R75). -/
inductive TransferOp where
  | tape
  | dump
deriving DecidableEq, Repr

/-- Phases of a transfer action (section 5.1). -/
inductive TransferPhase where
  | waitTape
  | running
  | suspended
  | stalled
deriving DecidableEq, Repr

/-- Head states (R88). -/
inductive HeadState where
  | idle
  | setup
  | cut
  | form
  | waitTable
  | drive
  | clinch
  | retract
  | eject
  | homing
  | fault
deriving DecidableEq, Repr

/-- Kinds of head cycle (section 6.2). -/
inductive CycleKind where
  | insert
  | dump
  | freeDump
deriving DecidableEq, Repr

/-- Outcomes of entries and records (R169). -/
inductive RecordOutcome where
  | inserted
  | dumped
  | rejected
  | lost
  | aborted
  | flushed
  | taped
deriving DecidableEq, Repr

/-- Verdicts (R117). -/
inductive Verdict where
  | good
  | low
  | high
  | empty
  | timing
  | area
  | dwell
  | sensor
  | unchecked
deriving DecidableEq, Repr

/-- Fault policies of a profile (R106). -/
inductive FaultPolicy where
  | stop
  | hold
  | mark
deriving DecidableEq, Repr

/-- Panel states (section 8.3). -/
inductive PanelState where
  | empty
  | loading
  | survey
  | ready
  | unloading
deriving DecidableEq, Repr

/-- Handler operations (R128). -/
inductive HandlerOp where
  | load
  | release
deriving DecidableEq, Repr

/-- Phases of a handler operation (R128). -/
inductive HandlerPhase where
  | running
  | suspended
  | stalled
deriving DecidableEq, Repr

/-- Image states (R125). -/
inductive ImageState where
  | good
  | bad
  | rejected
deriving DecidableEq, Repr

/-- Pitches a selector names (R123). -/
inductive Selector where
  | a
  | b
  | c
deriving DecidableEq, Repr

/-- The four alarm channels (R139, numbers 0..3). -/
inductive ChannelId where
  | stop
  | hold
  | warn
  | note
deriving DecidableEq, Repr

/-- Alarm kinds (R139). -/
inductive AlarmKind where
  | estop
  | chainJam
  | taperJam
  | tapeBreak
  | headJam
  | spanFault
  | tableFollow
  | tableLimit
  | handlerFault
  | placementRetry
  | clinchRepeat
  | noStation
  | substFull
  | sensorSilent
  | stationJam
  | stationEmpty
  | reelLow
  | cutterWear
  | strayPart
  | badImage
  | sweepDone
  | linkErrors
  | clinchFault
deriving DecidableEq, Repr

/-- Sweep outcomes (R73). -/
inductive SweepOutcome where
  | done
  | over
  | aborted
deriving DecidableEq, Repr

/-- The two sources of upstream-out (R161). -/
inductive Source where
  | forwarded
  | own
deriving DecidableEq, Repr

/-- Result codes (00_scope.md, Result codes; R166). -/
inductive ResultCode where
  | ok
  | accepted
  | busy
  | full
  | badIndex
  | badValue
  | unknownComponent
  | offTable
  | locked
  | causePresent
  | alarmActive
  | badKind
  | badLength
deriving DecidableEq, Repr

/-- The last command on a drive, taper or gate line (log 8). -/
inductive LineCommand where
  | none
  | start
  | stop
  | halt
  | goOn
deriving DecidableEq, Repr

/-- The last command on the handler line (R128; log 8). -/
inductive HandlerCommand where
  | none
  | load
  | release
  | stop
  | halt
  | goOn
deriving DecidableEq, Repr

/-- The last command on the cam drive line (R89; log 8). -/
inductive CamCommand where
  | none
  | phase (p : HeadState)
  | halt
deriving DecidableEq, Repr

/-- The last command to a head axis (R92, R102; log 8). -/
inductive AxisCommand where
  | none
  | target (v : Nat)
  | reference
  | halt
deriving DecidableEq, Repr

/-- The last command to the table axes (R132, R134; log 8). -/
inductive TableCommand where
  | none
  | target (x y : Int) (followLimit : Nat)
  | halt
deriving DecidableEq, Repr

/-! ### Link Port Unit and Record Ring (chapter 10) -/

/-- Receive state of a port (R157): HUNTING, or the bytes after the lead with the inter-byte gap that remains. -/
inductive Receive where
  | hunting
  | frame (bytes : List Byte) (gap : Nat)
deriving DecidableEq, Repr

/-- Receive error counts of a port (R157). -/
structure ErrorCounts where
  crc : Nat
  framing : Nat
  length : Nat
deriving DecidableEq, Repr

/-- An own frame in the answer queue; `endsInReset` marks the answer to a RESET (R171). -/
structure OwnFrame where
  frame : Frame
  endsInReset : Bool
deriving DecidableEq, Repr

structure Lpu where
  addressPins : BitVec 5
  address : Option Nat
  rxUp : Receive
  rxDown : Receive
  downForward : List Frame
  upForward : List Frame
  answers : List OwnFrame
  /-- the source whose oldest frame is being sent on upstream-out -/
  sending : Option Source
  lastServed : Source
  errUp : ErrorCounts
  errDown : ErrorCounts
  dropDown : Nat
  dropUp : Nat
  requestDrops : Nat
  noticeDrops : Nat
  windowStart : Word32
  windowCount : Nat
  resetPending : Bool
deriving DecidableEq, Repr

/-- The signature part of a long record (R169). -/
structure RecordSignature where
  verdict : Verdict
  peak : Int
  peakIndex : Nat
  area : Nat
  contact : Nat
deriving DecidableEq, Repr

/-- A record of the Record Ring (R169); long when it holds a signature. -/
structure RingRecord where
  outcome : RecordOutcome
  step : Word16
  panel : Byte
  image : Nat
  component : Nat
  station : Nat
  signature : Option RecordSignature
deriving DecidableEq, Repr

structure Rrg where
  records : List RingRecord
  /-- how many of the oldest records are in transit (R170) -/
  inTransit : Nat
  lost : Nat
deriving DecidableEq, Repr

/-! ### Placement Intake (chapter 1) -/

/-- A placement record (R1). -/
structure Placement where
  step : Word16
  component : Nat
  x : Nat
  y : Nat
  orientation : Orientation
  image : Nat
deriving DecidableEq, Repr

/-- A place of the Placement Queue (R6). -/
inductive QueueRecord where
  | placement (p : Placement)
  | boundary
deriving DecidableEq, Repr

/-- A marking notice of TBC on its way to a holder (R130). -/
structure MarkNotice where
  panel : Byte
  image : Nat
deriving DecidableEq, Repr

structure Pin where
  queue : List QueueRecord
  cursor : Option Nat
  takePanel : Byte
  taken : Word32
  flushed : Word32
  rejected : Word32
  ask : Bool
  marks : List MarkNotice
deriving DecidableEq, Repr

/-! ### Loaded tables (chapter 2) -/

/-- A component table entry (R20), its fields as last loaded. -/
structure ComponentEntry where
  valid : Bool
  station : Nat
  spanCode : Nat
  profile : Nat
  /-- 0 INWARD, 1 OUTWARD; a retired entry keeps the byte as given -/
  form : Nat
  /-- 1 yes, 0 no; a retired entry keeps the byte as given -/
  checkSkip : Nat
deriving DecidableEq, Repr

/-- A station map entry (R24); drop position 0 is "not fitted". -/
structure StationMapEntry where
  drop : Nat
  spare : Nat
deriving DecidableEq, Repr

/-- The machine constants record, in the order of its places (R28). -/
structure MachineConstants where
  chainLength : Nat
  sensePos : Nat
  fireLimit : Nat
  missLimit : Nat
  retryLimit : Nat
  festoon : Nat
  stepTimeout : Nat
  taperTimeout : Nat
  headTimeout : Nat
  axisTimeout : Nat
  moveTimeout : Nat
  followLimit : Nat
  repeatLimit : Nat
  mode : Mode
deriving DecidableEq, Repr

structure Tables where
  components : List ComponentEntry
  spans : List (Option Nat)
  stations : List StationMapEntry
  constants : MachineConstants
deriving DecidableEq, Repr

/-! ### Chain Sequencer (chapter 3) -/

/-- The fields an entry captures (R22). -/
structure Captured where
  station : Nat
  span : Nat
  profile : Nat
  form : ClinchForm
  checkSkip : Bool
deriving DecidableEq, Repr

/-- An entry as PIN hands it out (R7); `uid` is the model's own mark of identity (log 5). -/
structure Entry where
  uid : Nat
  step : Word16
  component : Nat
  x : Nat
  y : Nat
  orientation : Orientation
  image : Nat
  panel : Byte
deriving DecidableEq, Repr

/-- An entry of the Sequence Window (R33). -/
structure WindowEntry where
  entry : Entry
  captured : Option Captured
  tries : Nat
  status : EntryStatus
  clip : Option Nat
  discard : Bool
deriving DecidableEq, Repr

structure Csq where
  ring : List ClipState
  base : Nat
  window : List WindowEntry
  fireLoad : List Nat
  seq : SeqState
  cycle : ChainCycle
  stepTimer : Timer
  abandoned : Bool
  exchange : ExchangeState
  commands : List SlotCommand
  replies : List Reply
  /-- SHU's unusable-station notices not yet taken (R36, R60) -/
  unusable : List Nat
  marks : List MarkNotice
deriving DecidableEq, Repr

/-! ### Station Health Unit (chapter 4) -/

/-- A station record (R56). -/
structure StationRecord where
  enabled : Bool
  jammed : Bool
  empty : Bool
  low : Bool
  sweepFailed : Bool
  consecutive : Nat
  total : Nat
  fires : Word32
deriving DecidableEq, Repr

/-- A Substitution Table entry (R61). -/
structure SubstEntry where
  failed : Nat
  substitute : Nat
  time : Word32
  served : Nat
deriving DecidableEq, Repr

/-- A member record of a sweep (section 4.5). -/
structure SweepMember where
  station : Nat
  fired : Nat
  awaiting : Nat
  resolved : Nat
  failed : Bool
deriving DecidableEq, Repr

/-- The sweep context (section 4.5). -/
structure Sweep where
  group : Nat
  passes : Nat
  withSubst : Bool
  waiting : List Nat
  /-- the stations of the current group -/
  current : List Nat
  /-- a member record for every station put in a group so far -/
  members : List SweepMember
deriving DecidableEq, Repr

/-- The sweep result record (R73). -/
structure SweepResult where
  outcome : SweepOutcome
  tested : Nat
  failed : List Nat
  substitutions : Nat
deriving DecidableEq, Repr

structure Shu where
  records : List StationRecord
  subst : List SubstEntry
  sweep : Option Sweep
  result : Option SweepResult
deriving DecidableEq, Repr

/-! ### Taper Controller (chapter 5) -/

structure Transfer where
  op : TransferOp
  phase : TransferPhase
deriving DecidableEq, Repr

/-- An entry of the Tape List (R82). -/
structure TapeEntry where
  entry : Entry
  captured : Captured
  discard : Bool
deriving DecidableEq, Repr

structure Tpc where
  transfer : Option Transfer
  timer : Timer
  tape : List TapeEntry
  verified : Bool
  reel : Nat
  rejectGate : Word32
  taped : Word32
  tension : Tension
  marks : List MarkNotice
  /-- the effective level has left STOP since the operation stalled (R79; log 17) -/
  restartDue : Bool
deriving DecidableEq, Repr

/-! ### Head Controller (chapter 6) -/

/-- The features CSU hands to HDC with a verdict (R117). -/
structure Features where
  peak : Int
  peakIndex : Nat
  area : Nat
  contact : Nat
deriving DecidableEq, Repr

/-- The cycle context (R91, R92, R96). -/
structure HeadCycle where
  kind : CycleKind
  /-- the front entry at the start; absent in a free dump cycle -/
  entry : Option TapeEntry
  driven : Bool
  verdict : Option Verdict
  features : Option Features
  /-- SETUP: the span axis is commanded and has not reported -/
  spanDue : Bool
  /-- SETUP: the rotate axis is commanded and has not reported -/
  rotateDue : Bool
deriving DecidableEq, Repr

structure Hdc where
  head : HeadState
  cycle : Option HeadCycle
  timer : Timer
  span : Option Nat
  rotate : Option Orientation
  clear : Bool
  skip : Bool
  inserted : Word32
  dumped : Word32
  lost : Word32
  aborted : Word32
  marks : List MarkNotice
deriving DecidableEq, Repr

/-! ### Clinch Signature Unit (chapter 7) -/

/-- A profile (R106). -/
structure Profile where
  filterSet : Nat
  windowLength : Nat
  emptyLevel : Nat
  contactLevel : Nat
  peakMin : Nat
  peakMax : Nat
  indexMin : Nat
  indexMax : Nat
  areaMin : Nat
  areaMax : Nat
  contactMin : Nat
  policy : FaultPolicy
  wearLevel : Nat
deriving DecidableEq, Repr

/-- A filter set (R108). -/
structure FilterSet where
  b0 : Int
  b1 : Int
  b2 : Int
  a1 : Int
  a2 : Int
  bypass : Bool
deriving DecidableEq, Repr

/-- The window context of an OPEN sample window (R109); the received count is the number of samples. -/
structure SampleWindow where
  step : Word16
  panel : Byte
  image : Nat
  profileNo : Nat
  profile : Profile
  filter : FilterSet
  samples : List Nat
deriving DecidableEq, Repr

/-- Everything CSU measures from a window of at least five samples (R113, R116). -/
structure Measurement where
  baseline : Int
  saturated : Bool
  peak : Int
  peakIndex : Nat
  area : Nat
  contact : Nat
  release : Option Nat
deriving DecidableEq, Repr

/-- The last signature (R121). -/
structure Signature where
  step : Word16
  panel : Byte
  image : Nat
  profile : Nat
  verdict : Verdict
  held : Nat
  measured : Option Measurement
deriving DecidableEq, Repr

structure Csu where
  profiles : List (Option Profile)
  filters : List FilterSet
  wear : List Nat
  window : Option SampleWindow
  silence : Timer
  faults : Nat
  last : Option Signature
deriving DecidableEq, Repr

/-! ### Table Controller (chapter 8) -/

/-- The panel pattern (R123). -/
structure Pattern where
  originX : Int
  originY : Int
  count : Nat
  pitchA : Int × Int
  pitchB : Int × Int
  pitchC : Int × Int
  selectors : List Selector
  badMark : Option (Int × Int)
deriving DecidableEq, Repr

/-- An image record (R125). -/
structure ImageRecord where
  offset : Int × Int
  state : ImageState
  inserted : Nat
  faults : Nat
deriving DecidableEq, Repr

/-- What a move is for (R132). -/
inductive MoveKind where
  | insert (uid : Nat)
  | survey (image : Nat)
deriving DecidableEq, Repr

structure Move where
  kind : MoveKind
  x : Int
  y : Int
deriving DecidableEq, Repr

/-- The in-position record (R133). -/
inductive InPosition where
  | none
  | entry (uid : Nat)
  | image (n : Nat)
deriving DecidableEq, Repr

structure HandlerOperation where
  op : HandlerOp
  phase : HandlerPhase
deriving DecidableEq, Repr

structure Tbc where
  pattern : Option Pattern
  panel : PanelState
  current : Byte
  loadWanted : Bool
  handler : Option HandlerOperation
  handlerTimer : Timer
  images : List ImageRecord
  /-- `none` is DONE -/
  cursor : Option Nat
  move : Option Move
  moveTimer : Timer
  inPosition : InPosition
  limits : LimitState
  /-- the effective level has left STOP since the operation stalled (R128; log 17) -/
  restartDue : Bool
deriving DecidableEq, Repr

/-! ### Alarm Controller (chapter 9) -/

/-- An alarm map entry (R139). -/
structure MapEntry where
  channel : ChannelId
  suppress : Bool
deriving DecidableEq, Repr

/-- An alarm entry (R141). -/
structure AlarmEntry where
  seq : Word16
  kind : AlarmKind
  subject : Option Nat
  channel : ChannelId
  first : Word32
  last : Word32
  repeats : Nat
deriving DecidableEq, Repr

/-- A channel queue with its overflow and suppressed counts (R141, R142). -/
structure Channel where
  entries : List AlarmEntry
  overflow : Nat
  suppressed : Nat
deriving DecidableEq, Repr

structure Alc where
  ms : Word32
  map : List MapEntry
  stopCh : Channel
  holdCh : Channel
  warnCh : Channel
  noteCh : Channel
  nextSeq : Word16
  requested : Level
  effective : Level
  estop : LineState
  horn : Bool
  red : Bool
  amber : Bool
  green : Bool
deriving DecidableEq, Repr

/-- The last command the part gave on each of its output lines (section 10.9; log 8). -/
structure Outputs where
  chainDrive : LineCommand
  reTaper : LineCommand
  gate : LineCommand
  cam : CamCommand
  spanAxis : AxisCommand
  rotateAxis : AxisCommand
  clinch : Option ClinchForm
  tableAxes : TableCommand
  handler : HandlerCommand
  conversions : Bool
deriving DecidableEq, Repr

structure State where
  /-- the commands that are waiting, first in, first out -/
  pending : List Instr
  lpu : Lpu
  rrg : Rrg
  pin : Pin
  tables : Tables
  csq : Csq
  shu : Shu
  tpc : Tpc
  hdc : Hdc
  csu : Csu
  tbc : Tbc
  alc : Alc
  out : Outputs
  /-- the number the next entry gets (log 5) -/
  nextUid : Nat
  /-- how many resets have been taken; read by `Config.repostOrder` (log 10) -/
  resets : Nat
deriving DecidableEq, Repr

/-- Nothing in the spec stops the part: every untimely event is ignored and every jam is an alarm (INVENTORY.md, Faults).
Safe: no constructor, so no claim can rest on a stop. -/
inductive Fault where
deriving DecidableEq, Repr

/-- Refusals. -/
inductive Refusal where
  /-- Raised only by an arm of `exec` whose command has no meaning yet. Safe: the model stops. -/
  | notModelled (mnemonic : String)
deriving DecidableEq, Repr

/-! ### After power-on reset, lines at rest -/

/-- R28: the default machine constants. -/
def MachineConstants.default : MachineConstants :=
  { chainLength := 128, sensePos := 3, fireLimit := 6, missLimit := 3, retryLimit := 2, festoon := 32,
    stepTimeout := 400, taperTimeout := 300, headTimeout := 250, axisTimeout := 800, moveTimeout := 3000,
    followLimit := 40, repeatLimit := 3, mode := .sequenceInsert }

/-- R139: the default alarm map, kinds 0..21. -/
def Alc.defaultMap : List MapEntry :=
  List.replicate 11 ⟨.stop, false⟩ ++ List.replicate 3 ⟨.hold, false⟩ ++ List.replicate 4 ⟨.warn, false⟩
    ++ List.replicate 4 ⟨.note, false⟩

/-- R172, with address pins 0 (log 6). -/
def Lpu.reset : Lpu :=
  { addressPins := 0, address := none, rxUp := .hunting, rxDown := .hunting, downForward := [], upForward := [],
    answers := [], sending := none, lastServed := .own, errUp := ⟨0, 0, 0⟩, errDown := ⟨0, 0, 0⟩, dropDown := 0,
    dropUp := 0, requestDrops := 0, noticeDrops := 0, windowStart := 0, windowCount := 0, resetPending := false }

/-- R17. -/
def Pin.reset : Pin :=
  { queue := [], cursor := none, takePanel := 1, taken := 0, flushed := 0, rejected := 0, ask := false, marks := [] }

/-- R20, R23, R24, R28. -/
def Tables.reset : Tables :=
  { components := List.replicate Config.componentCount ⟨false, 1, 0, 0, 0, 0⟩,
    spans := List.replicate Config.spanCount none,
    stations := List.replicate Config.stationCount ⟨0, 0⟩, constants := MachineConstants.default }

/-- R55; the slots before the first exchange by log 9. -/
def Csq.reset : Csq :=
  { ring := List.replicate 128 .unknown, base := 0, window := [], fireLoad := List.replicate 128 0, seq := .purging,
    cycle := .rest, stepTimer := .stopped, abandoned := false, exchange := .none,
    commands := List.replicate Config.stationCount .none, replies := List.replicate Config.stationCount .silent,
    unusable := [], marks := [] }

/-- R74. -/
def Shu.reset : Shu :=
  { records := List.replicate Config.stationCount ⟨true, false, false, false, false, 0, 0, 0⟩, subst := [],
    sweep := none, result := none }

/-- R87, tension NORMAL (log 7). -/
def Tpc.reset : Tpc :=
  { transfer := none, timer := .stopped, tape := [], verified := false, reel := 0, rejectGate := 0, taped := 0,
    tension := .normal, marks := [], restartDue := false }

/-- R105. -/
def Hdc.reset : Hdc :=
  { head := .fault, cycle := none, timer := .stopped, span := none, rotate := none, clear := false, skip := false,
    inserted := 0, dumped := 0, lost := 0, aborted := 0, marks := [] }

/-- R122. -/
def Csu.reset : Csu :=
  { profiles := List.replicate Config.profileCount none,
    filters := List.replicate Config.filterCount ⟨8192, 0, 0, 0, 0, true⟩,
    wear := List.replicate Config.profileCount 0, window := none, silence := .stopped, faults := 0, last := none }

/-- R137, limit switches RELEASED (log 7); the release runs with the default table move timeout (R128). -/
def Tbc.reset : Tbc :=
  { pattern := none, panel := .empty, current := 0, loadWanted := false, handler := some ⟨.release, .running⟩,
    handlerTimer := .running 3000, images := [], cursor := none, move := none, moveTimer := .stopped,
    inPosition := .none, limits := .released, restartDue := false }

/-- R155, E-stop line RELEASED (log 7). -/
def Alc.reset : Alc :=
  { ms := 0, map := Alc.defaultMap, stopCh := ⟨[], 0, 0⟩, holdCh := ⟨[], 0, 0⟩, warnCh := ⟨[], 0, 0⟩,
    noteCh := ⟨[], 0, 0⟩, nextSeq := 0, requested := .stop, effective := .stop, estop := .released, horn := false,
    red := false, amber := false, green := false }

/-- The output lines after power-on (log 8): the handler's release and the table axes' halt by R137, the rest not yet
commanded. -/
def Outputs.reset : Outputs :=
  { chainDrive := .none, reTaper := .none, gate := .none, cam := .none, spanAxis := .none, rotateAxis := .none,
    clinch := none, tableAxes := .halt, handler := .release, conversions := false }

/-- The part right after power-on reset with the E-stop line, the tension sensor and the limit switches at rest (R17,
R55, R74, R87, R105, R122, R137, R155, R172; section 11.1). -/
def State.reset : State :=
  { pending := [], lpu := Lpu.reset, rrg := ⟨[], 0, 0⟩, pin := Pin.reset, tables := Tables.reset, csq := Csq.reset,
    shu := Shu.reset, tpc := Tpc.reset, hdc := Hdc.reset, csu := Csu.reset, tbc := Tbc.reset, alc := Alc.reset,
    out := Outputs.reset, nextUid := 0, resets := 0 }

end Sys2Proof.Machine
end

