-- ==== Sys2Proof/Machine/Operands.lean ====
section
/-! DEFINITION. Operand forms: bytes and their order on the link, the CRC, the codes of named values, and the fields of
placement records and table entries read from payload bytes (R158, R164 to R166). -/

namespace Sys2Proof.Machine

/-! ### Bytes; multi-byte fields most significant byte first (chapter 10, opening) -/

/-- The low eight bits of a number. -/
def byte (n : Nat) : Byte := BitVec.ofNat 8 n

def be16 (n : Nat) : List Byte := [byte (n / 256), byte n]

def be24 (n : Nat) : List Byte := [byte (n / 65536), byte (n / 256), byte n]

def be32 (n : Nat) : List Byte := [byte (n / 16777216), byte (n / 65536), byte (n / 256), byte n]

/-- A signed field of two bytes, two's complement. -/
def be16s (i : Int) : List Byte := be16 (i % 65536).toNat

/-- A signed field of four bytes, two's complement. -/
def be32s (i : Int) : List Byte := be32 (i % 4294967296).toNat

def flagByte (b : Bool) : Byte := if b then 1 else 0

def u16 (h l : Byte) : Nat := h.toNat * 256 + l.toNat

def u24 (a b c : Byte) : Nat := a.toNat * 65536 + b.toNat * 256 + c.toNat

def s16 (h l : Byte) : Int := if u16 h l < 32768 then (u16 h l : Int) else (u16 h l : Int) - 65536

def u32 (a b c d : Byte) : Nat := u16 a b * 65536 + u16 c d

def s32 (a b c d : Byte) : Int :=
  if u32 a b c d < 2147483648 then (u32 a b c d : Int) else (u32 a b c d : Int) - 4294967296

/-! ### The CRC (R158) -/

/-- One bit of the CRC: shift left; where the bit shifted out differs from the data bit, combine with 1021h. -/
def crcBit (crc : Word16) (data : Bool) : Word16 :=
  if crc.getLsbD 15 = data then crc <<< 1 else (crc <<< 1) ^^^ 0x1021#16

/-- One byte, most significant bit first. -/
def crcByte (crc : Word16) (b : Byte) : Word16 :=
  [7, 6, 5, 4, 3, 2, 1, 0].foldl (fun c i => crcBit c (b.getLsbD i)) crc

def crc16 (bytes : List Byte) : Word16 := bytes.foldl crcByte 0xFFFF#16

/-- The bytes of a frame the CRC is computed over: address, kind, tag, length, payload. -/
def Frame.covered (f : Frame) : List Byte :=
  [f.address, f.kind, f.tag, byte f.payload.length] ++ f.payload

/-- The CRC received equals the CRC computed (R157, R158). -/
def Frame.crcRight (f : Frame) : Bool := decide (f.crc = crc16 (Frame.covered f))

/-- A frame of the part's own, with the CRC computed (R158). -/
def mkFrame (address kind tag : Byte) (payload : List Byte) : Frame :=
  { address := address, kind := kind, tag := tag, payload := payload,
    crc := crc16 ([address, kind, tag, byte payload.length] ++ payload) }

/-- The frame whose bytes after the lead stand in a receiver that has taken its last CRC byte (R157, R158). -/
def frameOfBytes : List Byte → Option Frame
  | address :: kind :: tag :: len :: rest =>
    match rest.drop len.toNat with
    | [h, l] => some ⟨address, kind, tag, rest.take len.toNat, BitVec.ofNat 16 (u16 h l)⟩
    | _ => none
  | _ => none

/-! ### Codes of named values (R166) -/

def ResultCode.code : ResultCode → Nat
  | .ok => 0 | .accepted => 1 | .busy => 2 | .full => 3 | .badIndex => 4 | .badValue => 5
  | .unknownComponent => 6 | .offTable => 7 | .locked => 8 | .causePresent => 9 | .alarmActive => 10
  | .badKind => 11 | .badLength => 12

def Level.code : Level → Nat
  | .run => 0 | .hold => 1 | .stop => 2

def SeqState.code : SeqState → Nat
  | .idle => 0 | .running => 1 | .held => 2 | .sweeping => 3 | .purging => 4

def ChainCycle.code : ChainCycle → Nat
  | .rest => 0 | .step => 1 | .settle => 2

def HeadState.code : HeadState → Nat
  | .idle => 0 | .setup => 1 | .cut => 2 | .form => 3 | .waitTable => 4 | .drive => 5 | .clinch => 6
  | .retract => 7 | .eject => 8 | .homing => 9 | .fault => 10

def PanelState.code : PanelState → Nat
  | .empty => 0 | .loading => 1 | .survey => 2 | .ready => 3 | .unloading => 4

def Mode.code : Mode → Nat
  | .sequenceInsert => 0 | .sequenceOnly => 1 | .insertOnly => 2

def Mode.ofCode : Nat → Option Mode
  | 0 => some .sequenceInsert | 1 => some .sequenceOnly | 2 => some .insertOnly | _ => none

def ImageState.code : ImageState → Nat
  | .good => 0 | .bad => 1 | .rejected => 2

def Verdict.code : Verdict → Nat
  | .good => 0 | .low => 1 | .high => 2 | .empty => 3 | .timing => 4 | .area => 5 | .dwell => 6
  | .sensor => 7 | .unchecked => 8

def FaultPolicy.code : FaultPolicy → Nat
  | .stop => 0 | .hold => 1 | .mark => 2

def FaultPolicy.ofCode : Nat → Option FaultPolicy
  | 0 => some .stop | 1 => some .hold | 2 => some .mark | _ => none

def Selector.code : Selector → Nat
  | .a => 0 | .b => 1 | .c => 2

def Selector.ofCode : Nat → Option Selector
  | 0 => some .a | 1 => some .b | 2 => some .c | _ => none

def SweepOutcome.code : SweepOutcome → Nat
  | .done => 1 | .over => 2 | .aborted => 3

def ChannelId.code : ChannelId → Nat
  | .stop => 0 | .hold => 1 | .warn => 2 | .note => 3

def ChannelId.ofCode : Nat → Option ChannelId
  | 0 => some .stop | 1 => some .hold | 2 => some .warn | 3 => some .note | _ => none

/-- R139: the kind numbers. -/
def AlarmKind.code : AlarmKind → Nat
  | .estop => 0 | .chainJam => 1 | .taperJam => 2 | .tapeBreak => 3 | .headJam => 4 | .spanFault => 5
  | .tableFollow => 6 | .tableLimit => 7 | .handlerFault => 8 | .placementRetry => 9 | .clinchRepeat => 10
  | .noStation => 11 | .substFull => 12 | .sensorSilent => 13 | .stationJam => 14 | .stationEmpty => 15
  | .reelLow => 16 | .cutterWear => 17 | .strayPart => 18 | .badImage => 19 | .sweepDone => 20
  | .linkErrors => 21 | .clinchFault => 22

/-- R169: the codes of short records; a long INSERTED record has 11h. -/
def RecordOutcome.code : RecordOutcome → Nat
  | .inserted => 1 | .dumped => 2 | .rejected => 3 | .lost => 4 | .aborted => 5 | .flushed => 6 | .taped => 7

/-- R166: a set of station flags. -/
def StationRecord.flags (r : StationRecord) : Byte :=
  byte ((if r.enabled then 1 else 0) + (if r.jammed then 2 else 0) + (if r.empty then 4 else 0)
    + (if r.low then 8 else 0) + (if r.sweepFailed then 16 else 0))

/-- R52: a slot with a parity error, or one the station did not fill, is silent. -/
def ReplySlot.reply : ReplySlot → Reply
  | .dropped => .dropped | .droppedLow => .droppedLow | .noPart => .noPart | .empty => .empty | .fault => .fault
  | .parityError => .silent | .unfilled => .silent

/-! ### Placement records (R165) -/

/-- A record of a PLACE payload: a boundary, or a 10-byte record of some type. -/
inductive StreamRecord where
  | boundary
  | tenByte (type : Byte) (p : Placement)
deriving DecidableEq, Repr

/-- The fields of a 10-byte record after its type byte. -/
def placementOf (s1 s0 c1 c0 x1 x0 y1 y0 img : Byte) : Placement :=
  { step := BitVec.ofNat 16 (u16 s1 s0), component := u16 c1 c0, x := u16 x1 x0, y := u16 y1 y0,
    orientation := if img.toNat < 128 then .deg0 else .deg90, image := img.toNat % 128 }

/-- LPU's walk over a PLACE payload (R165): none when it does not end exactly at the payload's end. -/
def walkRecords : List Byte → Option (List StreamRecord)
  | [] => some []
  | 2#8 :: rest => (walkRecords rest).map (StreamRecord.boundary :: ·)
  | t :: s1 :: s0 :: c1 :: c0 :: x1 :: x0 :: y1 :: y0 :: img :: rest =>
    (walkRecords rest).map (StreamRecord.tenByte t (placementOf s1 s0 c1 c0 x1 x0 y1 y0 img) :: ·)
  | _ => none

/-! ### Table entries (R166) -/

/-- The tables of R166 with their codes 01h to 0Dh. -/
inductive TableName where
  | component
  | span
  | stationMap
  | profile
  | filterSet
  | panelPattern
  | alarmMap
  | constants
  | stationRecords
  | substitution
  | wear
  | lastSignature
  | images
deriving DecidableEq, Repr

def TableName.code : TableName → Nat
  | .component => 1 | .span => 2 | .stationMap => 3 | .profile => 4 | .filterSet => 5 | .panelPattern => 6
  | .alarmMap => 7 | .constants => 8 | .stationRecords => 9 | .substitution => 10 | .wear => 11
  | .lastSignature => 12 | .images => 13

def TableName.ofCode : Nat → Option TableName
  | 1 => some .component | 2 => some .span | 3 => some .stationMap | 4 => some .profile | 5 => some .filterSet
  | 6 => some .panelPattern | 7 => some .alarmMap | 8 => some .constants | 9 => some .stationRecords
  | 10 => some .substitution | 11 => some .wear | 12 => some .lastSignature | 13 => some .images
  | _ => none

/-- The entry size of a table of fixed entry size; the panel pattern's 39 is without its selectors (R166). -/
def TableName.entrySize : TableName → Nat
  | .component => 6 | .span => 2 | .stationMap => 2 | .profile => 22 | .filterSet => 11 | .panelPattern => 39
  | .alarmMap => 2 | .constants => 20 | .stationRecords => 8 | .substitution => 8 | .wear => 5
  | .lastSignature => 20 | .images => 12

/-- `count` consecutive entries of `size` bytes. -/
def chunks (size : Nat) : Nat → List Byte → List (List Byte)
  | 0, _ => []
  | n + 1, body => body.take size :: chunks size n (body.drop size)

/-- The bytes of `count` panel pattern entries, each 39 + k with k its selector count at byte 29; none when the body
ends inside one (R166). -/
def patternBytes : Nat → List Byte → Option Nat
  | 0, _ => some 0
  | n + 1, body =>
    match body[29]? with
    | none => none
    | some k =>
      match patternBytes n (body.drop (39 + k.toNat)) with
      | none => none
      | some rest => some (39 + k.toNat + rest)

/-- R18 check 1 for a table known to R166: the body holds `count` entries of the table's size and nothing else. -/
def loadLengthRight (t : TableName) (count : Nat) (body : List Byte) : Bool :=
  match t with
  | .panelPattern => decide (patternBytes count body = some body.length)
  | _ => decide (body.length = count * t.entrySize)

/-- A COMPONENT entry: the valid byte and the entry (R166); a valid byte other than 0 and 1 is no entry. -/
def componentOf : List Byte → Option ComponentEntry
  | [v, st, sp, pr, cf, cs] =>
    if v.toNat ≤ 1 then some ⟨v.toNat == 1, st.toNat, sp.toNat, pr.toNat, cf.toNat, cs.toNat⟩ else none
  | _ => none

def spanOf : List Byte → Nat
  | [h, l] => u16 h l
  | _ => 0

def stationMapEntryOf : List Byte → StationMapEntry
  | [d, sp] => ⟨d.toNat, sp.toNat⟩
  | _ => ⟨0, 0⟩

/-- A PROFILE entry; none when the fault policy byte names no policy. -/
def profileOf : List Byte → Option Profile
  | [fs, w, e1, e0, c1, c0, n1, n0, m1, m0, i0, i1, a2, a1, a0, z2, z1, z0, cm, fp, w1, w0] =>
    match FaultPolicy.ofCode fp.toNat with
    | none => none
    | some p =>
      some { filterSet := fs.toNat, windowLength := w.toNat, emptyLevel := u16 e1 e0, contactLevel := u16 c1 c0,
             peakMin := u16 n1 n0, peakMax := u16 m1 m0, indexMin := i0.toNat, indexMax := i1.toNat,
             areaMin := u24 a2 a1 a0, areaMax := u24 z2 z1 z0, contactMin := cm.toNat, policy := p,
             wearLevel := u16 w1 w0 }
  | _ => none

/-- A FILTER SET entry; any bypass byte but 0 is "set" (log 24). -/
def filterOf : List Byte → FilterSet
  | [p1, p0, q1, q0, r1, r0, s1, s0, t1, t0, by0] =>
    ⟨s16 p1 p0, s16 q1 q0, s16 r1 r0, s16 s1 s0, s16 t1 t0, by0.toNat != 0⟩
  | _ => ⟨0, 0, 0, 0, 0, false⟩

/-- An ALARM MAP entry as carried: channel and suppress bytes. -/
def mapEntryOf : List Byte → Nat × Nat
  | [c, sp] => (c.toNat, sp.toNat)
  | _ => (0, 0)

/-- A PANEL PATTERN entry as carried, before its range checks (R123, R166). -/
structure RawPattern where
  originX : Nat
  originY : Nat
  count : Nat
  pitchA : Int × Int
  pitchB : Int × Int
  pitchC : Int × Int
  selectors : List Byte
  markPresent : Nat
  mark : Int × Int
deriving DecidableEq, Repr

/-- Two signed 4-byte fields. -/
def pairOf : List Byte → Int × Int
  | [a, b, c, d, e, f, g, h] => (s32 a b c d, s32 e f g h)
  | _ => (0, 0)

def rawPatternOf (body : List Byte) : RawPattern :=
  let b := fun i => body.getD i 0
  let k := (b 29).toNat
  { originX := u16 (b 0) (b 1), originY := u16 (b 2) (b 3), count := (b 4).toNat,
    pitchA := pairOf ((body.drop 5).take 8), pitchB := pairOf ((body.drop 13).take 8),
    pitchC := pairOf ((body.drop 21).take 8), selectors := (body.drop 30).take k,
    markPresent := (b (30 + k)).toNat, mark := pairOf ((body.drop (31 + k)).take 8) }

/-- The fourteen constants as carried, in the order of their places (R28, R166). -/
def rawConstantsOf : List Byte → List Nat
  | [l, sp, f, m, r, fe, a1, a0, b1, b0, c1, c0, d1, d0, e1, e0, g1, g0, rp, md] =>
    [l.toNat, sp.toNat, f.toNat, m.toNat, r.toNat, fe.toNat, u16 a1 a0, u16 b1 b0, u16 c1 c0, u16 d1 d0,
     u16 e1 e0, u16 g1 g0, rp.toNat, md.toNat]
  | _ => []

/-- The constants of a record in the order of their places. -/
def MachineConstants.places (k : MachineConstants) : List Nat :=
  [k.chainLength, k.sensePos, k.fireLimit, k.missLimit, k.retryLimit, k.festoon, k.stepTimeout, k.taperTimeout,
   k.headTimeout, k.axisTimeout, k.moveTimeout, k.followLimit, k.repeatLimit, k.mode.code]

/-- The record with these constants; the mode of an unknown code is not reached (R28 check). -/
def MachineConstants.ofPlaces (v : List Nat) : MachineConstants :=
  let p := fun i => v.getD i 0
  { chainLength := p 0, sensePos := p 1, fireLimit := p 2, missLimit := p 3, retryLimit := p 4, festoon := p 5,
    stepTimeout := p 6, taperTimeout := p 7, headTimeout := p 8, axisTimeout := p 9, moveTimeout := p 10,
    followLimit := p 11, repeatLimit := p 12, mode := (Mode.ofCode (p 13)).getD .sequenceInsert }

/-! ### SWEEP payloads (R164) -/

/-- The fields of a SWEEP request. -/
structure SweepFields where
  stations : List Nat
  groupSize : Nat
  passes : Nat
  variant : Nat
deriving DecidableEq, Repr

/-- The stations of a mask: in each byte the least significant bit is the lowest station. -/
def maskStations : Nat → List Byte → List Nat
  | _, [] => []
  | base, b :: rest =>
    ([0, 1, 2, 3, 4, 5, 6, 7].filter (fun i => b.getLsbD i)).map (base + ·) ++ maskStations (base + 8) rest

/-- R67 check 1 and R164: the fields of a SWEEP payload of the right length for its form, LIST 0 or MASK 1. -/
def sweepFieldsOf : List Byte → Option SweepFields
  | 0#8 :: k :: rest =>
    match rest.drop k.toNat with
    | [g, p, v] => some ⟨(rest.take k.toNat).map BitVec.toNat, g.toNat, p.toNat, v.toNat⟩
    | _ => none
  | 1#8 :: rest =>
    match rest.drop 12 with
    | [g, p, v] => some ⟨maskStations 1 (rest.take 12), g.toNat, p.toNat, v.toNat⟩
    | _ => none
  | _ => none

end Sys2Proof.Machine
end

