-- ==== Sys2Proof/Machine/Flags.lean ====
section
/-! DEFINITION. Values the part computes from its records and does not hold: the effective level and the lamps, station
usability and resolution, what is known of an image, counts that saturate, timers. -/

namespace Sys2Proof.Machine

/-! ### Counts and timers (00_scope.md, Counters; R138) -/

/-- A count that holds at its limit. -/
def satInc (limit n : Nat) : Nat := if n < limit then n + 1 else n

/-- A count that holds at its limit, `k` events at once. -/
def satAdd (limit n k : Nat) : Nat := max n (min limit (n + k))

/-- One millisecond of a timer; only a running timer runs. -/
def Timer.tick : Timer → Timer
  | .running n => .running (n - 1)
  | t => t

/-- E-stop keeps the time that remains (R44, R80, R128). -/
def Timer.suspend : Timer → Timer
  | .running n => .suspended n
  | t => t

/-- The timer runs on from the time it kept (R44, R80, R128). -/
def Timer.resume : Timer → Timer
  | .suspended n => .running n
  | t => t

/-- The timer has run out. -/
def Timer.expired : Timer → Bool
  | .running 0 => true
  | _ => false

/-! ### Channels, levels and lamps (chapter 9) -/

def Alc.channel (a : Alc) : ChannelId → Channel
  | .stop => a.stopCh
  | .hold => a.holdCh
  | .warn => a.warnCh
  | .note => a.noteCh

def Alc.setChannel (a : Alc) (c : ChannelId) (ch : Channel) : Alc :=
  match c with
  | .stop => { a with stopCh := ch }
  | .hold => { a with holdCh := ch }
  | .warn => { a with warnCh := ch }
  | .note => { a with noteCh := ch }

/-- The more restrictive of two levels (00_scope.md, Run levels). -/
def Level.worst (a b : Level) : Level := if a.code ≤ b.code then b else a

/-- R147: the effective level. -/
def effectiveOf (a : Alc) : Level :=
  a.requested.worst
    ((if !a.stopCh.entries.isEmpty || a.estop == .asserted then Level.stop else Level.run).worst
      (if !a.holdCh.entries.isEmpty then Level.hold else Level.run))

/-- R148: the three lamps. -/
def lampsOf (a : Alc) : Alc :=
  { a with
    red := !a.stopCh.entries.isEmpty
    amber := !a.holdCh.entries.isEmpty || !a.warnCh.entries.isEmpty
    green := a.effective == .run }

/-- R142 step 1: the alarm map entry of a kind. -/
def Alc.mapOf (a : Alc) (k : AlarmKind) : MapEntry := a.map.getD k.code ⟨.note, false⟩

/-- R142 step 3: the same kind and the same subject; two absent subjects are the same. -/
def AlarmEntry.sameAs (e : AlarmEntry) (k : AlarmKind) (subject : Option Nat) : Bool :=
  e.kind == k && e.subject == subject

/-! ### Tables and stations (R20, R24, R27, R48) -/

def componentAt (t : Tables) (code : Nat) : ComponentEntry := t.components.getD code ⟨false, 1, 0, 0, 0, 0⟩

/-- R4 check 2, R11: the code is 1..511 and its entry is valid. -/
def componentValid (t : Tables) (code : Nat) : Bool := code != 0 && (componentAt t code).valid

/-- R24: the map entry of a station; a number outside 1..96 is not fitted (log 32). -/
def stationMapAt (t : Tables) (station : Nat) : StationMapEntry :=
  if station = 0 then ⟨0, 0⟩ else t.stations.getD (station - 1) ⟨0, 0⟩

def dropPosition (t : Tables) (station : Nat) : Nat := (stationMapAt t station).drop

def fitted (t : Tables) (station : Nat) : Bool := dropPosition t station != 0

/-- R56: the record of a station; a number outside 1..96 has a record that is not usable (log 32). -/
def recordAt (h : Shu) (station : Nat) : StationRecord :=
  if station = 0 then ⟨false, false, false, false, false, 0, 0, 0⟩
  else h.records.getD (station - 1) ⟨false, false, false, false, false, 0, 0, 0⟩

/-- R27. -/
def StationRecord.sound (r : StationRecord) : Bool := r.enabled && !r.jammed && !r.empty

/-- R27: fitted, ENABLED set, JAMMED clear, EMPTY clear. -/
def usable (t : Tables) (h : Shu) (station : Nat) : Bool := fitted t station && (recordAt h station).sound

/-- R61: the Substitution Table entry whose failed station is `c`. -/
def substFor (h : Shu) (c : Nat) : Option SubstEntry := h.subst.find? (·.failed == c)

/-- R48: the station resolved for a component's station `c`. -/
def resolveStation (t : Tables) (h : Shu) (c : Nat) : Option Nat :=
  match substFor h c with
  | some e => if usable t h e.substitute then some e.substitute else none
  | none => if usable t h c then some c else none

/-- R63 step 2: the spare of `f` qualifies. -/
def spareQualifies (t : Tables) (h : Shu) (f : Nat) : Bool :=
  let sp := (stationMapAt t f).spare
  sp != 0 && usable t h sp && !h.subst.any (fun e => e.failed == sp || e.substitute == sp)

/-- R22: the fields captured with station `r` for a component. -/
def capturedOf (t : Tables) (code r : Nat) : Captured :=
  let c := componentAt t code
  { station := r, span := (t.spans.getD c.spanCode none).getD 0, profile := c.profile,
    form := if c.form = 0 then .inward else .outward, checkSkip := c.checkSkip != 0 }

/-! ### Images and the panel (R10, R124, R125, R129) -/

/-- The image count N of the loaded pattern; 0 when absent. -/
def imageCount (b : Tbc) : Nat := (b.pattern.map Pattern.count).getD 0

/-- The state of an image in TBC's image table. -/
def imageState (b : Tbc) (n : Nat) : ImageState :=
  if n = 0 then .good else ((b.images[n - 1]?).map ImageRecord.state).getD .good

/-- The image is BAD or REJECTED in the image table. -/
def imageMarked (b : Tbc) (n : Nat) : Bool := imageState b n != .good

/-- R129: the survey has passed the image. -/
def surveyPassed (b : Tbc) (n : Nat) : Bool :=
  match b.cursor with
  | none => true
  | some c => decide (n < c)

/-- R10, R84: the image of an entry of `panel` is known BAD or REJECTED. -/
def knownBad (m : Mode) (b : Tbc) (panel : Byte) (n : Nat) : Bool :=
  m != .sequenceOnly && panel == b.current
    && (b.panel == .ready || (b.panel == .survey && surveyPassed b n)) && imageMarked b n

def Pattern.pitch (p : Pattern) : Selector → Int × Int
  | .a => p.pitchA
  | .b => p.pitchB
  | .c => p.pitchC

/-- R124: the offset of image n; image 1 has offset (0, 0). -/
def Pattern.offset (p : Pattern) : Nat → Int × Int
  | 0 => (0, 0)
  | 1 => (0, 0)
  | n + 2 =>
    let d := p.pitch (p.selectors.getD (n % p.selectors.length) .a)
    ((p.offset (n + 1)).1 + d.1, (p.offset (n + 1)).2 + d.2)

/-- R123: the origin of image n. -/
def Pattern.imageOrigin (p : Pattern) (n : Nat) : Int × Int :=
  (p.originX + (p.offset n).1, p.originY + (p.offset n).2)

/-- R123: the mark position of image n. -/
def Pattern.markPosition (p : Pattern) (n : Nat) : Int × Int :=
  ((p.imageOrigin n).1 + (p.badMark.getD (0, 0)).1, (p.imageOrigin n).2 + (p.badMark.getD (0, 0)).2)

/-- R1, R132: the target of a placement at (x, y) for image n. -/
def Pattern.target (p : Pattern) (n x y : Nat) : Int × Int :=
  ((p.imageOrigin n).1 + x, (p.imageOrigin n).2 + y)

/-- R4 check 5, R123: the point lies within travel. -/
def inTravel (q : Int × Int) : Bool :=
  decide (0 ≤ q.1 ∧ q.1 ≤ Config.travelX ∧ 0 ≤ q.2 ∧ q.2 ≤ Config.travelY)

/-! ### The chain and the festoon (R32, R39, R82) -/

/-- R39, R41: in SEQUENCE+INSERT the Tape List count has reached the festoon capacity. -/
def festoonFull (t : Tables) (tape : List TapeEntry) : Bool :=
  t.constants.mode == .sequenceInsert && decide (t.constants.festoon ≤ tape.length)

/-- R32: the ring place of a chain position. -/
def ringPlace (q : Csq) (p : Nat) : Nat := (q.base + p) % q.ring.length

/-- R32: the clip at a chain position. -/
def clipAt (q : Csq) (p : Nat) : ClipState := q.ring.getD (ringPlace q p) .unknown

/-- R33: the entry holds a clip. -/
def WindowEntry.holds (w : WindowEntry) : Bool := w.status != .unassigned

/-- R84, R91: the front entry is held by a cycle in flight. -/
def cycleEntryUid (h : Hdc) : Option Nat := (h.cycle.bind HeadCycle.entry).map (·.entry.uid)

/-- R132: the entry qualifies as insert target. -/
def isTarget (b : Tbc) (e : TapeEntry) : Bool :=
  e.entry.panel == b.current && !e.discard && !imageMarked b e.entry.image

/-- R131: the panel is complete. -/
def panelComplete (s : State) : Bool :=
  s.tbc.panel == .ready && s.pin.takePanel == s.tbc.current + 1
    && s.csq.window.all (fun w => w.entry.panel != s.tbc.current)
    && s.tpc.tape.all (fun e => e.entry.panel != s.tbc.current)

end Sys2Proof.Machine
end

