-- ==== Sys2Proof/Machine/Ops.lean ====
section
/-! DEFINITION. The operations that more than one command uses: writes of one block, the answer queue and the ports, the
Record Ring, posting an alarm with everything an append does, the tests made when the level or a count changes. -/

namespace Sys2Proof.Machine

/-- What a command answers. -/
abbrev Result := Host.Outcome State Fault Refusal

/-! ### Writing one block -/

def State.updLpu (s : State) (f : Lpu → Lpu) : State := { s with lpu := f s.lpu }
def State.updRrg (s : State) (f : Rrg → Rrg) : State := { s with rrg := f s.rrg }
def State.updPin (s : State) (f : Pin → Pin) : State := { s with pin := f s.pin }
def State.updTables (s : State) (f : Tables → Tables) : State := { s with tables := f s.tables }
def State.updCsq (s : State) (f : Csq → Csq) : State := { s with csq := f s.csq }
def State.updShu (s : State) (f : Shu → Shu) : State := { s with shu := f s.shu }
def State.updTpc (s : State) (f : Tpc → Tpc) : State := { s with tpc := f s.tpc }
def State.updHdc (s : State) (f : Hdc → Hdc) : State := { s with hdc := f s.hdc }
def State.updCsu (s : State) (f : Csu → Csu) : State := { s with csu := f s.csu }
def State.updTbc (s : State) (f : Tbc → Tbc) : State := { s with tbc := f s.tbc }
def State.updAlc (s : State) (f : Alc → Alc) : State := { s with alc := f s.alc }
def State.updOut (s : State) (f : Outputs → Outputs) : State := { s with out := f s.out }

/-- The mode now chosen (R28 place 14). -/
def State.mode (s : State) : Mode := s.tables.constants.mode

/-! ### Upstream-out, the forward buffers and the answer queue (R160, R161, R168) -/

/-- R161: when upstream-out is free, the next frame is chosen and its sending begins (log 11, log 14). -/
def Lpu.choose (l : Lpu) : Lpu :=
  if l.sending.isSome then l
  else match l.upForward, l.answers with
    | [], [] => l
    | _ :: _, [] => { l with sending := some .forwarded, lastServed := .forwarded }
    | [], _ :: _ => { l with sending := some .own, lastServed := .own }
    | _ :: _, _ :: _ =>
      match l.lastServed with
      | .own => { l with sending := some .forwarded, lastServed := .forwarded }
      | .forwarded => { l with sending := some .own, lastServed := .own }

/-- R160: a frame joins the downstream forward buffer, or is dropped and counted. -/
def Lpu.forwardDown (l : Lpu) (f : Frame) : Lpu :=
  if l.downForward.length < Config.bufferCapacity then { l with downForward := l.downForward ++ [f] }
  else { l with dropDown := satInc Config.sat16 l.dropDown }

/-- R160: a frame joins the upstream forward buffer, or is dropped and counted. -/
def Lpu.forwardUp (l : Lpu) (f : Frame) : Lpu :=
  if l.upForward.length < Config.bufferCapacity then Lpu.choose { l with upForward := l.upForward ++ [f] }
  else { l with dropUp := satInc Config.sat16 l.dropUp }

/-- R162: an own frame joins the answer queue's tail. -/
def Lpu.pushOwn (l : Lpu) (o : OwnFrame) : Lpu := Lpu.choose { l with answers := l.answers ++ [o] }

/-- R158, R168: the sender's address byte, 0 with no machine address. -/
def Lpu.sender (l : Lpu) : Byte := byte (l.address.getD 0)

/-- R168: an alarm entry in its 16-byte layout. -/
def alarmBytes (e : AlarmEntry) : List Byte :=
  be16 e.seq.toNat ++ [byte e.kind.code, byte e.channel.code, flagByte e.subject.isSome] ++ be16 (e.subject.getD 0)
    ++ be32 e.first.toNat ++ be32 e.last.toNat ++ [byte e.repeats]

/-- R168: the notice joins the answer queue, or is dropped and counted. -/
def Lpu.notice (l : Lpu) (e : AlarmEntry) : Lpu :=
  if l.answers.length < Config.bufferCapacity ∧ l.resetPending = false then
    l.pushOwn ⟨mkFrame l.sender 0x81#8 0#8 (alarmBytes e), false⟩
  else { l with noticeDrops := satInc Config.sat16 l.noticeDrops }

/-! ### The Record Ring (R169) -/

def RingRecord.size (r : RingRecord) : Nat := if r.signature.isSome then 16 else 8

def ringSize (rs : List RingRecord) : Nat := (rs.map RingRecord.size).sum

/-- The oldest records are removed until `size` more bytes fit; the records kept and how many were removed. -/
def ringRoom (size : Nat) : List RingRecord → List RingRecord × Nat
  | [] => ([], 0)
  | r :: rs =>
    if Config.ringBytes < ringSize (r :: rs) + size then
      ((ringRoom size rs).1, (ringRoom size rs).2 + 1)
    else (r :: rs, 0)

/-- R169, R170: a write; a removed record counts as lost and is no longer in transit. -/
def Rrg.write (g : Rrg) (r : RingRecord) : Rrg :=
  let room := ringRoom r.size g.records
  { records := room.1 ++ [r], inTransit := g.inTransit - room.2, lost := satAdd Config.sat16 g.lost room.2 }

/-- A record of an entry's end (R97, R100, R77, R37, R86). -/
def entryRecord (o : RecordOutcome) (e : Entry) (station : Nat) (sig : Option RecordSignature) : RingRecord :=
  { outcome := o, step := e.step, panel := e.panel, image := e.image, component := e.component, station := station,
    signature := sig }

def writeRecord (r : RingRecord) (s : State) : State := s.updRrg (Rrg.write · r)

/-! ### Sequencer, chain cycle and purge tests (R38, R39, R40, R45) -/

/-- R38: RUNNING and HELD go to IDLE at requested STOP with the window empty and the chain cycle in REST. -/
def idleTest (s : State) : State :=
  if (s.csq.seq = .running ∨ s.csq.seq = .held) ∧ s.alc.requested = .stop ∧ s.csq.window = [] ∧ s.csq.cycle = .rest
  then s.updCsq ({ · with seq := .idle }) else s

/-- R39: the sequencer state after the test between RUNNING and HELD. -/
def heldOf (effective : Level) (full : Bool) (q : SeqState) : SeqState :=
  match q with
  | .running => if effective = .stop || full then .held else .running
  | .held => if effective != .stop && !full then .running else .held
  | other => other

/-- R39, R83: the test made when the effective level or the Tape List count changes. -/
def heldTest (s : State) : State :=
  s.updCsq (fun q => { q with seq := heldOf s.alc.effective (festoonFull s.tables s.tpc.tape) q.seq })

/-- R45: SETTLE goes to REST when the exchange and the transfer action have ended; R38 is tested there. -/
def settleTest (s : State) : State :=
  if s.csq.cycle = .settle ∧ s.csq.exchange = .complete ∧ s.tpc.transfer = none
  then idleTest (s.updCsq ({ · with cycle := .rest })) else s

/-- R40: PURGING goes to IDLE when no clip is UNKNOWN. -/
def purgeTest (s : State) : State :=
  if s.csq.seq = .purging ∧ s.csq.ring.all (· != .unknown) then s.updCsq ({ · with seq := .idle }) else s

/-! ### Clips and booked fires (R32, R34, R35, R51) -/

def setClip (p : Nat) (c : ClipState) (s : State) : State :=
  s.updCsq (fun q => { q with ring := q.ring.set (ringPlace q p) c })

/-- A fire load counter decrements (R34). -/
def fireLoadDown (d : Nat) (s : State) : State :=
  s.updCsq (fun q => { q with fireLoad := q.fireLoad.modify d (· - 1) })

/-- A command slot of station `station` becomes NONE. -/
def clearCommand (station : Nat) (s : State) : State :=
  s.updCsq (fun q => { q with commands := q.commands.set (station - 1) .none })

/-- R51: a WAITING exchange left with every slot NONE is COMPLETE at once. -/
def emptiedTest (s : State) : State :=
  if s.csq.exchange = .waiting ∧ s.csq.commands.all (· == .none)
  then settleTest (s.updCsq ({ · with exchange := .complete })) else s

/-- R35 step 2: the booked fire of a RESERVED clip at `clip` for `station` is removed; a fire of an exchange IN FLIGHT
stands. -/
def unbook (station clip : Nat) (s : State) : State :=
  let d := clip - dropPosition s.tables station
  if 1 ≤ d then fireLoadDown d s
  else match s.csq.exchange with
    | .inFlight => s
    | .waiting => emptiedTest (clearCommand station (fireLoadDown 0 s))
    | .none => fireLoadDown 0 s
    | .complete => fireLoadDown 0 s

/-- R35 step 2: the clip of an unwound entry: LOADED becomes REJECT, RESERVED becomes EMPTY and its fire is removed. -/
def releaseClip (w : WindowEntry) (s : State) : State :=
  match w.clip with
  | none => s
  | some p =>
    match clipAt s.csq p with
    | .loaded => setClip p .reject s
    | .reserved => unbook ((w.captured.map Captured.station).getD 0) p (setClip p .empty s)
    | _ => s

/-- R35 step 2: `first` stands in the window; it and every entry after it that holds a clip are unwound. -/
def unwindFrom (first : Nat) (s : State) : State :=
  let before := s.csq.window.takeWhile (fun w => w.entry.uid != first)
  let after := s.csq.window.dropWhile (fun w => w.entry.uid != first)
  let s1 := (after.filter WindowEntry.holds).foldl (fun t w => releaseClip w t) s
  s1.updCsq (fun q => { q with window := before ++ after.map ({ · with status := .unassigned, clip := none }) })

/-! ### Ending a sweep (R51, R70 to R73) -/

/-- R51: a TEST command of station `station` is removed and the clip built as TEST is EMPTY again. -/
def removeTest (c : SlotCommand) (station : Nat) (s : State) : State :=
  match c with
  | .test p _ => clearCommand station (setClip p .empty s)
  | _ => s

/-- R72: a TEST command whose reply is not judged any more, by the sweep that has ended or by a later one. -/
def SlotCommand.unjudged : SlotCommand → SlotCommand
  | .test p _ => .test p false
  | c => c

/-- The sweep has ended. R51: the TEST commands of a WAITING exchange are removed and their clips are EMPTY again. R72: those of an
exchange IN FLIGHT stand, and their replies judge nothing. -/
def removeTests (s : State) : State :=
  match s.csq.exchange with
  | .waiting =>
    emptiedTest ((List.range' 1 Config.stationCount).foldl
      (fun t n => removeTest (s.csq.commands.getD (n - 1) .none) n t) s)
  | .inFlight => s.updCsq (fun q => { q with commands := q.commands.map SlotCommand.unjudged })
  | _ => s

/-- The result is written, the context is absent, the sequencer IDLE, the TEST commands removed or judged no more. -/
def closeSweep (r : SweepResult) (s : State) : State :=
  removeTests ((s.updShu ({ · with sweep := none, result := some r })).updCsq ({ · with seq := .idle }))

/-- R73: the result of a sweep aborted now. -/
def abortedResult (w : Sweep) : SweepResult :=
  let done := w.members.filter (fun m => m.resolved == w.passes)
  { outcome := .aborted, tested := done.length, failed := (done.filter SweepMember.failed).map SweepMember.station,
    substitutions := 0 }

/-! ### Telling the effective level (R147) -/

/-- R44: a suspended step resumes with the time that remains. -/
def resumeStep (s : State) : State :=
  match s.csq.cycle, s.csq.stepTimer with
  | .step, .suspended _ =>
    (s.updCsq (fun q => { q with stepTimer := q.stepTimer.resume })).updOut ({ · with chainDrive := .goOn })
  | _, _ => s

/-- The line of a transfer operation gets a command (R75, R79, R80). -/
def driveTransfer (op : TransferOp) (c : LineCommand) (s : State) : State :=
  match op with
  | .tape => s.updOut ({ · with reTaper := c })
  | .dump => s.updOut ({ · with gate := c })

/-- R80: a suspended operation resumes with the time that remains. -/
def resumeTransfer (s : State) : State :=
  match s.tpc.transfer with
  | some ⟨op, .suspended⟩ =>
    driveTransfer op .goOn
      (s.updTpc (fun t => { t with transfer := some ⟨op, .running⟩, timer := t.timer.resume }))
  | _ => s

/-- R79, R128: a STALLED operation is due for a restart once the level has left STOP (log 17). -/
def markRestarts (s : State) : State :=
  let s1 := match s.tpc.transfer with
    | some ⟨_, .stalled⟩ => s.updTpc ({ · with restartDue := true })
    | _ => s
  match s1.tbc.handler with
  | some ⟨_, .stalled⟩ => s1.updTbc ({ · with restartDue := true })
  | _ => s1

/-- The level has become STOP: a restart not yet made waits for the next time it leaves STOP (log 17). -/
def clearRestarts (s : State) : State :=
  (s.updTpc ({ · with restartDue := false })).updTbc ({ · with restartDue := false })

/-- R147: the new value is told to CSQ, TPC, HDC and TBC; `old` is the value before. -/
def levelTold (old : Level) (s : State) : State :=
  let s1 := heldTest s
  if s.alc.effective = .stop then clearRestarts s1
  else if old = .stop then
    markRestarts (if s.alc.estop = .released then resumeTransfer (resumeStep s1) else s1)
  else s1

/-- R147, R148: the effective level and the lamps are recomputed, a change is told, and R38's test is made. -/
def recompute (s : State) : State :=
  let s1 := s.updAlc (fun a => lampsOf { a with effective := effectiveOf a })
  idleTest (if s1.alc.effective = s.alc.effective then s1 else levelTold s.alc.effective s1)

/-! ### Posting an alarm (R142, R143, R144) -/

/-- The new entry of an append (R141, R142 step 4). -/
def newEntry (a : Alc) (c : ChannelId) (k : AlarmKind) (subject : Option Nat) : AlarmEntry :=
  { seq := a.nextSeq, kind := k, subject := subject, channel := c, first := a.ms, last := a.ms, repeats := 0 }

/-- R143: the latch on the requested level. -/
def latched (c : ChannelId) (requested : Level) : Level :=
  match c with
  | .stop => .stop
  | .hold => if requested = .run then .hold else requested
  | .warn => requested
  | .note => requested

/-- R142 step 4, R143: the entry joins the tail, takes the next sequence number, latches the level, sounds the horn. -/
def Alc.append (a : Alc) (c : ChannelId) (e : AlarmEntry) : Alc :=
  let ch := a.channel c
  let b := a.setChannel c { ch with entries := ch.entries ++ [e] }
  { b with
    nextSeq := a.nextSeq + 1
    requested := latched c a.requested
    horn := a.horn || c == .stop || c == .hold }

/-- R142 step 3: the entry of the same kind and subject is folded. -/
def foldEntry (now : Word32) (k : AlarmKind) (subject : Option Nat) (e : AlarmEntry) : AlarmEntry :=
  if e.sameAs k subject then { e with repeats := satInc 255 e.repeats, last := now } else e

def Alc.fold (a : Alc) (c : ChannelId) (k : AlarmKind) (subject : Option Nat) : Alc :=
  let ch := a.channel c
  a.setChannel c { ch with entries := ch.entries.map (foldEntry a.ms k subject) }

/-- R142 step 5. -/
def Alc.overflowed (a : Alc) (c : ChannelId) : Alc :=
  let ch := a.channel c
  a.setChannel c { ch with overflow := satInc Config.sat16 ch.overflow }

/-- R142 step 2. -/
def Alc.suppress (a : Alc) (c : ChannelId) : Alc :=
  let ch := a.channel c
  a.setChannel c { ch with suppressed := satInc Config.sat16 ch.suppressed }

/-- R142 steps 3 to 5 and R143 in channel `c`; `onStop` is what SHU does when it is told of a STOP append. -/
def postIn (onStop : State → State) (c : ChannelId) (k : AlarmKind) (subject : Option Nat) (s : State) : State :=
  if (s.alc.channel c).entries.any (·.sameAs k subject) then s.updAlc (·.fold c k subject)
  else if (s.alc.channel c).entries.length < Config.channelCapacity then
    let e := newEntry s.alc c k subject
    let s1 := (s.updAlc (·.append c e)).updLpu (·.notice e)
    recompute (if c = .stop then onStop s1 else s1)
  else s.updAlc (·.overflowed c)

/-- R142: a post by the alarm map. -/
def postWith (onStop : State → State) (k : AlarmKind) (subject : Option Nat) (s : State) : State :=
  let m := s.alc.mapOf k
  if m.suppress then s.updAlc (·.suppress m.channel) else postIn onStop m.channel k subject s

/-- A post that aborts no sweep: SHU's own posts while it applies or ends a sweep (R72). -/
def postQuiet (k : AlarmKind) (subject : Option Nat) (s : State) : State := postWith id k subject s

/-- R72: a running sweep ends ABORTED and SWEEP DONE is posted. -/
def abortSweep (s : State) : State :=
  match s.shu.sweep with
  | none => s
  | some w => postQuiet .sweepDone (some SweepOutcome.aborted.code) (closeSweep (abortedResult w) s)

/-- R142, R143: a block posts an alarm. -/
def post (k : AlarmKind) (subject : Option Nat) (s : State) : State := postWith abortSweep k subject s

/-- R144: CLINCH FAULT, posted to the channel the profile's policy names. -/
def postClinchFault (c : ChannelId) (step : Nat) (s : State) : State :=
  postIn abortSweep c .clinchFault (some step) s

/-! ### The Tape List and the in-position record (R82 to R84, R133) -/

/-- R133: a report given for the entry is withdrawn. -/
def withdraw (uid : Nat) (s : State) : State :=
  s.updTbc (fun b => { b with inPosition := if b.inPosition = .entry uid then .none else b.inPosition })

/-- R84: an entry joins the tail, tested on joining; R83: CSQ is told the count. -/
def joinTape (e : TapeEntry) (s : State) : State :=
  let bad := knownBad s.mode s.tbc e.entry.panel e.entry.image
  heldTest (s.updTpc (fun t => { t with tape := t.tape ++ [{ e with discard := e.discard || bad }] }))

/-- R82, R83, R133: the front entry leaves. -/
def leaveFront (s : State) : State :=
  match s.tpc.tape with
  | [] => s
  | e :: rest => heldTest (withdraw e.entry.uid (s.updTpc ({ · with tape := rest })))

/-- Sets the DISCARD mark on the front entry (R84, R103). -/
def discardFront (s : State) : State :=
  match s.tpc.tape with
  | [] => s
  | e :: rest => withdraw e.entry.uid (s.updTpc ({ · with tape := { e with discard := true } :: rest }))

/-- R84, last test: the front entry after a cycle that ended with no outcome. -/
def retestFront (s : State) : State :=
  match s.tpc.tape with
  | [] => s
  | e :: _ => if knownBad s.mode s.tbc e.entry.panel e.entry.image then discardFront s else s

/-! ### Marking an image (R130) -/

/-- R130: the image takes the state, notices go to the four holders, the image's in-position record becomes none. -/
def markImage (n : Nat) (st : ImageState) (s : State) : State :=
  let note : MarkNotice := ⟨s.tbc.current, n⟩
  let s1 := s.updTbc (fun b => { b with images := b.images.modify (n - 1) ({ · with state := st }) })
  let s2 := (s1.tpc.tape.filter (fun e => e.entry.panel == s.tbc.current && e.entry.image == n)).foldl
    (fun t e => withdraw e.entry.uid t) s1
  (((s2.updPin (fun p => { p with marks := p.marks ++ [note] })).updCsq
    (fun q => { q with marks := q.marks ++ [note] })).updTpc
    (fun t => { t with marks := t.marks ++ [note] })).updHdc (fun h => { h with marks := h.marks ++ [note] })

/-- R119, R130: a reject request from CSU. -/
def rejectImage (panel : Byte) (n : Nat) (s : State) : State :=
  if panel = s.tbc.current ∧ (s.tbc.panel = .ready ∨ s.tbc.panel = .survey) ∧ 1 ≤ n ∧ n ≤ s.tbc.images.length then
    post .badImage (some n) (if imageMarked s.tbc n then s else markImage n .rejected s)
  else s

/-- R134 to R136: both axes halt, a move in flight is aborted, the in-position record becomes none. -/
def haltTable (s : State) : State :=
  (s.updTbc ({ · with move := none, moveTimer := .stopped, inPosition := .none })).updOut
    ({ · with tableAxes := .halt })

end Sys2Proof.Machine
end

