-- ==== Sys2Proof/Machine/Health.lean ====
section
/-! DEFINITION. Station Health Unit (chapter 4): station records, the Substitution Table, STATION FLAGS, the sweep. -/

namespace Sys2Proof.Machine

/-! ### Station records (R56 to R60, R63) -/

def setRecord (station : Nat) (f : StationRecord → StationRecord) (s : State) : State :=
  if station = 0 then s else s.updShu (fun h => { h with records := h.records.modify (station - 1) f })

/-- R60 step 1, R64: the entry with this substitute is removed. -/
def dropSubstitute (station : Nat) (s : State) : State :=
  s.updShu (fun h => { h with subst := h.subst.filter (·.substitute != station) })

/-- R60 step 2: CSQ is sent an unusable-station notice. -/
def noticeUnusable (station : Nat) (s : State) : State :=
  s.updCsq (fun q => { q with unusable := q.unusable ++ [station] })

/-- R60 steps 1 and 2. -/
def becomeUnusable (station : Nat) (s : State) : State := noticeUnusable station (dropSubstitute station s)

/-- R63: a substitution attempt for a failed station. -/
def attemptSubstitution (f : Nat) (s : State) : State :=
  if (substFor s.shu f).isSome then s
  else if !spareQualifies s.tables s.shu f then s
  else if s.shu.subst.length < Config.substCapacity then
    s.updShu (fun h => { h with subst := h.subst ++ [⟨f, (stationMapAt s.tables f).spare, s.alc.ms, 0⟩] })
  else post .substFull (some f) s

/-- R60: JAMMED or EMPTY has been set on a station; `was` says whether it was usable a moment before. -/
def stationFailed (was : Bool) (station : Nat) (s : State) : State :=
  attemptSubstitution station (if was then becomeUnusable station s else s)

/-- R58: a counted miss. -/
def countedMiss (station : Nat) (s : State) : State :=
  let was := usable s.tables s.shu station
  let s1 := setRecord station
    (fun r => { r with consecutive := satInc 7 r.consecutive, total := satInc Config.sat16 r.total }) s
  let r := recordAt s1.shu station
  if r.jammed = false ∧ s.tables.constants.missLimit ≤ r.consecutive then
    stationFailed was station (post .stationJam (some station) (setRecord station ({ · with jammed := true }) s1))
  else s1

/-- R58: a confirmed drop. -/
def confirmedDrop (station : Nat) (s : State) : State := setRecord station ({ · with consecutive := 0 }) s

/-- R59: an EMPTY reply. -/
def emptyReply (station : Nat) (s : State) : State :=
  if (recordAt s.shu station).empty then post .stationEmpty (some station) s
  else
    stationFailed (usable s.tables s.shu station) station
      (post .stationEmpty (some station) (setRecord station ({ · with empty := true }) s))

/-- R57: a DROPPED_LOW reply. -/
def lowReply (station : Nat) (s : State) : State :=
  post .reelLow (some station) (setRecord station ({ · with low := true }) s)

/-- R57: the fires count. -/
def countFire (station : Nat) (s : State) : State := setRecord station (fun r => { r with fires := r.fires + 1 }) s

/-! ### The sweep's judgement (R68, R69) -/

/-- A member record of the running sweep changes; nothing when no sweep runs. -/
def updMember (station : Nat) (f : SweepMember → SweepMember) (s : State) : State :=
  s.updShu (fun h => { h with sweep := h.sweep.map (fun w =>
    { w with members := w.members.map (fun m => if m.station = station then f m else m) }) })

/-- The reply brought a component. -/
def Reply.drop : Reply → Bool
  | .dropped | .droppedLow => true
  | _ => false

/-- R69: a pass failed at once. -/
def passFailed (station : Nat) (s : State) : State :=
  updMember station (fun m => { m with resolved := m.resolved + 1, failed := true }) s

/-- R69: a drop awaits clip sense. -/
def passDropped (station : Nat) (s : State) : State :=
  updMember station (fun m => { m with awaiting := m.awaiting + 1 }) s

/-- R69: clip sense resolves the member's oldest drop awaiting sense; ignored when there is none. -/
def passSensed (station : Nat) (present : Bool) (s : State) : State :=
  updMember station (fun m =>
    if m.awaiting = 0 then m
    else { m with awaiting := m.awaiting - 1, resolved := m.resolved + 1, failed := m.failed || !present }) s

/-- R57 to R59, R69: the report of a commanded slot. -/
def reportFire (station : Nat) (r : Reply) (s : State) : State :=
  let s1 := countFire station s
  match r with
  | .dropped => s1
  | .droppedLow => lowReply station s1
  | .noPart => countedMiss station s1
  | .fault => countedMiss station s1
  | .silent => countedMiss station s1
  | .empty => emptyReply station s1

/-- R69: a reply judges a pass of the running sweep. -/
def judgePass (station : Nat) (r : Reply) (s : State) : State :=
  if r.drop then passDropped station s else passFailed station s

/-- R57, R59, R69, R72: the report of a TEST slot; a slot of a sweep that has ended judges nothing, whatever sweep runs. The alarm
of an EMPTY or DROPPED_LOW reply is posted before the pass is judged, an order the rules do not give (log 46). -/
def reportTest (judged : Bool) (station : Nat) (r : Reply) (s : State) : State :=
  let s1 := countFire station s
  let s2 := match r with
    | .droppedLow => lowReply station s1
    | .empty => emptyReply station s1
    | _ => s1
  if judged then judgePass station r s2 else s2

/-- R69: the sweep is complete. -/
def sweepComplete (w : Sweep) : Bool :=
  w.waiting.isEmpty && w.members.all (fun m => m.fired == w.passes && m.resolved == w.passes)

/-! ### Applying a complete sweep (R70, R71) -/

def failingStations (w : Sweep) : List Nat := (w.members.filter SweepMember.failed).map SweepMember.station

/-- R70: SWEEP_FAILED set on failing stations and cleared on passing ones. -/
def applyFlags (w : Sweep) (s : State) : State :=
  w.members.foldl (fun t m => setRecord m.station ({ · with sweepFailed := m.failed }) t) s

/-- R71: the failing stations that need a substitute, in increasing number, with the spare chosen. -/
def chooseSpares (t : Tables) (h : Shu) (failing : List Nat) : List Nat → List (Nat × Nat) → List (Nat × Nat)
  | [], chosen => chosen
  | f :: rest, chosen =>
    let sp := (stationMapAt t f).spare
    if (substFor h f).isNone && spareQualifies t h f && !failing.contains sp && !chosen.any (·.2 == sp)
    then chooseSpares t h failing rest (chosen ++ [(f, sp)])
    else chooseSpares t h failing rest chosen

/-- R71: the free places, 8 minus the entries whose substitute is not a failing station. -/
def freePlaces (h : Shu) (failing : List Nat) : Nat :=
  Config.substCapacity - (h.subst.filter (fun e => !failing.contains e.substitute)).length

/-- R71 step 1 for a failing station. -/
def jamFailing (station : Nat) (s : State) : State :=
  let was := (recordAt s.shu station).jammed
  let s1 := setRecord station ({ · with jammed := true }) s
  if was then s1 else postQuiet .stationJam (some station) s1

/-- R71 steps 1 to 4. The STATION JAM posts of step 1 and the notices of step 4, to which the rule gives no order, are made in
increasing station number: the model's choice (log 53). -/
def applySubstitution (failing : List Nat) (chosen : List (Nat × Nat)) (s : State) : State :=
  let were := failing.filter (usable s.tables s.shu)
  let s1 := failing.foldl (fun t f => jamFailing f t) s
  let s2 := failing.foldl (fun t f => dropSubstitute f t) s1
  let s3 := s2.updShu (fun h =>
    { h with subst := h.subst ++ chosen.map (fun c => ⟨c.1, c.2, s2.alc.ms, 0⟩) })
  were.foldl (fun t f => noticeUnusable f t) s3

/-- R70, R71: a complete sweep is applied and ends. -/
def applySweep (w : Sweep) (s : State) : State :=
  let failing := failingStations w
  let chosen := if w.withSubst then chooseSpares s.tables s.shu failing failing [] else []
  let tooMany := decide (freePlaces s.shu failing < chosen.length)
  let outcome := if tooMany then SweepOutcome.over else SweepOutcome.done
  let install := w.withSubst && !tooMany
  let s1 := applyFlags w s
  let s2 := if install then applySubstitution failing chosen s1 else s1
  post .sweepDone (some outcome.code)
    (closeSweep { outcome := outcome, tested := w.members.length, failed := failing,
                  substitutions := if install then chosen.length else 0 } s2)

/-- R69: the test for the end of the sweep. -/
def sweepTest (s : State) : State :=
  match s.shu.sweep with
  | none => s
  | some w => if sweepComplete w then applySweep w s else s

/-! ### SWEEP (R67) -/

/-- R67: a new member record. -/
def newMember (station : Nat) : SweepMember := ⟨station, 0, 0, 0, false⟩

/-- The next group of the waiting list (R67, R68). -/
def nextGroup (w : Sweep) : Sweep :=
  let g := w.waiting.take w.group
  { w with waiting := w.waiting.drop w.group, current := g, members := w.members ++ g.map newMember }

/-- R67: the fitted stations of the set, in increasing number, each once. -/
def fittedOf (t : Tables) (stations : List Nat) : List Nat :=
  (List.range' 1 Config.stationCount).filter (fun n => stations.contains n && fitted t n)

/-- R67 check 3: group size 1, 4, 8 or FIRE LIMIT (0). -/
def groupKnown (g : Nat) : Bool := g == 0 || g == 1 || g == 4 || g == 8

/-- R67: G, with FIRE LIMIT meaning F, capped at F. -/
def groupSize (fireLimit g : Nat) : Nat := if g = 0 then fireLimit else min g fireLimit

/-- R67 check 4: no TEST clip stands at a position above SP. -/
def noTestAboveSense (s : State) : Bool :=
  (List.range s.csq.ring.length).all (fun p =>
    p ≤ s.tables.constants.sensePos || (match clipAt s.csq p with | .test _ => false | _ => true))

/-- R67: the checks of a SWEEP request in order. -/
def checkSweep (f : SweepFields) (s : State) : ResultCode :=
  if !f.stations.all (fun n => decide (1 ≤ n ∧ n ≤ Config.stationCount)) then .badIndex
  else if !(groupKnown f.groupSize && decide (1 ≤ f.passes ∧ f.passes ≤ 4) && decide (f.variant ≤ 1)
      && !f.stations.isEmpty) then .badValue
  else if !(s.mode != .insertOnly && s.csq.seq == .idle && s.csq.window.isEmpty && noTestAboveSense s) then .busy
  else if !s.alc.stopCh.entries.isEmpty then .alarmActive
  else if (fittedOf s.tables f.stations).isEmpty then .badValue
  else .accepted

/-- R67: the sweep starts with its ACCEPTED answer. -/
def startSweep (f : SweepFields) (s : State) : State :=
  let w : Sweep :=
    { group := groupSize s.tables.constants.fireLimit f.groupSize, passes := f.passes,
      withSubst := f.variant == 1, waiting := fittedOf s.tables f.stations, current := [], members := [] }
  (s.updShu ({ · with sweep := some (nextGroup w), result := none })).updCsq ({ · with seq := .sweeping })

/-! ### STATION FLAGS (R65, R66) and station map loads (R26) -/

/-- R65: the clear set, then ENABLED of the set set; flag bits above 10h are ignored (log 24). -/
def flagsAfter (clear set : Byte) (r : StationRecord) : StationRecord :=
  { r with
    enabled := (r.enabled && !clear.getLsbD 0) || set.getLsbD 0
    jammed := r.jammed && !clear.getLsbD 1
    empty := r.empty && !clear.getLsbD 2
    low := r.low && !clear.getLsbD 3
    sweepFailed := r.sweepFailed && !clear.getLsbD 4
    consecutive := if clear.getLsbD 1 then 0 else r.consecutive }

/-- R65, R66 for one station. -/
def applyStationFlags (clear set : Byte) (station : Nat) (s : State) : State :=
  let was := usable s.tables s.shu station
  let s1 := setRecord station (flagsAfter clear set) s
  let now := usable s1.tables s1.shu station
  let s2 := if was && !now then becomeUnusable station s1 else s1
  if now then s2.updShu (fun h => { h with subst := h.subst.filter (·.failed != station) }) else s2

/-- R65: the stations a request names. -/
def stationsNamed (t : Tables) (station : Nat) : List Nat :=
  if station = 0 then (List.range' 1 Config.stationCount).filter (fitted t) else [station]

/-- R26: entries whose failed or substitute station is not fitted in the new map are removed. -/
def alignSubstitutions (s : State) : State :=
  s.updShu (fun h => { h with subst := h.subst.filter (fun e => fitted s.tables e.failed && fitted s.tables e.substitute) })

end Sys2Proof.Machine
end

