-- ==== Sys2Proof/Machine/Intake.lean ====
section
/-! DEFINITION. Placement Intake (chapter 1): acceptance of PLACE, takes, the standing ask, FLUSH. -/

namespace Sys2Proof.Machine

/-! ### Acceptance (R3 to R5) -/

/-- R4 check 5: the image numbers whose target is checked. -/
def imagesChecked (n image : Nat) : List Nat := if image = 0 then List.range' 1 n else [image]

/-- R4, R5: the result code of one record of a PLACE frame. -/
def checkRecord (s : State) : StreamRecord → ResultCode
  | .boundary => if s.pin.queue.length < Config.queueCapacity then .ok else .full
  | .tenByte type p =>
    if type != 1 then .badValue
    else if !componentValid s.tables p.component then .unknownComponent
    else match s.tbc.pattern with
      | none => .busy
      | some q =>
        if q.count < p.image then .badIndex
        else if !(imagesChecked q.count p.image).all (fun n => inTravel (q.target n p.x p.y)) then .offTable
        else if s.pin.queue.length < Config.queueCapacity then .ok else .full

def StreamRecord.queued : StreamRecord → QueueRecord
  | .boundary => .boundary
  | .tenByte _ p => .placement p

/-- R3: records are appended up to the first refused one; the state, the result and the number taken. -/
def placeRecords : List StreamRecord → State → State × ResultCode × Nat
  | [], s => (s, .ok, 0)
  | r :: rest, s =>
    match checkRecord s r with
    | .ok =>
      let next := placeRecords rest (s.updPin (fun p => { p with queue := p.queue ++ [r.queued] }))
      (next.1, next.2.1, next.2.2 + 1)
    | refused => (s, refused, 0)

/-! ### Takes (R7 to R13, R15) -/

/-- R8, R11, R15: an entry is made at a take and ended at once as REJECTED, station 0. -/
def rejectAtTake (p : Placement) (image : Nat) (s : State) : State :=
  writeRecord { outcome := .rejected, step := p.step, panel := s.pin.takePanel, image := image,
                component := p.component, station := 0, signature := none }
    (s.updPin (fun q => { q with taken := q.taken + 1, rejected := q.rejected + 1 }))

/-- R7, R8, R15: an entry is handed out. -/
def handOut (p : Placement) (image : Nat) (s : State) : State × Option Entry :=
  ({ s with nextUid := s.nextUid + 1, pin := { s.pin with taken := s.pin.taken + 1 } },
   some { uid := s.nextUid, step := p.step, component := p.component, x := p.x, y := p.y,
          orientation := p.orientation, image := image, panel := s.pin.takePanel })

/-- R9, R11: the images an image-0 record still has to yield. -/
def imagesLeft (s : State) : List Nat :=
  let c := s.pin.cursor.getD 1
  List.range' c (imageCount s.tbc + 1 - c)

/-- A take over what stands in the queue (R7 to R13). -/
def takeFrom : List QueueRecord → State → State × Option Entry
  | [], s => (s.updPin ({ · with queue := [] }), none)
  | .boundary :: rest, s =>
    if s.mode = .sequenceOnly then (s.updPin ({ · with queue := rest }), none)
    else if s.pin.takePanel = s.tbc.current then
      (s.updPin (fun p => { p with queue := rest, takePanel := p.takePanel + 1 }), none)
    else (s.updPin ({ · with queue := .boundary :: rest }), none)
  | .placement p :: rest, s =>
    if !componentValid s.tables p.component then
      let images := if p.image = 0 then imagesLeft s else [p.image]
      let s1 := images.foldl (fun t n => rejectAtTake p n t) s
      takeFrom rest (s1.updPin ({ · with cursor := none }))
    else if p.image ≠ 0 then
      if knownBad s.mode s.tbc s.pin.takePanel p.image then takeFrom rest (rejectAtTake p p.image s)
      else handOut p p.image (s.updPin ({ · with queue := rest }))
    else
      match (imagesLeft s).filter (fun n => !knownBad s.mode s.tbc s.pin.takePanel n) with
      | [] => takeFrom rest (s.updPin ({ · with cursor := none }))
      | [n] => handOut p n (s.updPin ({ · with queue := rest, cursor := none }))
      | n :: _ :: _ => handOut p n (s.updPin ({ · with queue := .placement p :: rest, cursor := some (n + 1) }))

/-- R7: one take. -/
def take (s : State) : State × Option Entry := takeFrom s.pin.queue s

/-! ### The standing ask of INSERT ONLY (R14, R22) -/

/-- R14: a take for HDC; an entry joins the Tape List and the ask is cleared, else the ask stands. -/
def takeForHead (s : State) : State :=
  match take s with
  | (s1, none) => s1.updPin ({ · with ask := true })
  | (s1, some e) =>
    joinTape ⟨e, capturedOf s1.tables e.component (componentAt s1.tables e.component).station, false⟩
      (s1.updPin ({ · with ask := false }))

/-- R14, R104: HDC asks when the mode is INSERT ONLY, the Tape List empty and the tape VERIFIED; an ask that stands is
the same ask (log 18). -/
def askPin (s : State) : State :=
  if s.mode = .insertOnly ∧ s.tpc.tape = [] ∧ s.tpc.verified = true ∧ s.pin.ask = false then takeForHead s else s

/-- R14: a new take for a standing ask. -/
def retakeAsk (s : State) : State := if s.pin.ask then takeForHead s else s

/-! ### FLUSH (R16) -/

/-- R16: the FLUSHED record of a queue record; a boundary has none. -/
def flushRecord (r : QueueRecord) (s : State) : State :=
  match r with
  | .boundary => s
  | .placement p =>
    writeRecord { outcome := .flushed, step := p.step, panel := s.pin.takePanel, image := p.image,
                  component := p.component, station := 0, signature := none }
      (s.updPin (fun q => { q with flushed := q.flushed + 1 }))

/-- The placement records among queue records. -/
def placementCount (q : List QueueRecord) : Nat := (q.filter (· != .boundary)).length

/-- R16. In which order the FLUSHED records are written, the rule does not say: from the head of the queue to its tail is
the model's choice (log 43). -/
def flushQueue (s : State) : State :=
  (s.pin.queue.foldl (fun t r => flushRecord r t) s).updPin
    ({ · with queue := [], cursor := none, ask := false })

/-- R10: PIN applies a marking notice: the queue, the cursor and the take panel number are left as they are. -/
def execMarkingNoticePin (s : State) : Result :=
  .next (s.updPin (fun p => { p with marks := p.marks.tail }))

end Sys2Proof.Machine
end

