-- ==== Sys2Proof/Machine/Taping.lean ====
section
/-! DEFINITION. Taper Controller (chapter 5): the transfer action, its timeout and E-stop, tape break, DISCARD marks. -/

namespace Sys2Proof.Machine

/-! ### Transfer actions (R75) -/

/-- R75: an operation is commanded, RUNNING, or SUSPENDED with the full timeout while the E-stop line is asserted. -/
def commandTransfer (op : TransferOp) (s : State) : State :=
  let full := s.tables.constants.taperTimeout
  let s1 := driveTransfer op .start s
  if s.alc.estop = .asserted then s1.updTpc ({ · with transfer := some ⟨op, .suspended⟩, timer := .suspended full })
  else s1.updTpc ({ · with transfer := some ⟨op, .running⟩, timer := .running full })

/-- R75, R85: taping is commanded at once on VERIFIED tape and waits otherwise. -/
def startTaping (s : State) : State :=
  if s.tpc.verified then commandTransfer .tape s
  else s.updTpc ({ · with transfer := some ⟨.tape, .waitTape⟩ })

/-- R54, R75: the clip handed at position 0 starts a transfer action; an EMPTY clip's is done at once. R75 gives
the actions for the two modes with sequencing; a clip handed in INSERT ONLY has the same ones: the model's choice (log 52). -/
def startTransfer (c : ClipState) (s : State) : State :=
  match c with
  | .loaded => startTaping s
  | .reject => commandTransfer .dump s
  | .test _ => commandTransfer .dump s
  | .unknown => commandTransfer .dump s
  | .empty => s
  | .reserved => s

/-- The transfer action is done: timer stopped, NONE (R76, R78). -/
def endTransfer (s : State) : State :=
  s.updTpc ({ · with transfer := none, timer := .stopped, restartDue := false })

/-- R77: the entry ends TAPED. -/
def endTaped (w : WindowEntry) (s : State) : State :=
  writeRecord (entryRecord .taped w.entry ((w.captured.map Captured.station).getD 0) none)
    (s.updTpc (fun t => { t with taped := t.taped + 1, reel := satInc Config.sat16 t.reel }))

/-- R54, R76, R77: the TAPING entry leaves the front of the window; it joins the Tape List or ends TAPED. -/
def releaseTaped (s : State) : State :=
  match s.csq.window with
  | [] => s
  | w :: rest =>
    let s1 := s.updCsq ({ · with window := rest })
    if s.mode = .sequenceOnly then endTaped w s1
    else joinTape ⟨w.entry, w.captured.getD (capturedOf s.tables w.entry.component 0), w.discard⟩ s1

/-- TAPED_EVENT (R76, R77): ends a commanded taping operation in any phase. -/
def execTapedEvent (s : State) : Result :=
  match s.tpc.transfer with
  | some ⟨.tape, .running⟩ | some ⟨.tape, .suspended⟩ | some ⟨.tape, .stalled⟩ =>
    .next (settleTest (purgeTest (releaseTaped (setClip 0 .empty (endTransfer s)))))
  | _ => .next s

/-- DUMP_EVENT (R78, R40): ends a dumping operation; the end-of-purge test follows. -/
def execDumpEvent (s : State) : Result :=
  match s.tpc.transfer with
  | some ⟨.dump, _⟩ =>
    let s1 := (endTransfer s).updTpc (fun t => { t with rejectGate := t.rejectGate + 1 })
    .next (settleTest (purgeTest (setClip 0 .empty s1)))
  | _ => .next s

/-- TAPER_TIMEOUT (R79): TAPER JAM, the mechanism stops, STALLED. -/
def execTaperTimeout (s : State) : Result :=
  match s.tpc.transfer with
  | some ⟨op, .running⟩ =>
    if s.tpc.timer.expired then
      .next (post .taperJam none (driveTransfer op .stop
        (s.updTpc ({ · with transfer := some ⟨op, .stalled⟩, timer := .stopped, restartDue := false }))))
    else .next s
  | _ => .next s

/-- TAPER_RESTART (R79): a STALLED operation is commanded anew when the level has left STOP. -/
def execTaperRestart (s : State) : Result :=
  match s.tpc.transfer with
  | some ⟨op, .stalled⟩ =>
    if s.tpc.restartDue = true ∧ s.alc.effective ≠ .stop then
      .next (commandTransfer op (s.updTpc ({ · with restartDue := false })))
    else .next s
  | _ => .next s

/-- R80: the E-stop line is asserted. -/
def estopTransfer (s : State) : State :=
  match s.tpc.transfer with
  | some ⟨op, .running⟩ =>
    driveTransfer op .halt
      (s.updTpc (fun t => { t with transfer := some ⟨op, .suspended⟩, timer := t.timer.suspend }))
  | _ => s

/-! ### The tension sensor (R81) -/

/-- TENSION_BREAK: a change from NORMAL to BREAK posts TAPE BREAK. -/
def execTensionBreak (s : State) : Result :=
  if s.tpc.tension = .normal then .next (post .tapeBreak none (s.updTpc ({ · with tension := .broken })))
  else .next s

/-- TENSION_NORMAL. -/
def execTensionNormal (s : State) : Result := .next (s.updTpc ({ · with tension := .normal }))

/-! ### Marking notices (R84) -/

/-- MARKING_NOTICE_TPC: entries of the panel and image get the DISCARD mark, but not the entry of a cycle in flight; the
in-position record of a marked entry becomes none (R133). -/
def execMarkingNoticeTpc (s : State) : Result :=
  match s.tpc.marks with
  | [] => .next s
  | m :: rest =>
    let hit := fun (e : TapeEntry) =>
      e.entry.panel == m.panel && e.entry.image == m.image && cycleEntryUid s.hdc != some e.entry.uid
    let s1 := s.updTpc (fun t =>
      { t with marks := rest, tape := t.tape.map (fun e => if hit e then { e with discard := true } else e) })
    .next ((s.tpc.tape.filter hit).foldl (fun t e => withdraw e.entry.uid t) s1)

end Sys2Proof.Machine
end

