-- ==== Sys2Proof/Machine/Chain.lean ====
section
/-! DEFINITION. The Sequencing Chain (chapter 3): step start, timeout and index event, clip sense, assignment, the
station exchange, the cascades, marked images. -/

namespace Sys2Proof.Machine

/-! ### Cascades (R35, R36, R37) -/

/-- R35 step 1: the tries of each missed entry. -/
def countTries (missed : List Nat) (s : State) : State :=
  s.updCsq (fun q => { q with window := q.window.map (fun w =>
    if missed.contains w.entry.uid then { w with tries := satInc 7 w.tries } else w) })

/-- R35 step 3: PLACEMENT RETRY for each missed entry past the retry limit. In which order, when there are several, the rule
does not say: in window order is the model's choice (log 44). -/
def postRetries (missed : List Nat) (s : State) : State :=
  (s.csq.window.filter (fun w => missed.contains w.entry.uid && decide (s.tables.constants.retryLimit < w.tries))).foldl
    (fun t w => post .placementRetry (some w.entry.step.toNat) t) s

/-- R35: one miss cascade for the missed entries of one event. -/
def missCascade (missed : List Nat) (s : State) : State :=
  let s1 := countTries missed s
  match s1.csq.window.find? (fun w => missed.contains w.entry.uid) with
  | none => s
  | some w => postRetries missed (unwindFrom w.entry.uid s1)

/-- UNUSABLE_STATION_CASCADE (R36): CSQ takes SHU's next notice. -/
def execUnusableStationCascade (s : State) : Result :=
  match s.csq.unusable with
  | [] => .next s
  | station :: rest =>
    let s1 := s.updCsq ({ · with unusable := rest })
    match s1.csq.window.find? (fun w =>
        w.status == .reserved && (w.captured.map Captured.station) == some station) with
    | none => .next s1
    | some w => .next (unwindFrom w.entry.uid s1)

/-- R22, R37: an entry that leaves the window with outcome REJECTED. -/
def rejectEntry (e : Entry) (station : Nat) (s : State) : State :=
  writeRecord (entryRecord .rejected e station none) (s.updPin (fun p => { p with rejected := p.rejected + 1 }))

/-- R37: what a marking notice does to one window entry. -/
def markEntry (w : WindowEntry) (s : State) : State :=
  match w.status with
  | .taping =>
    s.updCsq (fun q => { q with window := q.window.map (fun v =>
      if v.entry.uid = w.entry.uid then { v with discard := true } else v) })
  | _ =>
    rejectEntry w.entry ((w.captured.map Captured.station).getD 0)
      ((releaseClip w s).updCsq (fun q => { q with window := q.window.filter (·.entry.uid != w.entry.uid) }))

/-- MARKING_NOTICE_CSQ (R37); R38 is tested when the window empties. In which order the records of several entries are
written, the rule does not say: in window order is the model's choice (log 45). -/
def execMarkingNoticeCsq (s : State) : Result :=
  match s.csq.marks with
  | [] => .next s
  | m :: rest =>
    let s1 := s.updCsq ({ · with marks := rest })
    let hit := s.csq.window.filter (fun w => w.entry.panel == m.panel && w.entry.image == m.image)
    .next (idleTest (hit.foldl (fun t w => markEntry w t) s1))

/-! ### Step start and timeout (R41, R43, R44) -/

/-- R41: the conditions of a step start. -/
def stepMayStart (s : State) : Bool :=
  s.csq.cycle == .rest && s.alc.effective != .stop
    && (s.csq.seq == .running || s.csq.seq == .sweeping || s.csq.seq == .purging)
    && !festoonFull s.tables s.tpc.tape && s.alc.estop == .released

/-- CHAIN_STEP_START (R41). -/
def execChainStepStart (s : State) : Result :=
  if stepMayStart s then
    .next ((s.updCsq (fun q => { q with
      cycle := .step, abandoned := false, stepTimer := .running s.tables.constants.stepTimeout })).updOut
        ({ · with chainDrive := .start }))
  else .next s

/-- CHAIN_STEP_TIMEOUT (R43); R38 is tested at the return to REST, with the level the alarm gives. -/
def execChainStepTimeout (s : State) : Result :=
  if s.csq.cycle = .step ∧ s.csq.stepTimer.expired = true then
    .next (idleTest (post .chainJam none
      ((s.updCsq ({ · with cycle := .rest, abandoned := true, stepTimer := .stopped })).updOut
        ({ · with chainDrive := .stop }))))
  else .next s

/-- R44: the E-stop line is asserted. -/
def estopStep (s : State) : State :=
  if s.csq.cycle = .step then
    (s.updCsq (fun q => { q with stepTimer := q.stepTimer.suspend })).updOut ({ · with chainDrive := .halt })
  else s

/-! ### The index event (R42) -/

/-- R32, R34: the base advances, the fire load ring shifts, every clip moves one position toward 0. -/
def advanceChain (q : Csq) : Csq :=
  { q with
    base := (q.base + 1) % q.ring.length
    fireLoad := q.fireLoad.drop 1 ++ [0]
    window := q.window.map (fun w => { w with clip := w.clip.map (· - 1) }) }

/-- The window entry that holds the clip at a position. -/
def entryAt (q : Csq) (p : Nat) : Option WindowEntry := q.window.find? (fun w => w.holds && w.clip == some p)

/-- The captured station of the entry at a position. -/
def stationOfClip (q : Csq) (p : Nat) : Nat := (((entryAt q p).bind WindowEntry.captured).map Captured.station).getD 0

/-- R46: clip sense; a lost drop's counted miss is told before the cascade (log 16). The SP read is the constant as it stands at
the index event, also when it was changed while the step was in flight or abandoned: the model's choice (log 50). -/
def clipSense (present : Bool) (s : State) : State :=
  let p := s.tables.constants.sensePos
  match clipAt s.csq p, present with
  | .loaded, true => confirmedDrop (stationOfClip s.csq p) s
  | .loaded, false =>
    let missed := ((entryAt s.csq p).map (·.entry.uid)).toList
    missCascade missed (countedMiss (stationOfClip s.csq p) (setClip p .empty s))
  | .empty, true => post .strayPart (some p) (setClip p .reject s)
  | .empty, false => s
  | .unknown, true => setClip p .reject s
  | .unknown, false => setClip p .empty s
  | .test n, true => sweepTest (passSensed n true s)
  | .test n, false => sweepTest (passSensed n false (setClip p .empty s))
  | .reject, _ => s
  | .reserved, _ => s

/-- R54, R75: the clip at position 0 is handed to TPC; a LOADED clip's entry becomes TAPING. -/
def handOver (s : State) : State :=
  let s1 := s.updCsq (fun q => { q with window := q.window.map (fun w =>
    if clipAt q 0 = .loaded ∧ w.status = .loaded ∧ w.clip = some 0 then { w with status := .taping } else w) })
  startTransfer (clipAt s.csq 0) s1

/-- R61: the served count of the table entry that resolved `c`. -/
def countServed (c : Nat) (s : State) : State :=
  s.updShu (fun h => { h with subst := h.subst.map (fun e =>
    if e.failed = c then { e with served := satInc Config.sat16 e.served } else e) })

/-- R49: the entering clip is reserved for the candidate with station `r`, booked `d` steps from now. -/
def reserve (w : WindowEntry) (c r d : Nat) (s : State) : State :=
  let last := s.csq.ring.length - 1
  let s1 := setClip last .reserved s
  let s2 := s1.updCsq (fun q => { q with
    fireLoad := q.fireLoad.modify d (· + 1)
    window := q.window.map (fun v =>
      if v.entry.uid = w.entry.uid then
        { v with status := .reserved, clip := some last, captured := some (capturedOf s.tables w.entry.component r) }
      else v) })
  countServed c s2

/-- R48, R49: a valid candidate is resolved and tested against the fire load. -/
def assignCandidate (w : WindowEntry) (s : State) : State :=
  let c := (componentAt s.tables w.entry.component).station
  match resolveStation s.tables s.shu c with
  | none => post .noStation (some w.entry.component) s
  | some r =>
    let d := s.csq.ring.length - 1 - dropPosition s.tables r
    if s.csq.fireLoad.getD d 0 < s.tables.constants.fireLimit then reserve w c r d s else s

/-- R22, R47: UNASSIGNED entries whose component is no longer valid leave, up to the first valid one. -/
def dropInvalid : List WindowEntry → State → State × Option WindowEntry
  | [], s => (s, none)
  | w :: rest, s =>
    if componentValid s.tables w.entry.component then (s, some w)
    else dropInvalid rest
      (rejectEntry w.entry 0 (s.updCsq (fun q => { q with window := q.window.filter (·.entry.uid != w.entry.uid) })))

/-- R33: an entry handed out by PIN joins the window at its tail. -/
def newWindowEntry (e : Entry) : WindowEntry :=
  { entry := e, captured := none, tries := 0, status := .unassigned, clip := none, discard := false }

/-- R47: assignment of the entering clip. -/
def assignEntering (s : State) : State :=
  match dropInvalid (s.csq.window.filter (fun w => w.status == .unassigned)) s with
  | (s1, some w) => assignCandidate w s1
  | (s1, none) =>
    match take s1 with
    | (s2, none) => s2
    | (s2, some e) =>
      assignCandidate (newWindowEntry e) (s2.updCsq (fun q => { q with window := q.window ++ [newWindowEntry e] }))

/-! ### The exchange (R50 to R53) -/

/-- R50: the FIRE commands of an exchange, by station number. -/
def fireCommand (s : State) (station : Nat) : SlotCommand :=
  let p := dropPosition s.tables station
  match entryAt s.csq p with
  | some w =>
    if fitted s.tables station && clipAt s.csq p == .reserved && w.captured.map Captured.station == some station
    then .fire w.entry.uid else .none
  | none => .none

/-- R68: a member of the current group is due to fire and its drop position holds an EMPTY clip. -/
def testDue (s : State) (w : Sweep) (station : Nat) : Bool :=
  w.current.contains station && fitted s.tables station
    && w.members.any (fun m => m.station == station && decide (m.fired < w.passes))
    && clipAt s.csq (dropPosition s.tables station) == .empty

/-- R50, R68: the TEST command of a member: the clip at its drop position becomes TEST, its passes fired increment. -/
def fireTest (station : Nat) (s : State) : State :=
  let p := dropPosition s.tables station
  (updMember station (fun m => { m with fired := m.fired + 1 }) (setClip p (.test station) s)).updCsq
    (fun q => { q with commands := q.commands.set (station - 1) (.test p true) })

/-- R68: when every member of the group has fired its passes, the next stations form the group. -/
def groupTest (s : State) : State :=
  s.updShu (fun h => { h with sweep := h.sweep.map (fun w =>
    if !w.waiting.isEmpty && w.members.all (fun m => m.fired == w.passes) then nextGroup w else w) })

/-- R50, R68: the TEST commands, in SWEEPING. -/
def buildTests (s : State) : State :=
  match s.csq.seq, s.shu.sweep with
  | .sweeping, some w =>
    groupTest (((List.range' 1 Config.stationCount).filter (testDue s w)).foldl (fun t n => fireTest n t) s)
  | _, _ => s

/-- R51: an exchange with a command is sent, or waits under STOP. -/
def sendOrWait (s : State) : State :=
  s.updCsq (fun q => { q with
    exchange := if q.commands.all (· == .none) then .complete
      else if s.alc.effective = .stop then .waiting else .inFlight })

/-- R50, R51: SLC builds the exchange. -/
def buildExchange (s : State) : State :=
  let s1 := s.updCsq ({ · with commands := (List.range' 1 Config.stationCount).map (fireCommand s),
                               replies := List.replicate Config.stationCount .silent })
  sendOrWait (buildTests s1)

/-- R42 step 4: assignment in RUNNING and HELD. -/
def assignStep (s : State) : State :=
  if s.csq.seq = .running ∨ s.csq.seq = .held then assignEntering s else s

/-- CHAIN_INDEX_EVENT (R42). It is taken in INSERT ONLY too, for a step that was in flight, suspended or abandoned when the mode
changed: the model's choice (log 51). -/
def execChainIndexEvent (present : Bool) (s : State) : Result :=
  if s.csq.cycle = .step ∨ (s.csq.cycle = .rest ∧ s.csq.abandoned = true) then
    let s1 := s.updCsq (fun q => advanceChain { q with stepTimer := .stopped, abandoned := false, cycle := .settle })
    let s2 := purgeTest (clipSense present s1)
    .next (settleTest (buildExchange (assignStep (handOver s2))))
  else .next s

/-- EXCHANGE_SEND (R51): a WAITING exchange is sent when the effective level has left STOP. -/
def execExchangeSend (s : State) : Result :=
  if s.csq.exchange = .waiting ∧ s.alc.effective ≠ .stop then .next (s.updCsq ({ · with exchange := .inFlight }))
  else .next s

/-- R52: the entry a FIRE slot was built for, when its clip is still RESERVED for it. -/
def firedEntry (s : State) (station uid : Nat) : Option WindowEntry :=
  match entryAt s.csq (dropPosition s.tables station) with
  | some w =>
    if w.entry.uid = uid ∧ w.status = .reserved ∧ clipAt s.csq (dropPosition s.tables station) = .reserved
    then some w else none
  | none => none

def setStatus (uid : Nat) (st : EntryStatus) (s : State) : State :=
  s.updCsq (fun q => { q with window := q.window.map (fun w =>
    if w.entry.uid = uid then { w with status := st } else w) })

/-- R53: a reply to a TEST slot: a clip that is TEST for the station stays so at a drop and is EMPTY otherwise. The clip is
the one the command was built for, whatever a later load makes of the station map. -/
def applyTestReply (station clip : Nat) (r : Reply) (s : State) : State :=
  if r.drop = false ∧ clipAt s.csq clip = .test station then setClip clip .empty s else s

/-- R52, R53: the reply of one slot applied to its clip and entry; a missed entry is added to the list. -/
def applyReply (acc : State × List Nat) (slot : Nat × SlotCommand × Reply) : State × List Nat :=
  let (station, command, reply) := slot
  let (s, missed) := acc
  let p := dropPosition s.tables station
  match command with
  | .none => acc
  | .test clip _ => (applyTestReply station clip reply s, missed)
  | .fire uid =>
    match firedEntry s station uid with
    | some w =>
      if reply.drop then (setStatus w.entry.uid .loaded (setClip p .loaded s), missed)
      else (setClip p .empty s, missed ++ [w.entry.uid])
    | none => (if reply.drop then setClip p .reject s else s, missed)

/-- R52, R57: the report of one slot to SHU. -/
def reportSlot (s : State) (slot : Nat × SlotCommand × Reply) : State :=
  match slot.2.1 with
  | .none => s
  | .fire _ => reportFire slot.1 slot.2.2 s
  | .test _ judged => reportTest judged slot.1 slot.2.2 s

/-- EXCHANGE_COMPLETE (R52, R53): replies, one miss cascade, reports in station order, the sweep test, R45. -/
def execExchangeComplete (replies : List ReplySlot) (s : State) : Result :=
  if s.csq.exchange = .inFlight then
    let rs := (List.range Config.stationCount).map (fun i => ReplySlot.reply (replies.getD i .unfilled))
    let slots := (List.range Config.stationCount).map
      (fun i => (i + 1, s.csq.commands.getD i .none, rs.getD i .silent))
    let s1 := s.updCsq ({ · with exchange := .complete, replies := rs })
    let (s2, missed) := slots.foldl applyReply (s1, [])
    .next (settleTest (sweepTest (slots.foldl reportSlot (missCascade missed s2))))
  else .next s

end Sys2Proof.Machine
end

