-- ==== Sys2Proof/Machine/Clinch.lean ====
section
/-! DEFINITION. Clinch Signature Unit (chapter 7): capture, fixed-point filter, features, verdict, wear and faults. -/

namespace Sys2Proof.Machine

/-! ### Arithmetic (R113 to R116); division by a positive number is floor -/

/-- R114: divides by 8,192 and rounds to the nearest, halves up. -/
def round13 (v : Int) : Int := (v + 4096) / 8192

/-- R114: saturation to 16 bits. -/
def saturate16 (v : Int) : Int := if v < -32768 then -32768 else if 32767 < v then 32767 else v

/-- R113: the baseline. -/
def baselineOf (samples : List Nat) : Int := ((samples.take 4).sum / 4 : Nat)

/-- R115: the filtered values, with the last two state values. -/
def filterFrom (f : FilterSet) : Int → Int → List Int → List Int
  | _, _, [] => []
  | w1, w2, x :: rest =>
    let w := saturate16 (round13 (8192 * x - f.a1 * w1 - f.a2 * w2))
    let y := saturate16 (round13 (f.b0 * w + f.b1 * w1 + f.b2 * w2))
    y :: filterFrom f w w1 rest

/-- R115: y[n]; with bypass set y[n] = x[n]. -/
def filtered (f : FilterSet) (xs : List Int) : List Int := if f.bypass then xs else filterFrom f 0 0 xs

/-- R116: the greatest value. -/
def peakOf : List Int → Int
  | [] => 0
  | [y] => y
  | y :: rest => max y (peakOf rest)

/-- R116: the sum of the values above 0. -/
def areaOf (ys : List Int) : Nat := (ys.map Int.toNat).sum

/-- R116: the last index at or above the contact level. -/
def releaseOf (level : Int) (ys : List Int) : Option Nat :=
  ((List.range ys.length).filter (fun n => decide (level ≤ ys.getD n 0))).getLast?

/-- R113 to R116: everything measured from a window of at least five samples. -/
def measure (w : SampleWindow) : Measurement :=
  let b := baselineOf w.samples
  let ys := filtered w.filter ((w.samples.drop 4).map (fun (c : Nat) => (c : Int) - b))
  let peak := peakOf ys
  { baseline := b, saturated := w.samples.any (· == 4095), peak := peak, peakIndex := ys.findIdx (· == peak),
    area := areaOf ys, contact := ys.countP (fun y => decide ((w.profile.contactLevel : Int) ≤ y)),
    release := releaseOf w.profile.contactLevel ys }

/-- R117 tests 2 to 9. -/
def judge (p : Profile) (m : Measurement) : Verdict :=
  if m.saturated then .high
  else if m.peak < p.emptyLevel then .empty
  else if (p.peakMax : Int) < m.peak then .high
  else if m.peak < p.peakMin then .low
  else if m.peakIndex < p.indexMin ∨ p.indexMax < m.peakIndex then .timing
  else if m.area < p.areaMin ∨ p.areaMax < m.area then .area
  else if m.contact < p.contactMin then .dwell
  else .good

/-! ### Capture (R109 to R112) -/

/-- R96: CSU hands HDC the verdict and the features. -/
def handVerdict (v : Verdict) (f : Option Features) (s : State) : State :=
  s.updHdc (fun h => { h with cycle := h.cycle.map ({ · with verdict := some v, features := f }) })

/-- R109: the clinch begin notice. An entry whose profile is not loaded does not arise (log 31). -/
def clinchBegin (e : TapeEntry) (s : State) : State :=
  if e.captured.checkSkip then handVerdict .unchecked none s
  else match s.csu.profiles.getD e.captured.profile none with
    | none => s
    | some p =>
      (s.updCsu (fun c => { c with
        silence := .running Config.silenceMs
        window := some { step := e.entry.step, panel := e.entry.panel, image := e.entry.image,
                         profileNo := e.captured.profile, profile := p,
                         filter := c.filters.getD p.filterSet ⟨8192, 0, 0, 0, 0, true⟩, samples := [] } })).updOut
        ({ · with conversions := true })

/-- R111, R112: the window is CLOSED, the silence timer stopped, conversions no longer requested. -/
def shutWindow (s : State) : State :=
  (s.updCsu ({ · with window := none, silence := .stopped })).updOut ({ · with conversions := false })

/-! ### Wear and faults (R118 to R120) -/

/-- R118: the verdicts after which the wear accumulator is updated. -/
def Verdict.wears : Verdict → Bool
  | .good | .low | .high | .timing | .area | .dwell => true
  | _ => false

/-- R118: the new accumulator. -/
def wearNext (acc : Nat) (peak : Int) : Nat := acc - acc / 16 + peak.toNat

/-- R118. -/
def wearUpdate (w : SampleWindow) (peak : Int) (s : State) : State :=
  let acc := wearNext (s.csu.wear.getD w.profileNo 0) peak
  let s1 := s.updCsu (fun c => { c with wear := c.wear.set w.profileNo acc })
  if w.profile.wearLevel < acc / 16 then post .cutterWear (some w.profileNo) s1 else s1

/-- R119: the fault policy of the profile acts. -/
def actPolicy (w : SampleWindow) (s : State) : State :=
  match w.profile.policy with
  | .stop => postClinchFault .stop w.step.toNat s
  | .hold => postClinchFault .hold w.step.toNat s
  | .mark => rejectImage w.panel w.image s

/-- R120. -/
def repeatTest (profileNo : Nat) (s : State) : State :=
  if s.tables.constants.repeatLimit ≤ s.csu.faults then
    post .clinchRepeat (some profileNo) (s.updCsu ({ · with faults := 0 }))
  else s

/-- R119, R120. -/
def handleVerdict (v : Verdict) (w : SampleWindow) (s : State) : State :=
  match v with
  | .good => s.updCsu ({ · with faults := 0 })
  | .unchecked => s
  | _ =>
    let s1 := s.updCsu (fun c => { c with faults := c.faults + 1 })
    let s2 := if v = .sensor then post .sensorSilent none s1 else s1
    repeatTest w.profileNo (actPolicy w s2)

/-- R111, R117, R121: the window `w` closes and is evaluated. -/
def closeWindow (w : SampleWindow) (s : State) : State :=
  let m := if w.samples.length < 5 then none else some (measure w)
  let v := match m with
    | none => Verdict.sensor
    | some m => judge w.profile m
  let s1 := handVerdict v (m.map (fun m => ⟨m.peak, m.peakIndex, m.area, m.contact⟩)) (shutWindow s)
  let signature : Signature :=
    { step := w.step, panel := w.panel, image := w.image, profile := w.profileNo, verdict := v,
      held := w.samples.length, measured := m }
  let s2 := s1.updCsu ({ · with last := some signature })
  let s3 := match m with
    | some m => if v.wears then wearUpdate w m.peak s2 else s2
    | none => s2
  handleVerdict v w s3

/-- R111: CLINCH_DONE closes an OPEN window. -/
def closeIfOpen (s : State) : State :=
  match s.csu.window with
  | none => s
  | some w => closeWindow w s

/-- FORCE_SAMPLE (R110). -/
def execForceSample (code : BitVec 12) (s : State) : Result :=
  match s.csu.window with
  | none => .next s
  | some w =>
    let w1 := { w with samples := w.samples ++ [code.toNat] }
    let s1 := s.updCsu ({ · with window := some w1, silence := .stopped })
    .next (if 4 + w.profile.windowLength ≤ w1.samples.length then closeWindow w1 s1 else s1)

/-- SILENCE_TIMEOUT (R111). -/
def execSilenceTimeout (s : State) : Result :=
  match s.csu.window with
  | none => .next s
  | some w => .next (if s.csu.silence.expired then closeWindow w s else s)

end Sys2Proof.Machine
end

