-- ==== Sys2Proof/Machine/Head.lean ====
section
/-! DEFINITION. Head Controller (chapter 6): cycles, phases, completion, aborts, homing, the Skip button. -/

namespace Sys2Proof.Machine

/-! ### Phases (R89, R90, R92) -/

/-- R89: a phase is commanded on the cam drive line and the phase timer starts. -/
def enterPhase (p : HeadState) (s : State) : State :=
  (s.updHdc ({ · with head := p, timer := .running s.tables.constants.headTimeout })).updOut
    ({ · with cam := .phase p })

/-- R95: an insert cycle turns to a dump. -/
def turnToDump (s : State) : State :=
  enterPhase .eject (s.updHdc (fun h => { h with cycle := h.cycle.map ({ · with kind := .dump }) }))

/-- R94: the head enters DRIVE. -/
def enterDrive (s : State) : State :=
  enterPhase .drive (s.updHdc (fun h =>
    { h with clear := false, cycle := h.cycle.map ({ · with driven := true }) }))

/-- R94: the head waits for the table; WAIT_TABLE has no timer. -/
def enterWaitTable (s : State) : State := s.updHdc ({ · with head := .waitTable, timer := .stopped })

/-- R94: the DRIVE test for the entry of the cycle (log 30 for condition 2). -/
def driveTest (e : TapeEntry) (s : State) : State :=
  if imageMarked s.tbc e.entry.image then turnToDump s
  else if e.entry.panel = s.tbc.current ∧ s.tbc.panel = .ready ∧ s.tbc.inPosition = .entry e.entry.uid
  then enterDrive s
  else enterWaitTable s

/-! ### Starts (R91, R95, R102, R103) -/

/-- R91, R95, R103: what every start of a cycle needs. -/
def headMayCycle (s : State) : Bool :=
  s.hdc.head == .idle && s.alc.effective == .run && s.tpc.verified

/-- R91: the insert cycle conditions for the front entry. -/
def insertMayStart (s : State) (e : TapeEntry) : Bool :=
  headMayCycle s && !s.hdc.skip && !e.discard && e.entry.panel == s.tbc.current && s.tbc.panel == .ready
    && !imageMarked s.tbc e.entry.image

def newCycle (k : CycleKind) (e : Option TapeEntry) : HeadCycle :=
  { kind := k, entry := e, driven := false, verdict := none, features := none, spanDue := false, rotateDue := false }

/-- R92: SETUP with the axes that differ commanded. -/
def enterSetup (e : TapeEntry) (s : State) : State :=
  let spanDue := s.hdc.span != some e.captured.span
  let rotateDue := s.hdc.rotate != some e.entry.orientation
  let angle := match e.entry.orientation with
    | .deg0 => 0
    | .deg90 => 90
  (s.updHdc (fun h => { h with
    head := .setup
    timer := .running s.tables.constants.axisTimeout
    cycle := some { newCycle .insert (some e) with spanDue := spanDue, rotateDue := rotateDue } })).updOut (fun o =>
      { o with
        spanAxis := if spanDue then .target e.captured.span else o.spanAxis
        rotateAxis := if rotateDue then .target angle else o.rotateAxis })

/-- INSERT_CYCLE_START (R91). -/
def execInsertCycleStart (s : State) : Result :=
  match s.tpc.tape with
  | [] => .next s
  | e :: _ =>
    if insertMayStart s e then
      if s.hdc.span = some e.captured.span ∧ s.hdc.rotate = some e.entry.orientation then
        .next (enterPhase .cut (s.updHdc ({ · with cycle := some (newCycle .insert (some e)) })))
      else .next (enterSetup e s)
    else .next s

/-- DUMP_CYCLE_START (R95). -/
def execDumpCycleStart (s : State) : Result :=
  match s.tpc.tape with
  | [] => .next s
  | e :: _ =>
    if headMayCycle s && !s.hdc.skip && e.discard then
      .next (enterPhase .cut (s.updHdc ({ · with cycle := some (newCycle .dump (some e)) })))
    else .next s

/-- FREE_DUMP_CYCLE_START (R103). Skip pending left at yes by a mode change stands, without a free dump outside INSERT
ONLY: the model's choice (log 47). -/
def execFreeDumpCycleStart (s : State) : Result :=
  if s.mode = .insertOnly ∧ headMayCycle s ∧ s.hdc.skip = true then
    .next (enterPhase .cut (s.updHdc ({ · with cycle := some (newCycle .freeDump none) })))
  else .next s

/-- HOMING_START (R102). -/
def execHomingStart (s : State) : Result :=
  if s.hdc.head = .fault ∧ s.alc.effective = .run then
    .next ((enterPhase .homing s).updOut ({ · with spanAxis := .reference, rotateAxis := .reference }))
  else .next s

/-! ### SETUP (R92, R101) -/

/-- R92: an axis reports; at the last one the head enters CUT. -/
def axisReported (axis : HeadAxis) (c : HeadCycle) (e : TapeEntry) (s : State) : State :=
  let c1 := match axis with
    | .span => { c with spanDue := false }
    | .rotate => { c with rotateDue := false }
  let s1 := s.updHdc (fun h => match axis with
    | .span => { h with span := some e.captured.span, cycle := some c1 }
    | .rotate => { h with rotate := some e.entry.orientation, cycle := some c1 })
  if c1.spanDue || c1.rotateDue then s1 else enterPhase .cut s1

/-- The axis is commanded and has not reported. -/
def HeadCycle.due (c : HeadCycle) : HeadAxis → Bool
  | .span => c.spanDue
  | .rotate => c.rotateDue

/-- AXIS_IN_POSITION (R92). -/
def execAxisInPosition (axis : HeadAxis) (s : State) : Result :=
  match s.hdc.head, s.hdc.cycle with
  | .setup, some c =>
    match c.entry with
    | some e => if c.due axis then .next (axisReported axis c e s) else .next s
    | none => .next s
  | _, _ => .next s

/-- R92, R101: SETUP ends with no outcome: both axes halt, an axis that had not reported is UNKNOWN, FAULT. Of "each axis that had
not reported" only an axis that SETUP commanded becomes UNKNOWN; one it did not command, at rest at the value it holds, keeps
it: the model's choice (log 55). -/
def failSetup (s : State) : State :=
  let due := fun (a : HeadAxis) => (s.hdc.cycle.map (·.due a)).getD false
  retestFront ((s.updHdc (fun h => { h with
    head := .fault, cycle := none, timer := .stopped
    span := if due .span then none else h.span
    rotate := if due .rotate then none else h.rotate })).updOut ({ · with spanAxis := .halt, rotateAxis := .halt }))

/-- SPAN_FAULT (R92). -/
def execSpanFault (s : State) : Result :=
  if s.hdc.head = .setup ∧ s.hdc.timer.expired = true then .next (failSetup (post .spanFault none s))
  else .next s

/-! ### Phase events (R89, R94, R96) -/

/-- CUT_DONE. -/
def execCutDone (s : State) : Result :=
  if s.hdc.head = .cut then .next (enterPhase .form s) else .next s

/-- FORM_DONE (R94, R95, R98). -/
def execFormDone (s : State) : Result :=
  match s.hdc.head, s.hdc.cycle with
  | .form, some c =>
    match c.kind, c.entry with
    | .insert, some e => .next (driveTest e s)
    | _, _ => .next (enterPhase .eject s)
  | _, _ => .next s

/-- DRIVE_DONE (R96): the clinch form is sent and CSU is told a clinch has begun. -/
def execDriveDone (s : State) : Result :=
  match s.hdc.head, s.hdc.cycle with
  | .drive, some c =>
    match c.entry with
    | some e =>
      .next (clinchBegin e ((enterPhase .clinch s).updOut ({ · with clinch := some e.captured.form })))
    | none => .next s
  | _, _ => .next s

/-- CLINCH_DONE (R89, R111): an OPEN window is closed and judged; the head enters RETRACT. -/
def execClinchDone (s : State) : Result :=
  if s.hdc.head = .clinch then .next (enterPhase .retract (closeIfOpen s)) else .next s

/-- EJECT_DONE (R98). -/
def execEjectDone (s : State) : Result :=
  if s.hdc.head = .eject then .next (enterPhase .retract s) else .next s

/-- MARKING_NOTICE_HDC (R95): a cycle in WAIT_TABLE for the image turns to a dump. -/
def execMarkingNoticeHdc (s : State) : Result :=
  match s.hdc.marks with
  | [] => .next s
  | m :: rest =>
    let s1 := s.updHdc ({ · with marks := rest })
    match s.hdc.head, s.hdc.cycle.bind HeadCycle.entry with
    | .waitTable, some e =>
      if e.entry.panel = m.panel ∧ e.entry.image = m.image then .next (turnToDump s1) else .next s1
    | _, _ => .next s1

/-! ### Ends of cycles (R97, R98, R100) -/

/-- R125: TBC is told that an entry is finished. -/
def finishNotice (o : RecordOutcome) (e : Entry) (s : State) : State :=
  if e.panel = s.tbc.current then
    s.updTbc (fun b => { b with images := b.images.modify (e.image - 1) (fun r => match o with
      | .inserted => { r with inserted := satInc Config.sat16 r.inserted }
      | .aborted => { r with faults := satInc 255 r.faults }
      | _ => r) })
  else s

/-- R97 step 3, R100. -/
def countOutcome (o : RecordOutcome) (s : State) : State :=
  s.updHdc (fun h => match o with
    | .inserted => { h with inserted := h.inserted + 1 }
    | .dumped => { h with dumped := h.dumped + 1 }
    | .lost => { h with lost := h.lost + 1 }
    | .aborted => { h with aborted := h.aborted + 1 }
    | _ => h)

/-- R97 step 4: the signature part of a long record; SENSOR has features 0. -/
def signatureOf (c : HeadCycle) : Option RecordSignature :=
  match c.verdict with
  | none => none
  | some .unchecked => none
  | some v =>
    let f := c.features.getD ⟨0, 0, 0, 0⟩
    some ⟨v, f.peak, f.peakIndex, f.area, f.contact⟩

/-- R97 steps 2 to 5: the entry ends with an outcome. -/
def finishEntry (o : RecordOutcome) (c : HeadCycle) (s : State) : State :=
  match c.entry with
  | none => s
  | some e =>
    finishNotice o e.entry (writeRecord (entryRecord o e.entry e.captured.station
      (if o = .inserted then signatureOf c else none)) (countOutcome o (leaveFront s)))

/-- R97 step 1, R100: the outcome of a cycle's kind. -/
def kindOutcome (k : CycleKind) : RecordOutcome :=
  match k with
  | .insert => .inserted
  | _ => .dumped

/-- R97, R103: the cycle's entry ends with the outcome; a free dump ends skip pending. -/
def endCycleWith (o : RecordOutcome) (c : HeadCycle) (s : State) : State :=
  match c.kind with
  | .freeDump => s.updHdc ({ · with skip := false })
  | _ => finishEntry o c s

/-- HEAD_UP (R97). -/
def execHeadUp (s : State) : Result :=
  match s.hdc.head, s.hdc.cycle with
  | .retract, some c =>
    let s1 := endCycleWith (kindOutcome c.kind) c s
    .next (askPin (s1.updHdc (fun h =>
      { h with clear := h.clear || c.driven, cycle := none, head := .idle, timer := .stopped })))
  | _, _ => .next s

/-- R100: the outcome an abort gives by the phase. -/
def abortOutcome (h : HeadState) (k : CycleKind) : RecordOutcome :=
  match h with
  | .cut | .form => .lost
  | .eject => .dumped
  | .retract => kindOutcome k
  | _ => .aborted

/-- R100, R112: a cycle in a cam phase or in WAIT_TABLE is aborted. -/
def abortCycle (c : HeadCycle) (s : State) : State :=
  let s1 := endCycleWith (abortOutcome s.hdc.head c.kind) c (shutWindow s)
  (s1.updHdc ({ · with cycle := none, head := .fault, timer := .stopped })).updOut ({ · with cam := .halt })

/-- R102: homing fails: both axes UNKNOWN, head clear no, FAULT. -/
def failHoming (s : State) : State :=
  (s.updHdc ({ · with head := .fault, timer := .stopped, span := none, rotate := none, clear := false })).updOut
    ({ · with cam := .halt, spanAxis := .halt, rotateAxis := .halt })

/-- R89: the head state is a cam phase of a cycle. -/
def HeadState.camPhase : HeadState → Bool
  | .cut | .form | .drive | .clinch | .retract | .eject => true
  | _ => false

/-- PHASE_TIMEOUT (R89, R100, R102). -/
def execPhaseTimeout (s : State) : Result :=
  if s.hdc.timer.expired then
    match s.hdc.head, s.hdc.cycle with
    | .homing, _ => .next (failHoming (post .headJam none s))
    | h, some c => if h.camPhase then .next (abortCycle c (post .headJam none s)) else .next s
    | _, none => .next s
  else .next s

/-- R100 to R102: the E-stop line is asserted. -/
def estopHead (s : State) : State :=
  match s.hdc.head, s.hdc.cycle with
  | .setup, _ => failSetup s
  | .homing, _ => failHoming s
  | h, some c => if h.camPhase || h == .waitTable then abortCycle c s else s
  | _, none => s

/-- HOME_DONE (R102, R90). -/
def execHomeDone (s : State) : Result :=
  if s.hdc.head = .homing then
    .next (askPin (s.updHdc ({ · with
      head := .idle, timer := .stopped, span := some 50, rotate := some .deg0, clear := true })))
  else .next s

/-- SKIP_BUTTON (R103). -/
def execSkipButton (s : State) : Result :=
  if s.hdc.head = .idle ∧ s.alc.effective ≠ .run then
    match s.mode with
    | .sequenceInsert => .next (discardFront s)
    | .insertOnly => .next (s.updHdc ({ · with skip := true }))
    | .sequenceOnly => .next s
  else .next s

end Sys2Proof.Machine
end

