-- ==== Sys2Proof/Machine/Table.lean ====
section
/-! DEFINITION. Table Controller (chapter 8): the handler, the panel states, the survey, moves, limits. -/

namespace Sys2Proof.Machine

/-! ### Handler operations (R128) -/

def handlerLine (op : HandlerOp) : HandlerCommand :=
  match op with
  | .load => .load
  | .release => .release

/-- R128: an operation is commanded, RUNNING, or SUSPENDED with the full timeout while the E-stop line is asserted. -/
def commandHandler (op : HandlerOp) (s : State) : State :=
  let full := s.tables.constants.moveTimeout
  let s1 := s.updOut ({ · with handler := handlerLine op })
  if s.alc.estop = .asserted then
    s1.updTbc ({ · with handler := some ⟨op, .suspended⟩, handlerTimer := .suspended full, restartDue := false })
  else s1.updTbc ({ · with handler := some ⟨op, .running⟩, handlerTimer := .running full, restartDue := false })

/-- R128, last table: the operation ends and the panel moves on. -/
def endHandler (panel : PanelState) (s : State) : State :=
  s.updTbc ({ · with handler := none, handlerTimer := .stopped, restartDue := false, panel := panel })

/-- CLAMPED (R128). -/
def execClamped (s : State) : Result :=
  match s.tbc.handler with
  | some ⟨.load, _⟩ =>
    .next (endHandler (if (s.tbc.pattern.bind Pattern.badMark).isSome then .survey else .ready) s)
  | _ => .next s

/-- RELEASED (R128). -/
def execReleased (s : State) : Result :=
  match s.tbc.handler with
  | some ⟨.release, _⟩ => .next (endHandler .empty s)
  | _ => .next s

/-- HANDLER_TIMEOUT (R128). -/
def execHandlerTimeout (s : State) : Result :=
  match s.tbc.handler with
  | some ⟨op, .running⟩ =>
    if s.tbc.handlerTimer.expired then
      .next (post .handlerFault none ((s.updTbc ({ · with
        handler := some ⟨op, .stalled⟩, handlerTimer := .stopped, restartDue := false })).updOut
          ({ · with handler := .stop })))
    else .next s
  | _ => .next s

/-- HANDLER_RESTART (R128): a SUSPENDED operation goes on, a STALLED one is commanded anew. -/
def execHandlerRestart (s : State) : Result :=
  if s.alc.effective ≠ .stop ∧ s.alc.estop = .released then
    match s.tbc.handler with
    | some ⟨op, .suspended⟩ =>
      .next ((s.updTbc (fun b =>
        { b with handler := some ⟨op, .running⟩, handlerTimer := b.handlerTimer.resume })).updOut
          ({ · with handler := .goOn }))
    | some ⟨op, .stalled⟩ => if s.tbc.restartDue then .next (commandHandler op s) else .next s
    | _ => .next s
  else .next s

/-- R128, R136: the E-stop line is asserted. -/
def estopTable (s : State) : State :=
  let s1 := haltTable s
  match s1.tbc.handler with
  | some ⟨op, .running⟩ =>
    (s1.updTbc (fun b => { b with handler := some ⟨op, .suspended⟩, handlerTimer := b.handlerTimer.suspend })).updOut
      ({ · with handler := .halt })
  | _ => s1

/-! ### Loads and unloads (R126, R131) -/

/-- R126: the machine holds material of the next panel. -/
def holdsMaterial (s : State) : Bool :=
  !s.csq.window.isEmpty || !s.tpc.tape.isEmpty || !s.pin.queue.isEmpty

/-- R126: the conditions of a load start. -/
def loadMayStart (s : State) : Bool :=
  s.tbc.panel == .empty && s.tbc.handler.isNone && s.tbc.pattern.isSome && s.mode != .sequenceOnly
    && (s.tbc.loadWanted || holdsMaterial s) && s.alc.effective != .stop && s.alc.estop == .released && s.hdc.clear

/-- R125: the image table of a pattern. -/
def newImages (p : Pattern) : List ImageRecord :=
  (List.range' 1 p.count).map (fun n => ⟨p.offset n, .good, 0, 0⟩)

/-- LOAD_START (R126). -/
def execLoadStart (s : State) : Result :=
  if loadMayStart s then
    .next (retakeAsk (commandHandler .load (s.updTbc (fun b => { b with
      panel := .loading
      current := b.current + 1
      images := (b.pattern.map newImages).getD []
      cursor := some 1
      loadWanted := false }))))
  else .next s

/-- R131: the conditions of an unload start. -/
def unloadMayStart (s : State) : Bool :=
  panelComplete s && s.tbc.handler.isNone && s.alc.effective != .stop && s.alc.estop == .released && s.hdc.clear

/-- UNLOAD_START (R131). -/
def execUnloadStart (s : State) : Result :=
  if unloadMayStart s then
    .next (commandHandler .release (s.updTbc ({ · with panel := .unloading, inPosition := .none })))
  else .next s

/-! ### Moves (R129, R132 to R136) -/

/-- R132: a move starts. -/
def startMove (k : MoveKind) (target : Int × Int) (s : State) : State :=
  (s.updTbc ({ · with
    inPosition := .none
    move := some ⟨k, target.1, target.2⟩
    moveTimer := .running s.tables.constants.moveTimeout })).updOut
      ({ · with tableAxes := .target target.1 target.2 s.tables.constants.followLimit })

/-- SURVEY_MOVE_START (R129). -/
def execSurveyMoveStart (s : State) : Result :=
  match s.tbc.pattern, s.tbc.cursor with
  | some p, some n =>
    if s.tbc.panel = .survey ∧ s.tbc.move = none ∧ s.tbc.inPosition ≠ .image n ∧ s.alc.effective ≠ .stop
        ∧ s.alc.estop = .released ∧ s.hdc.clear = true then
      .next (startMove (.survey n) (p.markPosition n) s)
    else .next s
  | _, _ => .next s

/-- R132: the insert target. -/
def insertTarget (s : State) : Option TapeEntry := s.tpc.tape.find? (isTarget s.tbc)

/-- INSERT_MOVE_START (R132). -/
def execInsertMoveStart (s : State) : Result :=
  match s.tbc.pattern, insertTarget s with
  | some p, some e =>
    if s.tbc.panel = .ready ∧ s.tbc.move = none ∧ s.tbc.inPosition ≠ .entry e.entry.uid ∧ s.alc.effective = .run
        ∧ s.alc.estop = .released ∧ s.hdc.clear = true then
      .next (startMove (.insert e.entry.uid) (p.target e.entry.image e.entry.x e.entry.y) s)
    else .next s
  | _, _ => .next s

/-- R129: the mark of image `n` has been read; the cursor advances, and past N the panel is READY. -/
def surveyNext (n : Nat) (s : State) : State :=
  s.updTbc (fun b =>
    if n < b.images.length then { b with cursor := some (n + 1) } else { b with cursor := none, panel := .ready })

/-- R129, R130: the bad-mark sensor at image `n` (log 40 for an image not GOOD). -/
def readMark (present : Bool) (n : Nat) (s : State) : State :=
  surveyNext n (if present then
    post .badImage (some n) (if imageMarked s.tbc n then s else markImage n .bad s) else s)

/-- R133, R94: the report names entry `uid`; the head tests its DRIVE conditions in WAIT_TABLE (log 35). -/
def reportInPosition (uid : Nat) (s : State) : State :=
  let s1 := s.updTbc ({ · with inPosition := .entry uid })
  match s.hdc.head, s.hdc.cycle.bind HeadCycle.entry with
  | .waitTable, some e => if e.entry.uid = uid then driveTest e s1 else s1
  | _, _ => s1

/-- IN_POSITION (R133). -/
def execInPosition (markPresent : Bool) (s : State) : Result :=
  match s.tbc.move with
  | none => .next s
  | some m =>
    let s1 := s.updTbc ({ · with move := none, moveTimer := .stopped })
    match m.kind with
    | .survey n => .next (readMark markPresent n (s1.updTbc ({ · with inPosition := .image n })))
    | .insert uid =>
      if s.tpc.tape.any (fun e => e.entry.uid == uid && !e.discard && !imageMarked s.tbc e.entry.image)
      then .next (reportInPosition uid s1) else .next s1

/-- FOLLOWING_ERROR (R134): taken at any time. -/
def execFollowingError (s : State) : Result := .next (post .tableFollow none (haltTable s))

/-- MOVE_TIMEOUT (R134). -/
def execMoveTimeout (s : State) : Result :=
  if s.tbc.move.isSome ∧ s.tbc.moveTimer.expired = true then .next (post .tableFollow none (haltTable s))
  else .next s

/-- LIMIT_ACTIVE (R135). -/
def execLimitActive (s : State) : Result :=
  if s.tbc.limits = .released then
    .next (post .tableLimit none (haltTable (s.updTbc ({ · with limits := .active }))))
  else .next s

/-- LIMIT_RELEASED (R135). -/
def execLimitReleased (s : State) : Result := .next (s.updTbc ({ · with limits := .released }))

end Sys2Proof.Machine
end

