-- ==== Sys2Proof/Machine/RunLevel.lean ====
section
/-! DEFINITION. Run level, clearing, the E-stop line, the operator's buttons and the millisecond (chapter 9). -/

namespace Sys2Proof.Machine

/-! ### RUN, HOLD, STOP (R146, R38) -/

/-- R146: a RUN is taken when the STOP channel is empty and the E-stop line RELEASED. -/
def runAllowed (s : State) : Bool := s.alc.stopCh.entries.isEmpty && s.alc.estop == .released

/-- R38: IDLE goes to RUNNING at a RUN taken, in a mode with sequencing. -/
def idleToRunning (s : State) : State :=
  if s.csq.seq = .idle ∧ s.mode ≠ .insertOnly then s.updCsq ({ · with seq := .running }) else s

/-- R146, R38: a RUN that is taken (log 15). -/
def takeRun (s : State) : State := idleToRunning (recompute (s.updAlc ({ · with requested := .run })))

/-- R146: HOLD lowers RUN and leaves HOLD and STOP. -/
def takeHold (s : State) : State :=
  recompute (s.updAlc (fun a => { a with requested := if a.requested = .run then .hold else a.requested }))

/-- R146. -/
def takeStop (s : State) : State := recompute (s.updAlc ({ · with requested := .stop }))

/-- RESUME_BUTTON (R146). -/
def execResumeButton (s : State) : Result := .next (if runAllowed s then takeRun s else s)

/-- HOLD_BUTTON (R146). -/
def execHoldButton (s : State) : Result := .next (takeHold s)

/-! ### Clearing (R150 to R153) -/

/-- R150: the clear condition of an entry is met; kinds without one can be cleared at any time. -/
def clearable (s : State) (e : AlarmEntry) : Bool :=
  match e.kind with
  | .estop => s.alc.estop == .released
  | .tapeBreak => s.tpc.tension == .normal
  | .tableLimit => s.tbc.limits == .released
  | .noStation =>
    let c := e.subject.getD 0
    !componentValid s.tables c || (resolveStation s.tables s.shu (componentAt s.tables c).station).isSome
  | _ => true

/-- R153: the entry with this sequence number leaves its channel. -/
def Alc.remove (a : Alc) (c : ChannelId) (seq : Word16) : Alc :=
  let ch := a.channel c
  a.setChannel c { ch with entries := ch.entries.eraseP (·.seq == seq) }

/-- R145, R153: ESTOP is posted again while the line is ASSERTED and the STOP channel holds no ESTOP entry. -/
def repostEstop (s : State) : State :=
  if s.alc.estop = .asserted ∧ s.alc.stopCh.entries.all (·.kind != .estop) then post .estop none s else s

/-- R153. -/
def clearEntry (c : ChannelId) (seq : Word16) (s : State) : State :=
  let s1 := recompute (s.updAlc (·.remove c seq))
  if c = .stop then repostEstop s1 else s1

/-- R151: the highest channel that is not empty, with its oldest entry. -/
def highestEntry (a : Alc) : Option (ChannelId × AlarmEntry) :=
  ([ChannelId.stop, .hold, .warn, .note].filterMap (fun c => (a.channel c).entries.head?.map (c, ·))).head?

/-- CLEAR_BUTTON (R149, R151). -/
def execClearButton (s : State) : Result :=
  let s1 := s.updAlc ({ · with horn := false })
  match highestEntry s.alc with
  | none => .next s1
  | some (c, e) => if clearable s e then .next (clearEntry c e.seq s1) else .next s1

/-! ### The E-stop line (R145) -/

/-- ESTOP_ASSERTED: ALC posts ESTOP and the level is recomputed; then the blocks the line acts on, CSQ, TPC, HDC, TBC
(log 37). -/
def execEstopAsserted (s : State) : Result :=
  if s.alc.estop = .released then
    .next (estopTable (estopHead (estopTransfer (estopStep
      (recompute (post .estop none (s.updAlc ({ · with estop := .asserted }))))))))
  else .next s

/-- ESTOP_RELEASED. -/
def execEstopReleased (s : State) : Result := .next (recompute (s.updAlc ({ · with estop := .released })))

/-! ### The millisecond (R138) -/

def Receive.tick : Receive → Receive
  | .hunting => .hunting
  | .frame bytes gap => .frame bytes (gap - 1)

/-- MILLISECOND_TICK: the counter, and one millisecond of every running timer and gap (log 3). -/
def execMillisecondTick (s : State) : Result :=
  .next (((((((s.updAlc (fun a => { a with ms := a.ms + 1 })).updLpu
    (fun l => { l with rxUp := l.rxUp.tick, rxDown := l.rxDown.tick })).updCsq
    (fun q => { q with stepTimer := q.stepTimer.tick })).updTpc
    (fun t => { t with timer := t.timer.tick })).updHdc
    (fun h => { h with timer := h.timer.tick })).updCsu
    (fun c => { c with silence := c.silence.tick })).updTbc
    (fun b => { b with handlerTimer := b.handlerTimer.tick, moveTimer := b.moveTimer.tick }))

end Sys2Proof.Machine
end

