-- ==== Sys2Proof/Machine/Reset.lean ====
section
/-! DEFINITION. Power-on reset and soft reset (R17, R55, R74, R87, R105, R122, R137, R155, R171, R172). -/

namespace Sys2Proof.Machine

/-- R159: the machine address the pins give. -/
def addressOf (pins : BitVec 5) : Option Nat :=
  if 1 ≤ pins.toNat ∧ pins.toNat ≤ 30 then some pins.toNat else none

/-- R155: the physical conditions that stand. -/
def conditionStands (s : State) : AlarmKind → Bool
  | .estop => s.alc.estop == .asserted
  | .tapeBreak => s.tpc.tension == .broken
  | .tableLimit => s.tbc.limits == .active
  | _ => false

/-- The six orders of three posts. -/
def repostOrders : List (List AlarmKind) :=
  [[.estop, .tapeBreak, .tableLimit], [.estop, .tableLimit, .tapeBreak], [.tapeBreak, .estop, .tableLimit],
   [.tapeBreak, .tableLimit, .estop], [.tableLimit, .estop, .tapeBreak], [.tableLimit, .tapeBreak, .estop]]

/-- R155: the conditions posted, in an order nothing constrains when there are two or more (log 10). -/
def repostsDue (s : State) : List AlarmKind :=
  match [AlarmKind.estop, .tapeBreak, .tableLimit].filter (conditionStands s) with
  | [] => []
  | [k] => [k]
  | _ :: _ :: _ => (repostOrders.getD (Config.repostOrder s.resets % 6) []).filter (conditionStands s)

def repost (s : State) : State := (repostsDue s).foldl (fun t k => post k none t) s

/-- R128, R137: the release commanded at a reset; SUSPENDED while the E-stop line is asserted (log 27). -/
def releaseAtReset (s : State) : State := commandHandler .release s

/-- POWER_ON_RESET: every block's after-power-on values with the lines as read, then the posts of R155. -/
def execPowerOnReset (pins : BitVec 5) (estop : LineState) (tension : Tension) (limits : LimitState) (s : State) :
    Result :=
  let s1 : State :=
    { State.reset with
      pending := s.pending
      lpu := { Lpu.reset with addressPins := pins, address := addressOf pins }
      tpc := { Tpc.reset with tension := tension }
      tbc := { Tbc.reset with limits := limits }
      alc := { Alc.reset with estop := estop }
      nextUid := s.nextUid
      resets := s.resets + 1 }
  .next (repost (releaseAtReset s1))

/-! ### Soft reset, block by block -/

/-- R172: receive state and forward buffers are kept; the answer queue is emptied. R159 has the address pins read here; no
command changes them after power-on, so the address read is that of the last power-on: the model's choice (log 49). -/
def Lpu.soft (l : Lpu) : Lpu :=
  Lpu.choose
    { Lpu.reset with
      addressPins := l.addressPins
      address := addressOf l.addressPins
      rxUp := l.rxUp
      rxDown := l.rxDown
      downForward := l.downForward
      upForward := l.upForward
      sending := if l.sending = some .forwarded then some .forwarded else none }

/-- R17: the take panel number is one ahead of the kept current panel number. -/
def Pin.soft (current : Byte) : Pin := { Pin.reset with takePanel := current + 1 }

/-- R55; also the chain after a change of L, with the cycle and the exchange as they are (R30, log 36). -/
def Csq.rebuilt (k : MachineConstants) (q : Csq) : Csq :=
  { q with
    ring := List.replicate k.chainLength .unknown
    base := 0
    window := []
    fireLoad := List.replicate k.chainLength 0
    seq := if k.mode = .insertOnly then .idle else .purging }

def Csq.soft (k : MachineConstants) : Csq := Csq.rebuilt k Csq.reset

/-- R74: records, Substitution Table and result are kept; a running sweep ends ABORTED. -/
def Shu.soft (h : Shu) : Shu :=
  match h.sweep with
  | none => h
  | some w => { h with sweep := none, result := some (abortedResult w) }

/-- R87. -/
def Tpc.soft (t : Tpc) : Tpc := { Tpc.reset with tension := t.tension }

/-- R122. -/
def Csu.soft (c : Csu) : Csu :=
  { Csu.reset with profiles := c.profiles, filters := c.filters, wear := c.wear }

/-- R137. -/
def Tbc.soft (b : Tbc) : Tbc :=
  { Tbc.reset with pattern := b.pattern, current := b.current, images := b.images, limits := b.limits }

/-- R155. -/
def Alc.soft (a : Alc) : Alc := { Alc.reset with map := a.map, estop := a.estop }

/-- R55, R87, R105, R122, R137: what a soft reset commands on the lines. -/
def Outputs.soft (stepInFlight : Bool) (o : Outputs) : Outputs :=
  { o with
    chainDrive := if stepInFlight then .stop else o.chainDrive
    reTaper := .stop
    gate := .stop
    cam := .halt
    spanAxis := .halt
    rotateAxis := .halt
    tableAxes := .halt
    conversions := false }

/-- R171: the soft reset; its posts follow. -/
def softReset (s : State) : State :=
  let s1 : State :=
    { pending := s.pending, lpu := s.lpu.soft, rrg := ⟨[], 0, 0⟩, pin := Pin.soft s.tbc.current, tables := s.tables,
      csq := Csq.soft s.tables.constants, shu := s.shu.soft, tpc := s.tpc.soft, hdc := Hdc.reset, csu := s.csu.soft,
      tbc := s.tbc.soft, alc := s.alc.soft, out := s.out.soft (s.csq.cycle == .step), nextUid := s.nextUid,
      resets := s.resets + 1 }
  repost (releaseAtReset s1)

end Sys2Proof.Machine
end

