-- ==== Sys2Proof/Machine/Loads.lean ====
section
/-! DEFINITION. TABLE LOAD, table by table (R18, R20, R23 to R26, R28 to R31, R106 to R108, R123, R140). -/

namespace Sys2Proof.Machine

/-- What the owner of a request does: the new state, the result code and the answer data (R162). -/
abbrev Act := State → State × ResultCode × List Byte

/-! ### The checks of R18 -/

/-- What a load of one table brings to the checks 3 to 6 of R18. -/
structure LoadCheck where
  /-- check 3: the indices lie within the table -/
  indexRight : Bool
  /-- check 4: `ok`, LOCKED or BUSY -/
  stateAllows : ResultCode
  /-- check 5: the index or place at fault -/
  fault : Option Nat
  /-- check 6 -/
  cross : Option (ResultCode × Nat)
deriving DecidableEq, Repr

/-- R164: entries written, index or place at fault. -/
def loadData (written at' : Nat) : List Byte := [byte written] ++ be16 at'

/-- R18: the checks in order, then the write. -/
def loadTable (t : TableName) (count : Byte) (body : List Byte) (k : LoadCheck) (write : State → State) : Act :=
  fun s =>
    if !loadLengthRight t count.toNat body then (s, .badLength, [])
    else if !k.indexRight then (s, .badIndex, loadData 0 0)
    else match k.stateAllows, k.fault, k.cross with
      | .ok, some i, _ => (s, .badValue, loadData 0 i)
      | .ok, none, some (c, i) => (s, c, loadData 0 i)
      | .ok, none, none => (write s, .ok, loadData count.toNat 0)
      | refused, _, _ => (s, refused, loadData 0 0)

/-- R18 check 3: the count is at least 1 and every index lies in lo..hi. -/
def indicesIn (lo hi : Nat) (first : Word16) (count : Byte) : Bool :=
  decide (1 ≤ count.toNat ∧ lo ≤ first.toNat ∧ first.toNat + count.toNat ≤ hi + 1)

/-- R166: first index 0 and count 1. -/
def wholeRecord (first : Word16) (count : Byte) : Bool := first == 0 && count == 1

/-- The index of the first entry that fails a check. -/
def firstFault {α : Type} (first : Nat) (bad : Nat → α → Bool) : List α → Option Nat
  | [] => none
  | e :: rest => if bad first e then some first else firstFault (first + 1) bad rest

/-- Entries written from a place on. -/
def writeAt {α : Type} (place : Nat) (es l : List α) : List α := l.take place ++ es ++ l.drop (place + es.length)

/-! ### Component, span and station tables -/

/-- R20: a valid entry's fields are in range, its span is loaded and, unless check skip is yes, its profile. -/
def componentInRange (t : Tables) (c : Csu) (e : ComponentEntry) : Bool :=
  !e.valid ||
    (decide (1 ≤ e.station ∧ e.station ≤ Config.stationCount ∧ e.spanCode < Config.spanCount
        ∧ e.profile < Config.profileCount ∧ e.form ≤ 1 ∧ e.checkSkip ≤ 1)
      && (t.spans.getD e.spanCode none).isSome && (e.checkSkip == 1 || (c.profiles.getD e.profile none).isSome))

/-- TABLE LOAD COMPONENT (R20, R21, R14). -/
def loadComponent (first : Word16) (count : Byte) (body : List Byte) : Act := fun s =>
  let entries := (chunks 6 count.toNat body).map componentOf
  loadTable .component count body
    { indexRight := indicesIn 1 (Config.componentCount - 1) first count, stateAllows := .ok,
      fault := firstFault first.toNat (fun _ e => !(e.map (componentInRange s.tables s.csu)).getD false) entries,
      cross := none }
    (fun t => retakeAsk (t.updTables (fun b =>
      { b with components := writeAt first.toNat (entries.filterMap id) b.components }))) s

/-- TABLE LOAD SPAN (R23). -/
def loadSpan (first : Word16) (count : Byte) (body : List Byte) : Act := fun s =>
  let entries := (chunks 2 count.toNat body).map spanOf
  loadTable .span count body
    { indexRight := indicesIn 0 (Config.spanCount - 1) first count, stateAllows := .ok,
      fault := firstFault first.toNat (fun _ v => decide (v < 50 ∨ 260 < v)) entries, cross := none }
    (·.updTables (fun b => { b with spans := writeAt first.toNat (entries.map some) b.spans })) s

/-- R24: a station map entry's ranges for the present SP and L. -/
def stationInRange (k : MachineConstants) (station : Nat) (e : StationMapEntry) : Bool :=
  decide ((e.drop = 0 ∨ (k.sensePos < e.drop ∧ e.drop < k.chainLength)) ∧ e.spare ≤ Config.stationCount
    ∧ e.spare ≠ station)

/-- R24: another fitted station has the same drop position. -/
def dropShared (map : List StationMapEntry) (e : StationMapEntry) : Bool :=
  e.drop != 0 && decide (1 < map.countP (fun f => f.drop == e.drop))

/-- TABLE LOAD STATION MAP (R24, R25, R26). -/
def loadStationMap (first : Word16) (count : Byte) (body : List Byte) : Act := fun s =>
  let entries := (chunks 2 count.toNat body).map stationMapEntryOf
  let map := writeAt (first.toNat - 1) entries s.tables.stations
  loadTable .stationMap count body
    { indexRight := indicesIn 1 Config.stationCount first count,
      stateAllows := if s.csq.seq = .idle ∧ s.csq.window = [] then .ok else .locked,
      fault := firstFault first.toNat (fun n e => !stationInRange s.tables.constants n e) entries,
      cross := (firstFault first.toNat (fun _ e => dropShared map e) entries).map (ResultCode.badValue, ·) }
    (fun t => alignSubstitutions (t.updTables ({ · with stations := map }))) s

/-! ### Profiles, filter sets and the alarm map -/

/-- R106: the ranges of a profile. -/
def profileInRange (p : Profile) : Bool :=
  decide (p.filterSet < Config.filterCount ∧ 8 ≤ p.windowLength ∧ p.windowLength ≤ 64 ∧ p.emptyLevel ≤ 32767
    ∧ p.contactLevel ≤ 32767 ∧ p.peakMax ≤ 32767 ∧ p.peakMin ≤ p.peakMax ∧ p.indexMax < p.windowLength
    ∧ p.indexMin ≤ p.indexMax ∧ p.areaMax ≤ 2097088 ∧ p.areaMin ≤ p.areaMax ∧ p.contactMin ≤ p.windowLength
    ∧ p.wearLevel ≤ 32767)

/-- R107: the wear accumulator a profile load sets. -/
def wearStart (p : Profile) : Nat := 16 * ((p.peakMin + p.peakMax) / 2)

/-- TABLE LOAD PROFILE (R106, R107). -/
def loadProfile (first : Word16) (count : Byte) (body : List Byte) : Act := fun s =>
  let entries := (chunks 22 count.toNat body).map profileOf
  let good := entries.filterMap id
  loadTable .profile count body
    { indexRight := indicesIn 0 (Config.profileCount - 1) first count, stateAllows := .ok,
      fault := firstFault first.toNat (fun _ e => !(e.map profileInRange).getD false) entries, cross := none }
    (·.updCsu (fun c => { c with
      profiles := writeAt first.toNat (good.map some) c.profiles
      wear := writeAt first.toNat (good.map wearStart) c.wear })) s

/-- TABLE LOAD FILTER SET (R108). -/
def loadFilterSet (first : Word16) (count : Byte) (body : List Byte) : Act := fun s =>
  loadTable .filterSet count body
    { indexRight := indicesIn 0 (Config.filterCount - 1) first count, stateAllows := .ok, fault := none, cross := none }
    (·.updCsu (fun c =>
      { c with filters := writeAt first.toNat ((chunks 11 count.toNat body).map filterOf) c.filters })) s

/-- R140: an alarm map entry that refuses the load; a suppress byte other than 0 and 1 is out of range (log 38). -/
def mapFault (kind : Nat) (e : Nat × Nat) : Bool :=
  decide (3 < e.1 ∨ 1 < e.2 ∨ (kind = 0 ∧ (e.1 ≠ 0 ∨ e.2 ≠ 0)) ∨ (e.1 = 0 ∧ e.2 ≠ 0))

/-- TABLE LOAD ALARM MAP (R140). -/
def loadAlarmMap (first : Word16) (count : Byte) (body : List Byte) : Act := fun s =>
  let entries := (chunks 2 count.toNat body).map mapEntryOf
  loadTable .alarmMap count body
    { indexRight := indicesIn 0 (Config.mapCount - 1) first count, stateAllows := .ok,
      fault := firstFault first.toNat mapFault entries, cross := none }
    (·.updAlc (fun a => { a with
      map := writeAt first.toNat (entries.map (fun e => ⟨(ChannelId.ofCode e.1).getD .note, e.2 == 1⟩)) a.map })) s

/-! ### The panel pattern (R123) -/

/-- R123: a pitch or bad-mark offset in range. -/
def pitchInRange (d : Int × Int) : Bool :=
  decide (-Config.travelX ≤ d.1 ∧ d.1 ≤ Config.travelX ∧ -Config.travelY ≤ d.2 ∧ d.2 ≤ Config.travelY)

/-- R123: the places 1 to 7, each in range. -/
def patternPlaces (r : RawPattern) : List Bool :=
  [decide ((r.originX : Int) ≤ Config.travelX ∧ (r.originY : Int) ≤ Config.travelY),
   decide (1 ≤ r.count ∧ r.count ≤ 16), pitchInRange r.pitchA, pitchInRange r.pitchB, pitchInRange r.pitchC,
   decide (1 ≤ r.selectors.length ∧ r.selectors.length ≤ 8) && r.selectors.all (fun b => decide (b.toNat ≤ 2)),
   decide (r.markPresent ≤ 1) && (r.markPresent == 0 || pitchInRange r.mark)]

def patternOfRaw (r : RawPattern) : Pattern :=
  { originX := r.originX, originY := r.originY, count := r.count, pitchA := r.pitchA, pitchB := r.pitchB,
    pitchC := r.pitchC, selectors := r.selectors.map (fun b => (Selector.ofCode b.toNat).getD .a),
    badMark := if r.markPresent = 1 then some r.mark else none }

/-- R123: the first image whose origin or mark position lies outside travel. -/
def imageOffTable (p : Pattern) : Option Nat :=
  (List.range' 1 p.count).find? (fun n =>
    !(inTravel (p.imageOrigin n) && (p.badMark.isNone || inTravel (p.markPosition n))))

/-- R123: no placement record and no entry is in the machine. -/
def noPlacements (s : State) : Bool :=
  placementCount s.pin.queue == 0 && s.csq.window.isEmpty && s.tpc.tape.isEmpty

/-- TABLE LOAD PANEL PATTERN (R123). -/
def loadPanelPattern (first : Word16) (count : Byte) (body : List Byte) : Act := fun s =>
  let raw := rawPatternOf body
  let p := patternOfRaw raw
  loadTable .panelPattern count body
    { indexRight := wholeRecord first count,
      stateAllows := if s.tbc.panel = .empty ∧ noPlacements s then .ok else .busy,
      fault := firstFault 1 (fun _ ok => !ok) (patternPlaces raw),
      cross := (imageOffTable p).map (ResultCode.offTable, ·) }
    (·.updTbc ({ · with pattern := some p })) s

/-! ### The machine constants and the mode (R28 to R31) -/

/-- R28: the ranges of the fourteen places. -/
def constantRanges : List (Nat × Nat) :=
  [(40, 128), (2, 7), (1, 16), (1, 7), (0, 7), (4, 48), (50, 2000), (50, 2000), (50, 1000), (100, 3000), (500, 10000),
   (5, 500), (2, 9), (0, 2)]

/-- R29: the sequencer is IDLE, the head is IDLE and the panel is EMPTY. -/
def atRest (s : State) : Bool := s.csq.seq == .idle && s.hdc.head == .idle && s.tbc.panel == .empty

/-- R29 place 14. -/
def modeMayChange (s : State) : Bool :=
  atRest s && s.pin.queue.isEmpty && s.csq.window.isEmpty && s.tpc.tape.isEmpty

/-- The place (counted from 1) would change. -/
def placeChanges (s : State) (new : List Nat) (place : Nat) : Bool :=
  new.getD (place - 1) 0 != s.tables.constants.places.getD (place - 1) 0

/-- R29: check 4 of a CONSTANTS load. -/
def constantsState (s : State) (new : List Nat) : ResultCode :=
  if placeChanges s new 14 && !modeMayChange s then .busy
  else if [1, 2, 3, 4, 5, 6, 12, 13].any (placeChanges s new) && !atRest s then .busy
  else .ok

/-- R28: the place a constant's range check names. -/
def constantsFault (new : List Nat) : Option Nat :=
  firstFault 1 (fun _ (v : Nat × (Nat × Nat)) => decide (v.1 < v.2.1 ∨ v.2.2 < v.1)) (new.zip constantRanges)

/-- R28: the check against the station map and the Tape List; the lowest-numbered station first (log 25). -/
def constantsCross (s : State) (new : List Nat) : Option (ResultCode × Nat) :=
  let l := new.getD 0 0
  let sp := new.getD 1 0
  match s.tables.stations.find? (fun e => e.drop != 0 && decide (e.drop ≤ sp ∨ l ≤ e.drop)) with
  | some e => some (.badValue, if l ≤ e.drop then 1 else 2)
  | none => if new.getD 5 0 < s.tpc.tape.length then some (.badValue, 6) else none

/-- R31: every block takes up the new mode. A chain step in flight, suspended or abandoned at the change is left as it is, to end
as in the other modes: the model's choice (log 51). -/
def takeUpMode (s : State) : State :=
  let s1 := (s.updTpc ({ · with verified := false })).updPin ({ · with ask := false })
  if s.mode = .insertOnly then s1
  else if s1.csq.ring.all (· != .unknown) then s1
  else s1.updCsq ({ · with seq := .purging })

/-- R30: the record is written and takes effect. -/
def writeConstants (k : MachineConstants) (s : State) : State :=
  let s1 := s.updTables ({ · with constants := k })
  let s2 := if k.chainLength = s.tables.constants.chainLength then s1 else s1.updCsq (Csq.rebuilt k)
  if k.mode = s.mode then s2 else takeUpMode s2

/-- TABLE LOAD CONSTANTS (R28, R29, R30). -/
def loadConstants (first : Word16) (count : Byte) (body : List Byte) : Act := fun s =>
  let new := rawConstantsOf body
  loadTable .constants count body
    { indexRight := wholeRecord first count, stateAllows := constantsState s new, fault := constantsFault new,
      cross := constantsCross s new }
    (writeConstants (MachineConstants.ofPlaces new)) s

/-- TABLE LOAD of a read-only name (R18 check 2; log 23). -/
def loadReadOnly (t : TableName) (count : Byte) (body : List Byte) : Act := fun s =>
  if loadLengthRight t count.toNat body then (s, .badValue, loadData 0 0) else (s, .badLength, [])

end Sys2Proof.Machine
end

