-- ==== Sys2Proof/Machine/Reads.lean ====
section
/-! DEFINITION. TABLE READ, table by table, the status record and RECORD READ (R19, R62, R121, R125, R166, R167, R170). -/

namespace Sys2Proof.Machine

/-! ### Table reads -/

/-- R166: the head as received. -/
def readHead (t : TableName) (first : Word16) (count : Byte) : List Byte :=
  [byte t.code] ++ be16 first.toNat ++ [count]

/-- R19, R162, R166: BAD_INDEX with the head and zero extras, BAD_LENGTH for too long an answer, else OK (log 21, 22). -/
def readTable (t : TableName) (first : Word16) (count : Byte) (indexRight : Bool) (extra entries : List Byte) : Act :=
  fun s =>
    let data := readHead t first count ++ extra ++ entries
    if !indexRight then (s, .badIndex, readHead t first count ++ extra.map (fun _ => 0))
    else if Config.answerDataBytes < data.length then (s, .badLength, [])
    else (s, .ok, data)

/-- `count` entries from index `first`. -/
def slice {α : Type} (first count : Nat) (l : List α) : List α := (l.drop first).take count

def componentBytes (e : ComponentEntry) : List Byte :=
  [flagByte e.valid, byte e.station, byte e.spanCode, byte e.profile, byte e.form, byte e.checkSkip]

/-- R19; place 0 can be read (log 34). -/
def readComponent (first : Word16) (count : Byte) : Act := fun s =>
  readTable .component first count (indicesIn 0 (Config.componentCount - 1) first count) []
    ((slice first.toNat count.toNat s.tables.components).flatMap componentBytes) s

/-- R19, R166: NOT LOADED reads as 0. -/
def readSpan (first : Word16) (count : Byte) : Act := fun s =>
  readTable .span first count (indicesIn 0 (Config.spanCount - 1) first count) []
    ((slice first.toNat count.toNat s.tables.spans).flatMap (fun v => be16 (v.getD 0))) s

def readStationMap (first : Word16) (count : Byte) : Act := fun s =>
  readTable .stationMap first count (indicesIn 1 Config.stationCount first count) []
    ((slice (first.toNat - 1) count.toNat s.tables.stations).flatMap (fun e => [byte e.drop, byte e.spare])) s

/-- R106, R166: NOT LOADED reads with W 0, the other fields 0. -/
def profileBytes : Option Profile → List Byte
  | none => List.replicate 22 0
  | some p =>
    [byte p.filterSet, byte p.windowLength] ++ be16 p.emptyLevel ++ be16 p.contactLevel ++ be16 p.peakMin
      ++ be16 p.peakMax ++ [byte p.indexMin, byte p.indexMax] ++ be24 p.areaMin ++ be24 p.areaMax
      ++ [byte p.contactMin, byte p.policy.code] ++ be16 p.wearLevel

def readProfile (first : Word16) (count : Byte) : Act := fun s =>
  readTable .profile first count (indicesIn 0 (Config.profileCount - 1) first count) []
    ((slice first.toNat count.toNat s.csu.profiles).flatMap profileBytes) s

def filterBytes (f : FilterSet) : List Byte :=
  be16s f.b0 ++ be16s f.b1 ++ be16s f.b2 ++ be16s f.a1 ++ be16s f.a2 ++ [flagByte f.bypass]

def readFilterSet (first : Word16) (count : Byte) : Act := fun s =>
  readTable .filterSet first count (indicesIn 0 (Config.filterCount - 1) first count) []
    ((slice first.toNat count.toNat s.csu.filters).flatMap filterBytes) s

def pairBytes (d : Int × Int) : List Byte := be32s d.1 ++ be32s d.2

/-- R123, R166: an absent pattern reads with N 0 and every other field 0. -/
def patternOut : Option Pattern → List Byte
  | none => List.replicate 39 0
  | some p =>
    be16s p.originX ++ be16s p.originY ++ [byte p.count] ++ pairBytes p.pitchA ++ pairBytes p.pitchB
      ++ pairBytes p.pitchC ++ [byte p.selectors.length] ++ p.selectors.map (fun x => byte x.code)
      ++ [flagByte p.badMark.isSome] ++ pairBytes (p.badMark.getD (0, 0))

def readPanelPattern (first : Word16) (count : Byte) : Act := fun s =>
  readTable .panelPattern first count (wholeRecord first count) [] (patternOut s.tbc.pattern) s

def readAlarmMap (first : Word16) (count : Byte) : Act := fun s =>
  readTable .alarmMap first count (indicesIn 0 (Config.mapCount - 1) first count) []
    ((slice first.toNat count.toNat s.alc.map).flatMap (fun e => [byte e.channel.code, flagByte e.suppress])) s

def constantsBytes (k : MachineConstants) : List Byte :=
  [byte k.chainLength, byte k.sensePos, byte k.fireLimit, byte k.missLimit, byte k.retryLimit, byte k.festoon]
    ++ be16 k.stepTimeout ++ be16 k.taperTimeout ++ be16 k.headTimeout ++ be16 k.axisTimeout ++ be16 k.moveTimeout
    ++ be16 k.followLimit ++ [byte k.repeatLimit, byte k.mode.code]

def readConstants (first : Word16) (count : Byte) : Act := fun s =>
  readTable .constants first count (wholeRecord first count) [] (constantsBytes s.tables.constants) s

def recordBytes (r : StationRecord) : List Byte :=
  [r.flags, byte r.consecutive] ++ be16 r.total ++ be32 r.fires.toNat

/-- R62. -/
def readStationRecords (first : Word16) (count : Byte) : Act := fun s =>
  readTable .stationRecords first count (indicesIn 1 Config.stationCount first count) []
    ((slice (first.toNat - 1) count.toNat s.shu.records).flatMap recordBytes) s

def substBytes (e : SubstEntry) : List Byte :=
  [byte e.failed, byte e.substitute] ++ be32 e.time.toNat ++ be16 e.served

/-- R62: first index 0..7 and count 1..8; positions beyond the last entry return nothing. -/
def readSubstitution (first : Word16) (count : Byte) : Act := fun s =>
  readTable .substitution first count (decide (first.toNat ≤ 7 ∧ 1 ≤ count.toNat ∧ count.toNat ≤ 8))
    [byte s.shu.subst.length] ((slice first.toNat count.toNat s.shu.subst).flatMap substBytes) s

/-- R121: the wear accumulator and its average. -/
def readWear (first : Word16) (count : Byte) : Act := fun s =>
  readTable .wear first count (indicesIn 0 (Config.profileCount - 1) first count) [byte s.csu.faults]
    ((slice first.toNat count.toNat s.csu.wear).flatMap (fun a => be24 a ++ be16 (a / 16))) s

/-- R121, R166: the last signature; for SENSOR and for an absent signature the features are 0. -/
def signatureBytes : Option Signature → List Byte
  | none => List.replicate 20 0
  | some g =>
    let m := g.measured.getD ⟨0, false, 0, 0, 0, 0, none⟩
    [1] ++ be16 g.step.toNat ++ [g.panel, byte g.image, byte g.profile, byte g.verdict.code, byte g.held]
      ++ be16s m.baseline ++ [flagByte m.saturated] ++ be16s m.peak ++ [byte m.peakIndex] ++ be24 m.area
      ++ [byte m.contact, flagByte m.release.isSome, byte (m.release.getD 0)]

def readLastSignature (first : Word16) (count : Byte) : Act := fun s =>
  readTable .lastSignature first count (wholeRecord first count) [] (signatureBytes s.csu.last) s

def imageBytes (r : ImageRecord) : List Byte :=
  pairBytes r.offset ++ [byte r.state.code] ++ be16 r.inserted ++ [byte r.faults]

/-- R125. -/
def imagesIndexRight (n : Nat) (first : Word16) (count : Byte) : Bool :=
  if n = 0 then decide (1 ≤ first.toNat ∧ first.toNat ≤ 16 ∧ 1 ≤ count.toNat) else indicesIn 1 n first count

def readImages (first : Word16) (count : Byte) : Act := fun s =>
  readTable .images first count (imagesIndexRight s.tbc.images.length first count)
    [byte s.tbc.images.length, s.tbc.current]
    ((slice (first.toNat - 1) count.toNat s.tbc.images).flatMap imageBytes) s

/-! ### The status record (R167) -/

def errorBytes (e : ErrorCounts) : List Byte := be16 e.crc ++ be16 e.framing ++ be16 e.length

def statusRecord (s : State) : List Byte :=
  [byte s.alc.requested.code, byte s.alc.effective.code, byte s.csq.seq.code, byte s.csq.cycle.code,
   byte s.hdc.head.code, byte s.tbc.panel.code, byte s.mode.code, flagByte s.tpc.verified, s.tbc.current,
   s.pin.takePanel, byte s.pin.queue.length, byte s.csq.window.length, byte s.tpc.tape.length,
   byte s.alc.stopCh.entries.length, byte s.alc.holdCh.entries.length, byte s.alc.warnCh.entries.length,
   byte s.alc.noteCh.entries.length]
  ++ be16 s.tpc.reel ++ be32 s.alc.ms.toNat
  ++ be32 s.hdc.inserted.toNat ++ be32 s.hdc.dumped.toNat ++ be32 s.pin.rejected.toNat ++ be32 s.hdc.lost.toNat
  ++ be32 s.hdc.aborted.toNat ++ be32 s.pin.flushed.toNat ++ be32 s.tpc.taped.toNat
  ++ be32 s.pin.taken.toNat ++ be32 s.tpc.rejectGate.toNat
  ++ errorBytes s.lpu.errUp ++ errorBytes s.lpu.errDown
  ++ be16 s.lpu.dropDown ++ be16 s.lpu.dropUp ++ be16 s.lpu.requestDrops ++ be16 s.lpu.noticeDrops
  ++ be16 s.rrg.records.length ++ be16 s.rrg.lost

/-! ### The Record Ring on the link (R169, R170) -/

/-- R169: a record's bytes. -/
def ringBytesOf (r : RingRecord) : List Byte :=
  [byte (if r.signature.isSome then 17 else r.outcome.code)] ++ be16 r.step.toNat ++ [r.panel, byte r.image]
    ++ be16 r.component ++ [byte r.station]
    ++ match r.signature with
      | none => []
      | some g =>
        [byte g.verdict.code] ++ be16s g.peak ++ [byte g.peakIndex] ++ be24 g.area ++ [byte g.contact]

/-- R170: how many of the oldest records fit in `room` bytes. -/
def recordsThatFit : Nat → List RingRecord → Nat
  | _, [] => 0
  | room, r :: rest => if r.size ≤ room then recordsThatFit (room - r.size) rest + 1 else 0

/-- R170: the answer built from the oldest record held; the records sent become in transit. -/
def readRing (s : State) : State × ResultCode × List Byte :=
  let n := recordsThatFit Config.readBytes s.rrg.records
  (s.updRrg ({ · with inTransit := n }), .ok,
   [byte n] ++ be16 (s.rrg.records.length - n) ++ be16 s.rrg.lost ++ (s.rrg.records.take n).flatMap ringBytesOf)

/-- RECORD READ NEXT: the in-transit records still held are removed first. -/
def releaseTransit (s : State) : State :=
  s.updRrg (fun g => { g with records := g.records.drop g.inTransit, inTransit := 0 })

end Sys2Proof.Machine
end

