-- ==== Sys2Proof/Machine/Requests.lean ====
section
/-! DEFINITION. Requests (R162, R164): one dispatch with its answer, and the act of every kind. -/

namespace Sys2Proof.Machine

/-! ### Dispatch and answer (R162) -/

/-- R162: the answer's place at the tail of the answer queue, taken before any notice the request causes. -/
def answerPlace (tag : Byte) : OwnFrame := ⟨mkFrame 0 0x80#8 tag [], false⟩

/-- R162, R171: the answer; the answer to a RESET taken ends in the soft reset. -/
def answerOf (l : Lpu) (kind tag : Byte) (code : ResultCode) (data : List Byte) : OwnFrame :=
  ⟨mkFrame l.sender 0x80#8 tag ([kind, byte code.code] ++ data), kind == 0x50#8 && code == .ok⟩

/-- R162: the request is dropped and counted, or its owner acts and its answer stands in the answer queue. -/
def request (kind tag : Byte) (act : Act) (s : State) : State :=
  if Config.bufferCapacity ≤ s.lpu.answers.length ∨ s.lpu.resetPending = true then
    s.updLpu (fun l => { l with requestDrops := satInc Config.sat16 l.requestDrops })
  else
    let r := act (s.updLpu (·.pushOwn (answerPlace tag)))
    r.1.updLpu (fun l =>
      { l with answers := l.answers.set s.lpu.answers.length (answerOf l kind tag r.2.1 r.2.2) })

/-! ### The acts -/

/-- PLACE (R3 to R5, R14, R165). -/
def actPlace (payload : List Byte) : Act := fun s =>
  match walkRecords payload with
  | none => (s, .badLength, [])
  | some rs =>
    if rs.length = 0 ∨ Config.placeMost < rs.length then (s, .badLength, [])
    else
      let r := placeRecords rs s
      let free := Config.queueCapacity - r.1.pin.queue.length
      (if r.2.2 = 0 then r.1 else retakeAsk r.1, r.2.1, [byte r.2.2, byte free])

/-- STATION FLAGS (R65, R66). -/
def actStationFlags (station clear set : Byte) : Act := fun s =>
  if 96 < station.toNat then (s, .badIndex, [0])
  else
    let named := stationsNamed s.tables station.toNat
    let before := fun n => (recordAt s.shu n).flags
    (named.foldl (fun t n => applyStationFlags clear set n t) s, .ok,
     if station = 0 then [byte named.length] ++ named.flatMap (fun n => [byte n, before n])
     else [before station.toNat])

/-- The levels after a RUN, HOLD or STOP request (R146). -/
def levelsOf (s : State) : List Byte := [byte s.alc.requested.code, byte s.alc.effective.code]

/-- RUN (R146). -/
def actRun : Act := fun s =>
  if runAllowed s then (takeRun s, .ok, levelsOf (takeRun s)) else (s, .alarmActive, levelsOf s)

/-- HOLD (R146). -/
def actHold : Act := fun s => (takeHold s, .ok, levelsOf (takeHold s))

/-- STOP (R146). -/
def actStop : Act := fun s => (takeStop s, .ok, levelsOf (takeStop s))

/-- HORN OFF (R149). -/
def actHornOff : Act := fun s => (s.updAlc ({ · with horn := false }), .ok, [])

/-- PANEL LOAD (R127). -/
def actPanelLoad : Act := fun s =>
  if s.tbc.panel = .empty ∧ s.tbc.pattern.isSome ∧ s.mode ≠ .sequenceOnly then
    (s.updTbc ({ · with loadWanted := true }), .ok, [])
  else (s, .busy, [])

/-- FLUSH (R16). -/
def actFlush : Act := fun s => (flushQueue s, .ok, [byte (placementCount s.pin.queue)])

/-- SWEEP (R67). -/
def actSweep (payload : List Byte) : Act := fun s =>
  match sweepFieldsOf payload with
  | none => (s, .badLength, [])
  | some f =>
    match checkSweep f s with
    | .accepted => (startSweep f s, .accepted, [])
    | refused => (s, refused, [])

/-- SWEEP RESULT (R73). -/
def actSweepResult : Act := fun s =>
  if s.shu.sweep.isSome then (s, .busy, [0, 0, 0, 0])
  else match s.shu.result with
    | none => (s, .ok, [0, 0, 0, 0])
    | some r =>
      (s, .ok, [byte r.outcome.code, byte r.tested, byte r.substitutions, byte r.failed.length] ++ r.failed.map byte)

/-- R86 step 1: an entry ends LOST. -/
def loseEntry (e : TapeEntry) (s : State) : State :=
  writeRecord (entryRecord .lost e.entry e.captured.station none)
    (withdraw e.entry.uid (s.updHdc (fun h => { h with lost := h.lost + 1 })))

/-- R86: TAPE CLEAR is refused. -/
def tapeClearBusy (s : State) : Bool :=
  !(s.hdc.head == .idle || s.hdc.head == .fault) ||
    (match s.tpc.transfer with
     | some ⟨.tape, p⟩ => p != .waitTape
     | _ => false)

/-- R86 step 4, R85: a taping operation in WAIT TAPE is commanded. -/
def commandWaiting (s : State) : State :=
  match s.tpc.transfer with
  | some ⟨.tape, .waitTape⟩ => commandTransfer .tape s
  | _ => s

/-- R86: the five steps. -/
def clearTape (s : State) : State :=
  let s1 := s.tpc.tape.foldl (fun t e => loseEntry e t) s
  let s2 := s1.updTpc (fun t =>
    { t with tape := [], verified := true, reel := if s.mode = .sequenceOnly then 0 else t.reel })
  askPin (commandWaiting (heldTest s2))

/-- TAPE CLEAR (R86). -/
def actTapeClear : Act := fun s =>
  if tapeClearBusy s then (s, .busy, [0]) else (clearTape s, .ok, [byte s.tpc.tape.length])

/-- MODE (R31, R164; log 26). -/
def actMode (value : Byte) : Act := fun s =>
  match Mode.ofCode value.toNat with
  | none => (s, .badValue, [])
  | some m =>
    if m = s.mode then (s, .ok, [])
    else if modeMayChange s then (writeConstants { s.tables.constants with mode := m } s, .ok, [])
    else (s, .busy, [])

/-- ALARM READ (R154, R164; log 21). -/
def actAlarmRead (channel : Byte) : Act := fun s =>
  match ChannelId.ofCode channel.toNat with
  | none => (s, .badIndex, [channel, 0, 0, 0, 0, 0])
  | some c =>
    let ch := s.alc.channel c
    (s, .ok, [channel, byte ch.entries.length] ++ be16 ch.overflow ++ be16 ch.suppressed
      ++ ch.entries.flatMap alarmBytes)

/-- ALARM CLEAR (R152, R153; log 20). Of two entries that hold one number, after a wrap, the oldest is meant: the model's
choice (log 48). -/
def actAlarmClear (channel : Byte) (seq : Word16) : Act := fun s =>
  match ChannelId.ofCode channel.toNat with
  | none => (s, .badIndex, [0])
  | some c =>
    match (s.alc.channel c).entries.find? (·.seq == seq) with
    | none => (s, .badIndex, [0])
    | some e =>
      if clearable s e then
        let s1 := clearEntry c seq s
        (s1, .ok, [byte (s1.alc.channel c).entries.length])
      else (s, .causePresent, [0])

/-- STATUS (R167). -/
def actStatus : Act := fun s => (s, .ok, statusRecord s)

/-- RECORD READ START (R170). -/
def actRecordReadStart : Act := fun s => readRing s

/-- RECORD READ NEXT (R170). -/
def actRecordReadNext : Act := fun s => readRing (releaseTransit s)

/-- RESET (R171). -/
def actReset : Act := fun s => (s.updLpu ({ · with resetPending := true }), .ok, [])

/-! ### The requests: one command each -/

def execPlace (tag : Byte) (payload : List Byte) (s : State) : Result := .next (request 0x10 tag (actPlace payload) s)

def execTableLoadComponent (tag : Byte) (first : Word16) (count : Byte) (body : List Byte) (s : State) : Result :=
  .next (request 0x11 tag (loadComponent first count body) s)
def execTableLoadSpan (tag : Byte) (first : Word16) (count : Byte) (body : List Byte) (s : State) : Result :=
  .next (request 0x11 tag (loadSpan first count body) s)
def execTableLoadStationMap (tag : Byte) (first : Word16) (count : Byte) (body : List Byte) (s : State) : Result :=
  .next (request 0x11 tag (loadStationMap first count body) s)
def execTableLoadProfile (tag : Byte) (first : Word16) (count : Byte) (body : List Byte) (s : State) : Result :=
  .next (request 0x11 tag (loadProfile first count body) s)
def execTableLoadFilterSet (tag : Byte) (first : Word16) (count : Byte) (body : List Byte) (s : State) : Result :=
  .next (request 0x11 tag (loadFilterSet first count body) s)
def execTableLoadPanelPattern (tag : Byte) (first : Word16) (count : Byte) (body : List Byte) (s : State) : Result :=
  .next (request 0x11 tag (loadPanelPattern first count body) s)
def execTableLoadAlarmMap (tag : Byte) (first : Word16) (count : Byte) (body : List Byte) (s : State) : Result :=
  .next (request 0x11 tag (loadAlarmMap first count body) s)
def execTableLoadConstants (tag : Byte) (first : Word16) (count : Byte) (body : List Byte) (s : State) : Result :=
  .next (request 0x11 tag (loadConstants first count body) s)

def execTableReadComponent (tag : Byte) (first : Word16) (count : Byte) (s : State) : Result :=
  .next (request 0x12 tag (readComponent first count) s)
def execTableReadSpan (tag : Byte) (first : Word16) (count : Byte) (s : State) : Result :=
  .next (request 0x12 tag (readSpan first count) s)
def execTableReadStationMap (tag : Byte) (first : Word16) (count : Byte) (s : State) : Result :=
  .next (request 0x12 tag (readStationMap first count) s)
def execTableReadProfile (tag : Byte) (first : Word16) (count : Byte) (s : State) : Result :=
  .next (request 0x12 tag (readProfile first count) s)
def execTableReadFilterSet (tag : Byte) (first : Word16) (count : Byte) (s : State) : Result :=
  .next (request 0x12 tag (readFilterSet first count) s)
def execTableReadPanelPattern (tag : Byte) (first : Word16) (count : Byte) (s : State) : Result :=
  .next (request 0x12 tag (readPanelPattern first count) s)
def execTableReadAlarmMap (tag : Byte) (first : Word16) (count : Byte) (s : State) : Result :=
  .next (request 0x12 tag (readAlarmMap first count) s)
def execTableReadConstants (tag : Byte) (first : Word16) (count : Byte) (s : State) : Result :=
  .next (request 0x12 tag (readConstants first count) s)
def execTableReadStationRecords (tag : Byte) (first : Word16) (count : Byte) (s : State) : Result :=
  .next (request 0x12 tag (readStationRecords first count) s)
def execTableReadSubstitution (tag : Byte) (first : Word16) (count : Byte) (s : State) : Result :=
  .next (request 0x12 tag (readSubstitution first count) s)
def execTableReadWear (tag : Byte) (first : Word16) (count : Byte) (s : State) : Result :=
  .next (request 0x12 tag (readWear first count) s)
def execTableReadLastSignature (tag : Byte) (first : Word16) (count : Byte) (s : State) : Result :=
  .next (request 0x12 tag (readLastSignature first count) s)
def execTableReadImages (tag : Byte) (first : Word16) (count : Byte) (s : State) : Result :=
  .next (request 0x12 tag (readImages first count) s)

def execStationFlags (tag station clearSet setSet : Byte) (s : State) : Result :=
  .next (request 0x13 tag (actStationFlags station clearSet setSet) s)
def execRun (tag : Byte) (s : State) : Result := .next (request 0x20 tag actRun s)
def execHold (tag : Byte) (s : State) : Result := .next (request 0x21 tag actHold s)
def execStop (tag : Byte) (s : State) : Result := .next (request 0x22 tag actStop s)
def execHornOff (tag : Byte) (s : State) : Result := .next (request 0x23 tag actHornOff s)
def execPanelLoad (tag : Byte) (s : State) : Result := .next (request 0x24 tag actPanelLoad s)
def execFlush (tag : Byte) (s : State) : Result := .next (request 0x25 tag actFlush s)
def execSweep (tag : Byte) (payload : List Byte) (s : State) : Result := .next (request 0x30 tag (actSweep payload) s)
def execSweepResult (tag : Byte) (s : State) : Result := .next (request 0x31 tag actSweepResult s)
def execTapeClear (tag : Byte) (s : State) : Result := .next (request 0x32 tag actTapeClear s)
def execMode (tag value : Byte) (s : State) : Result := .next (request 0x33 tag (actMode value) s)
def execAlarmRead (tag channel : Byte) (s : State) : Result := .next (request 0x40 tag (actAlarmRead channel) s)
def execAlarmClear (tag channel : Byte) (seq : Word16) (s : State) : Result :=
  .next (request 0x41 tag (actAlarmClear channel seq) s)
def execStatus (tag : Byte) (s : State) : Result := .next (request 0x42 tag actStatus s)
def execRecordReadStart (tag : Byte) (s : State) : Result := .next (request 0x43 tag actRecordReadStart s)
def execRecordReadNext (tag : Byte) (s : State) : Result := .next (request 0x44 tag actRecordReadNext s)
def execReset (tag : Byte) (s : State) : Result := .next (request 0x50 tag actReset s)

end Sys2Proof.Machine
end

