-- ==== Sys2Proof/Machine/Link.lean ====
section
/-! DEFINITION. Link Port Unit (chapter 10): bytes and frames received, receive errors, routing, dispatch of a frame's
request, ends of sends. -/

namespace Sys2Proof.Machine

/-! ### Receive errors (R157, R163) -/

/-- The three receive errors. -/
inductive ReceiveError where
  | crc
  | framing
  | length
deriving DecidableEq, Repr

def ErrorCounts.bump (e : ErrorCounts) : ReceiveError → ErrorCounts
  | .crc => { e with crc := satInc Config.sat16 e.crc }
  | .framing => { e with framing := satInc Config.sat16 e.framing }
  | .length => { e with length := satInc Config.sat16 e.length }

/-- R163: the error window at an error; the count saturates (log 29). -/
def Lpu.windowError (now : Word32) (l : Lpu) : Lpu :=
  if 1000 ≤ (now - l.windowStart).toNat then { l with windowStart := now, windowCount := 1 }
  else { l with windowCount := satInc Config.sat16 l.windowCount }

/-- The receive state of a port is set (R157). -/
def setReceive (p : Port) (r : Receive) (s : State) : State :=
  s.updLpu (fun l => match p with
    | .upstream => { l with rxUp := r }
    | .downstream => { l with rxDown := r })

def receiveOf (p : Port) (l : Lpu) : Receive :=
  match p with
  | .upstream => l.rxUp
  | .downstream => l.rxDown

def countError (p : Port) (e : ReceiveError) (l : Lpu) : Lpu :=
  match p with
  | .upstream => { l with errUp := l.errUp.bump e }
  | .downstream => { l with errDown := l.errDown.bump e }

/-- R157, R163: the frame is discarded, the receiver hunts, the error is counted; LINK ERRORS at 17. -/
def receiveError (p : Port) (e : ReceiveError) (s : State) : State :=
  let s1 := (setReceive p .hunting s).updLpu (fun l => (countError p e l).windowError s.alc.ms)
  if s1.lpu.windowCount = 17 then post .linkErrors none s1 else s1

/-! ### Dispatch of a frame's request (R162, R164) -/

/-- An act for a payload of a fixed length; any other length is BAD_LENGTH. -/
def noPayload (act : Act) : List Byte → Act
  | [] => act
  | _ => fun s => (s, .badLength, [])

/-- R164, R166: a TABLE LOAD payload. -/
def actTableLoad : List Byte → Act
  | t :: f1 :: f0 :: count :: body =>
    let first : Word16 := BitVec.ofNat 16 (u16 f1 f0)
    match TableName.ofCode t.toNat with
    | none => fun s => (s, .badValue, loadData 0 0)
    | some .component => loadComponent first count body
    | some .span => loadSpan first count body
    | some .stationMap => loadStationMap first count body
    | some .profile => loadProfile first count body
    | some .filterSet => loadFilterSet first count body
    | some .panelPattern => loadPanelPattern first count body
    | some .alarmMap => loadAlarmMap first count body
    | some .constants => loadConstants first count body
    | some other => loadReadOnly other count body
  | _ => fun s => (s, .badLength, [])

/-- R164, R166: a TABLE READ payload is the head alone; an unknown name is BAD_VALUE (log 22). -/
def actTableRead : List Byte → Act
  | [t, f1, f0, count] =>
    let first : Word16 := BitVec.ofNat 16 (u16 f1 f0)
    match TableName.ofCode t.toNat with
    | none => fun s => (s, .badValue, [t, f1, f0, count])
    | some .component => readComponent first count
    | some .span => readSpan first count
    | some .stationMap => readStationMap first count
    | some .profile => readProfile first count
    | some .filterSet => readFilterSet first count
    | some .panelPattern => readPanelPattern first count
    | some .alarmMap => readAlarmMap first count
    | some .constants => readConstants first count
    | some .stationRecords => readStationRecords first count
    | some .substitution => readSubstitution first count
    | some .wear => readWear first count
    | some .lastSignature => readLastSignature first count
    | some .images => readImages first count
  | _ => fun s => (s, .badLength, [])

/-- R164: the act of a kind on a payload. -/
def actOf (kind : Byte) (payload : List Byte) : Act :=
  match kind.toNat with
  | 0x10 => actPlace payload
  | 0x11 => actTableLoad payload
  | 0x12 => actTableRead payload
  | 0x13 =>
    match payload with
    | [station, clear, set] => actStationFlags station clear set
    | _ => fun s => (s, .badLength, [])
  | 0x20 => noPayload actRun payload
  | 0x21 => noPayload actHold payload
  | 0x22 => noPayload actStop payload
  | 0x23 => noPayload actHornOff payload
  | 0x24 => noPayload actPanelLoad payload
  | 0x25 => noPayload actFlush payload
  | 0x30 => actSweep payload
  | 0x31 => noPayload actSweepResult payload
  | 0x32 => noPayload actTapeClear payload
  | 0x33 =>
    match payload with
    | [value] => actMode value
    | _ => fun s => (s, .badLength, [])
  | 0x40 =>
    match payload with
    | [channel] => actAlarmRead channel
    | _ => fun s => (s, .badLength, [])
  | 0x41 =>
    match payload with
    | [channel, h, l] => actAlarmClear channel (BitVec.ofNat 16 (u16 h l))
    | _ => fun s => (s, .badLength, [])
  | 0x42 => noPayload actStatus payload
  | 0x43 => noPayload actRecordReadStart payload
  | 0x44 => noPayload actRecordReadNext payload
  | 0x50 => noPayload actReset payload
  | _ => fun s => (s, .badKind, [])

/-- R159: a frame taken; ANSWER and ALARM NOTICE are not dispatched. -/
def dispatchFrame (f : Frame) (s : State) : State :=
  if f.kind = 0x80#8 ∨ f.kind = 0x81#8 then s else request f.kind f.tag (actOf f.kind f.payload) s

/-- R159: routing of a frame received whole on the upstream port. A broadcast frame is forwarded before it is dispatched: the
rules give no order, it is the model's choice (log 54). -/
def routeUpstream (f : Frame) (s : State) : State :=
  if f.address = 0 then dispatchFrame f (s.updLpu (·.forwardDown f))
  else if s.lpu.address = some f.address.toNat then dispatchFrame f s
  else s.updLpu (·.forwardDown f)

/-- R159: a frame received whole on the downstream port goes upstream. -/
def routeDownstream (f : Frame) (s : State) : State := s.updLpu (·.forwardUp f)

/-- R157, R158, R159: the last byte of a frame is in: length, CRC, routing; the receiver hunts. -/
def frameReceived (p : Port) (f : Frame) (s : State) : State :=
  if Config.payloadMost < f.payload.length then receiveError p .length s
  else if Frame.crcRight f then
    match p with
    | .upstream => routeUpstream f (setReceive .upstream .hunting s)
    | .downstream => routeDownstream f (setReceive .downstream .hunting s)
  else receiveError p .crc s

/-! ### The rows of the link -/

/-- UPSTREAM_FRAME_RECEIVED (R159; log 13). -/
def execUpstreamFrameReceived (f : Frame) (s : State) : Result := .next (frameReceived .upstream f s)

/-- DOWNSTREAM_FRAME_RECEIVED (R159; log 13). -/
def execDownstreamFrameReceived (f : Frame) (s : State) : Result := .next (frameReceived .downstream f s)

/-- FRAMING_ERROR (R157). -/
def execFramingError (p : Port) (s : State) : Result := .next (receiveError p .framing s)

/-- INTER_BYTE_TIMEOUT (R157): the gap of a frame being received has run out (log 4). -/
def execInterByteTimeout (p : Port) (s : State) : Result :=
  match receiveOf p s.lpu with
  | .frame _ 0 => .next (receiveError p .framing s)
  | _ => .next s

/-- R157: the length byte of a frame with these bytes after its lead, once it is in. -/
def lengthByte (bytes : List Byte) : Option Nat := (bytes[3]?).map BitVec.toNat

/-- R157: a good byte of a frame whose bytes after the lead are `bytes`. -/
def takeByte (p : Port) (bytes : List Byte) (b : Byte) (s : State) : State :=
  let all := bytes ++ [b]
  match lengthByte all with
  | none => setReceive p (.frame all Config.gapMs) s
  | some n =>
    if Config.payloadMost < n then receiveError p .length s
    else if all.length < n + 6 then setReceive p (.frame all Config.gapMs) s
    else match frameOfBytes all with
      | some f => frameReceived p f s
      | none => setReceive p .hunting s

/-- FRAME_BYTE_RECEIVED (R157). -/
def execFrameByteReceived (p : Port) (b : Byte) (s : State) : Result :=
  match receiveOf p s.lpu with
  | .hunting =>
    if b = 0xA5#8 then .next (setReceive p (.frame [] Config.gapMs) s) else .next (receiveError p .framing s)
  | .frame bytes _ => .next (takeByte p bytes b s)

/-- LENGTH_ERROR (R157): the byte is the length byte of the frame being received and is above 240. -/
def execLengthError (p : Port) (b : Byte) (s : State) : Result :=
  match receiveOf p s.lpu with
  | .frame bytes _ =>
    if bytes.length = 3 ∧ Config.payloadMost < b.toNat then .next (receiveError p .length s) else .next s
  | .hunting => .next s

/-- The frame that the last CRC byte completes. -/
def completedFrame (bytes : List Byte) (b : Byte) : Option Frame :=
  match lengthByte bytes with
  | none => none
  | some n => if bytes.length = n + 5 then frameOfBytes (bytes ++ [b]) else none

/-- FRAME_CRC_MISMATCH (R157): the byte is the last CRC byte of the frame being received and the CRC is wrong. -/
def execFrameCrcMismatch (p : Port) (b : Byte) (s : State) : Result :=
  match receiveOf p s.lpu with
  | .frame bytes _ =>
    match completedFrame bytes b with
    | some f => if Frame.crcRight f then .next s else .next (receiveError p .crc s)
    | none => .next s
  | .hunting => .next s

/-- DOWNSTREAM_SEND_END (R160). -/
def execDownstreamSendEnd (s : State) : Result :=
  .next (s.updLpu (fun l => { l with downForward := l.downForward.tail }))

/-- R161: the frame just sent leaves its source and the next one is chosen. -/
def Lpu.sent (l : Lpu) : Lpu :=
  match l.sending with
  | none => l
  | some .forwarded => Lpu.choose { l with upForward := l.upForward.tail, sending := none }
  | some .own => Lpu.choose { l with answers := l.answers.tail, sending := none }

/-- UPSTREAM_SEND_END (R161, R171): the end of a RESET answer is the soft reset. -/
def execUpstreamSendEnd (s : State) : Result :=
  match s.lpu.sending, s.lpu.answers with
  | some .own, a :: rest =>
    if a.endsInReset then .next (softReset (s.updLpu ({ · with answers := rest, sending := none })))
    else .next (s.updLpu Lpu.sent)
  | _, _ => .next (s.updLpu Lpu.sent)

end Sys2Proof.Machine
end

