-- ==== Sys2Proof/Machine/Dispatch.lean ====
section
/-! DEFINITION. exec: one arm per command of the table, each one call of its meaning. -/

namespace Sys2Proof.Machine

/-- The effect of a command on everything but the queue. -/
def exec (i : Instr) (s : State) : Host.Outcome State Fault Refusal :=
  match i with
  | .powerOnReset pins estop tension limits => Sys2Proof.Machine.execPowerOnReset pins estop tension limits s
  | .millisecondTick => Sys2Proof.Machine.execMillisecondTick s
  | .upstreamFrameReceived f => Sys2Proof.Machine.execUpstreamFrameReceived f s
  | .downstreamFrameReceived f => Sys2Proof.Machine.execDownstreamFrameReceived f s
  | .framingError p => Sys2Proof.Machine.execFramingError p s
  | .interByteTimeout p => Sys2Proof.Machine.execInterByteTimeout p s
  | .lengthError p b => Sys2Proof.Machine.execLengthError p b s
  | .downstreamSendEnd => Sys2Proof.Machine.execDownstreamSendEnd s
  | .upstreamSendEnd => Sys2Proof.Machine.execUpstreamSendEnd s
  | .place tag payload => Sys2Proof.Machine.execPlace tag payload s
  | .tableLoadComponent tag first count body => Sys2Proof.Machine.execTableLoadComponent tag first count body s
  | .tableLoadSpan tag first count body => Sys2Proof.Machine.execTableLoadSpan tag first count body s
  | .tableLoadStationMap tag first count body => Sys2Proof.Machine.execTableLoadStationMap tag first count body s
  | .tableLoadProfile tag first count body => Sys2Proof.Machine.execTableLoadProfile tag first count body s
  | .tableLoadFilterSet tag first count body => Sys2Proof.Machine.execTableLoadFilterSet tag first count body s
  | .tableLoadPanelPattern tag first count body => Sys2Proof.Machine.execTableLoadPanelPattern tag first count body s
  | .tableLoadAlarmMap tag first count body => Sys2Proof.Machine.execTableLoadAlarmMap tag first count body s
  | .tableLoadConstants tag first count body => Sys2Proof.Machine.execTableLoadConstants tag first count body s
  | .tableReadComponent tag first count => Sys2Proof.Machine.execTableReadComponent tag first count s
  | .tableReadSpan tag first count => Sys2Proof.Machine.execTableReadSpan tag first count s
  | .tableReadStationMap tag first count => Sys2Proof.Machine.execTableReadStationMap tag first count s
  | .tableReadProfile tag first count => Sys2Proof.Machine.execTableReadProfile tag first count s
  | .tableReadFilterSet tag first count => Sys2Proof.Machine.execTableReadFilterSet tag first count s
  | .tableReadPanelPattern tag first count => Sys2Proof.Machine.execTableReadPanelPattern tag first count s
  | .tableReadAlarmMap tag first count => Sys2Proof.Machine.execTableReadAlarmMap tag first count s
  | .tableReadConstants tag first count => Sys2Proof.Machine.execTableReadConstants tag first count s
  | .tableReadStationRecords tag first count => Sys2Proof.Machine.execTableReadStationRecords tag first count s
  | .tableReadSubstitution tag first count => Sys2Proof.Machine.execTableReadSubstitution tag first count s
  | .tableReadWear tag first count => Sys2Proof.Machine.execTableReadWear tag first count s
  | .tableReadLastSignature tag first count => Sys2Proof.Machine.execTableReadLastSignature tag first count s
  | .tableReadImages tag first count => Sys2Proof.Machine.execTableReadImages tag first count s
  | .stationFlags tag station clearSet setSet => Sys2Proof.Machine.execStationFlags tag station clearSet setSet s
  | .run tag => Sys2Proof.Machine.execRun tag s
  | .hold tag => Sys2Proof.Machine.execHold tag s
  | .stop tag => Sys2Proof.Machine.execStop tag s
  | .hornOff tag => Sys2Proof.Machine.execHornOff tag s
  | .panelLoad tag => Sys2Proof.Machine.execPanelLoad tag s
  | .flush tag => Sys2Proof.Machine.execFlush tag s
  | .sweep tag payload => Sys2Proof.Machine.execSweep tag payload s
  | .sweepResult tag => Sys2Proof.Machine.execSweepResult tag s
  | .tapeClear tag => Sys2Proof.Machine.execTapeClear tag s
  | .mode tag value => Sys2Proof.Machine.execMode tag value s
  | .alarmRead tag channel => Sys2Proof.Machine.execAlarmRead tag channel s
  | .alarmClear tag channel seq => Sys2Proof.Machine.execAlarmClear tag channel seq s
  | .status tag => Sys2Proof.Machine.execStatus tag s
  | .recordReadStart tag => Sys2Proof.Machine.execRecordReadStart tag s
  | .recordReadNext tag => Sys2Proof.Machine.execRecordReadNext tag s
  | .reset tag => Sys2Proof.Machine.execReset tag s
  | .resumeButton => Sys2Proof.Machine.execResumeButton s
  | .holdButton => Sys2Proof.Machine.execHoldButton s
  | .clearButton => Sys2Proof.Machine.execClearButton s
  | .skipButton => Sys2Proof.Machine.execSkipButton s
  | .estopAsserted => Sys2Proof.Machine.execEstopAsserted s
  | .estopReleased => Sys2Proof.Machine.execEstopReleased s
  | .tensionBreak => Sys2Proof.Machine.execTensionBreak s
  | .tensionNormal => Sys2Proof.Machine.execTensionNormal s
  | .limitActive => Sys2Proof.Machine.execLimitActive s
  | .limitReleased => Sys2Proof.Machine.execLimitReleased s
  | .chainStepStart => Sys2Proof.Machine.execChainStepStart s
  | .chainIndexEvent clipPresent => Sys2Proof.Machine.execChainIndexEvent clipPresent s
  | .chainStepTimeout => Sys2Proof.Machine.execChainStepTimeout s
  | .exchangeSend => Sys2Proof.Machine.execExchangeSend s
  | .exchangeComplete replies => Sys2Proof.Machine.execExchangeComplete replies s
  | .unusableStationCascade => Sys2Proof.Machine.execUnusableStationCascade s
  | .tapedEvent => Sys2Proof.Machine.execTapedEvent s
  | .dumpEvent => Sys2Proof.Machine.execDumpEvent s
  | .taperTimeout => Sys2Proof.Machine.execTaperTimeout s
  | .taperRestart => Sys2Proof.Machine.execTaperRestart s
  | .markingNoticePin => Sys2Proof.Machine.execMarkingNoticePin s
  | .markingNoticeCsq => Sys2Proof.Machine.execMarkingNoticeCsq s
  | .markingNoticeTpc => Sys2Proof.Machine.execMarkingNoticeTpc s
  | .markingNoticeHdc => Sys2Proof.Machine.execMarkingNoticeHdc s
  | .insertCycleStart => Sys2Proof.Machine.execInsertCycleStart s
  | .dumpCycleStart => Sys2Proof.Machine.execDumpCycleStart s
  | .freeDumpCycleStart => Sys2Proof.Machine.execFreeDumpCycleStart s
  | .axisInPosition axis => Sys2Proof.Machine.execAxisInPosition axis s
  | .spanFault => Sys2Proof.Machine.execSpanFault s
  | .cutDone => Sys2Proof.Machine.execCutDone s
  | .formDone => Sys2Proof.Machine.execFormDone s
  | .driveDone => Sys2Proof.Machine.execDriveDone s
  | .clinchDone => Sys2Proof.Machine.execClinchDone s
  | .ejectDone => Sys2Proof.Machine.execEjectDone s
  | .headUp => Sys2Proof.Machine.execHeadUp s
  | .phaseTimeout => Sys2Proof.Machine.execPhaseTimeout s
  | .homingStart => Sys2Proof.Machine.execHomingStart s
  | .homeDone => Sys2Proof.Machine.execHomeDone s
  | .forceSample code => Sys2Proof.Machine.execForceSample code s
  | .silenceTimeout => Sys2Proof.Machine.execSilenceTimeout s
  | .loadStart => Sys2Proof.Machine.execLoadStart s
  | .unloadStart => Sys2Proof.Machine.execUnloadStart s
  | .clamped => Sys2Proof.Machine.execClamped s
  | .released => Sys2Proof.Machine.execReleased s
  | .handlerTimeout => Sys2Proof.Machine.execHandlerTimeout s
  | .handlerRestart => Sys2Proof.Machine.execHandlerRestart s
  | .surveyMoveStart => Sys2Proof.Machine.execSurveyMoveStart s
  | .insertMoveStart => Sys2Proof.Machine.execInsertMoveStart s
  | .inPosition markPresent => Sys2Proof.Machine.execInPosition markPresent s
  | .followingError => Sys2Proof.Machine.execFollowingError s
  | .moveTimeout => Sys2Proof.Machine.execMoveTimeout s
  | .frameByteReceived p b => Sys2Proof.Machine.execFrameByteReceived p b s
  | .frameCrcMismatch p b => Sys2Proof.Machine.execFrameCrcMismatch p b s

end Sys2Proof.Machine
end

