-- ==== Sys2Proof/WellFormed.lean ====
section
/-! DEFINITION. Which commands are well formed: what a line or the link can carry at all. exec is total on every
command, well formed or not. -/

namespace Sys2Proof

/-- R158: a frame's payload has 0..240 bytes. -/
def Frame.wellFormed (f : Frame) : Bool :=
  decide (f.payload.length ≤ Config.payloadMost)

/-- R164, R166: a table load's body fits into a payload behind its 4-byte head. -/
def bodyFits (body : List Byte) : Bool :=
  decide (body.length + 4 ≤ Config.payloadMost)

/-- A command that the part's lines can bring. -/
def Instr.wellFormed : Instr → Bool
  | .upstreamFrameReceived f => f.wellFormed
  | .downstreamFrameReceived f => f.wellFormed
  -- R157: a length error is a length byte above 240
  | .lengthError _ b => decide (Config.payloadMost < b.toNat)
  | .place _ payload => decide (payload.length ≤ Config.payloadMost)
  | .sweep _ payload => decide (payload.length ≤ Config.payloadMost)
  | .tableLoadComponent _ _ _ body => bodyFits body
  | .tableLoadSpan _ _ _ body => bodyFits body
  | .tableLoadStationMap _ _ _ body => bodyFits body
  | .tableLoadProfile _ _ _ body => bodyFits body
  | .tableLoadFilterSet _ _ _ body => bodyFits body
  | .tableLoadPanelPattern _ _ _ body => bodyFits body
  | .tableLoadAlarmMap _ _ _ body => bodyFits body
  | .tableLoadConstants _ _ _ body => bodyFits body
  -- section 3.9: a reply frame has 96 slots
  | .exchangeComplete replies => decide (replies.length = Config.stationCount)
  | .powerOnReset _ _ _ _ | .millisecondTick | .framingError _ | .interByteTimeout _ | .downstreamSendEnd
  | .upstreamSendEnd | .tableReadComponent _ _ _ | .tableReadSpan _ _ _ | .tableReadStationMap _ _ _
  | .tableReadProfile _ _ _ | .tableReadFilterSet _ _ _ | .tableReadPanelPattern _ _ _ | .tableReadAlarmMap _ _ _
  | .tableReadConstants _ _ _ | .tableReadStationRecords _ _ _ | .tableReadSubstitution _ _ _ | .tableReadWear _ _ _
  | .tableReadLastSignature _ _ _ | .tableReadImages _ _ _ | .stationFlags _ _ _ _ | .run _ | .hold _ | .stop _
  | .hornOff _ | .panelLoad _ | .flush _ | .sweepResult _ | .tapeClear _ | .mode _ _ | .alarmRead _ _
  | .alarmClear _ _ _ | .status _ | .recordReadStart _ | .recordReadNext _ | .reset _ | .resumeButton | .holdButton
  | .clearButton | .skipButton | .estopAsserted | .estopReleased | .tensionBreak | .tensionNormal | .limitActive
  | .limitReleased | .chainStepStart | .chainIndexEvent _ | .chainStepTimeout | .exchangeSend
  | .unusableStationCascade | .tapedEvent | .dumpEvent | .taperTimeout | .taperRestart | .markingNoticePin
  | .markingNoticeCsq | .markingNoticeTpc | .markingNoticeHdc | .insertCycleStart | .dumpCycleStart
  | .freeDumpCycleStart | .axisInPosition _ | .spanFault | .cutDone | .formDone | .driveDone | .clinchDone
  | .ejectDone | .headUp | .phaseTimeout | .homingStart | .homeDone | .forceSample _ | .silenceTimeout | .loadStart
  | .unloadStart | .clamped | .released | .handlerTimeout | .handlerRestart | .surveyMoveStart | .insertMoveStart
  | .inPosition _ | .followingError | .moveTimeout | .frameByteReceived _ _ | .frameCrcMismatch _ _ => true

end Sys2Proof
end

