-- ==== Sys2Proof/Safety.lean ====
section
/-! DEFINITION. What a run may be asked to keep: the invariants of the part, the steps it takes by itself that are due
(log 1), and the words in which claims about requests and frames are stated. -/

namespace Sys2Proof.Machine

/-! ### Invariants -/

/-- R147, R148: the effective level and the lamps are those the inputs give. -/
def LevelInv (s : State) : Prop := s.alc.effective = effectiveOf s.alc ∧ lampsOf s.alc = s.alc

/-- R141, R142: a channel holds at most 8 entries, each of that channel, no two of one kind and subject. -/
def ChannelInv (s : State) : Prop :=
  ∀ c, (s.alc.channel c).entries.length ≤ 8 ∧ (∀ e ∈ (s.alc.channel c).entries, e.channel = c)
    ∧ ((s.alc.channel c).entries.map (fun e => (e.kind, e.subject))).Nodup

/-- R6, R61, R160, R162, R169, R170: no buffer, queue, table or ring holds more than it can. -/
def BoundsInv (s : State) : Prop :=
  s.pin.queue.length ≤ 64 ∧ s.shu.subst.length ≤ 8 ∧ s.lpu.downForward.length ≤ 2 ∧ s.lpu.upForward.length ≤ 2
    ∧ s.lpu.answers.length ≤ 2 ∧ ringSize s.rrg.records ≤ 8192 ∧ s.rrg.inTransit ≤ s.rrg.records.length

/-- R28: the ranges of the fourteen constants, mode apart. -/
def ConstantsInRange (k : MachineConstants) : Prop :=
  40 ≤ k.chainLength ∧ k.chainLength ≤ 128 ∧ 2 ≤ k.sensePos ∧ k.sensePos ≤ 7 ∧ 1 ≤ k.fireLimit ∧ k.fireLimit ≤ 16
    ∧ 1 ≤ k.missLimit ∧ k.missLimit ≤ 7 ∧ k.retryLimit ≤ 7 ∧ 4 ≤ k.festoon ∧ k.festoon ≤ 48
    ∧ 50 ≤ k.stepTimeout ∧ k.stepTimeout ≤ 2000 ∧ 50 ≤ k.taperTimeout ∧ k.taperTimeout ≤ 2000
    ∧ 50 ≤ k.headTimeout ∧ k.headTimeout ≤ 1000 ∧ 100 ≤ k.axisTimeout ∧ k.axisTimeout ≤ 3000
    ∧ 500 ≤ k.moveTimeout ∧ k.moveTimeout ≤ 10000 ∧ 5 ≤ k.followLimit ∧ k.followLimit ≤ 500
    ∧ 2 ≤ k.repeatLimit ∧ k.repeatLimit ≤ 9

/-- R28, R32, R34: the constants are in range and the chain ring and the fire load ring have L places. -/
def ChainInv (s : State) : Prop :=
  ConstantsInRange s.tables.constants ∧ s.csq.ring.length = s.tables.constants.chainLength
    ∧ s.csq.fireLoad.length = s.tables.constants.chainLength ∧ s.csq.base < s.tables.constants.chainLength

/-- A timer that runs. -/
def Timer.isRunning : Timer → Bool
  | .running _ => true
  | _ => false

/-- R44, R80, R100 to R102, R128, R136: nothing the E-stop line halts is moving while the line is asserted. -/
def StoppedByEstop (s : State) : Prop :=
  s.csq.stepTimer.isRunning = false ∧ s.tpc.transfer.map Transfer.phase ≠ some .running
    ∧ s.tbc.handler.map HandlerOperation.phase ≠ some .running ∧ s.tbc.move = none
    ∧ (s.hdc.head = .idle ∨ s.hdc.head = .fault)

/-- The E-stop line's effect stands for as long as the line does; the other clauses say where a timer or a cycle can be. -/
def EstopInv (s : State) : Prop :=
  LevelInv s ∧ (s.csq.cycle ≠ .step → s.csq.stepTimer = .stopped)
    ∧ (s.hdc.head = .idle ∨ s.hdc.head = .fault ∨ s.hdc.head = .homing ∨ s.hdc.cycle.isSome = true)
    ∧ (s.alc.estop = .asserted → StoppedByEstop s)

/-- The entries in the window and on the tape, window first. -/
def entriesHeld (s : State) : List Nat := s.csq.window.map (·.entry.uid) ++ s.tpc.tape.map (·.entry.uid)

/-- R76, R82: an entry stands once, in the window or in the Tape List (log 5 for the mark of identity). -/
def IdentityInv (s : State) : Prop := (entriesHeld s).Nodup ∧ ∀ n ∈ entriesHeld s, n < s.nextUid

/-- R91, R95, R103: a cycle runs only in a state of a cycle, for the front entry of the Tape List or, a free dump, for
none. -/
def CycleInv (s : State) : Prop :=
  ∀ c, s.hdc.cycle = some c → s.hdc.head ≠ .idle ∧ s.hdc.head ≠ .fault ∧ s.hdc.head ≠ .homing
    ∧ (c.kind = .freeDump → c.entry = none)
    ∧ (c.kind ≠ .freeDump → ∃ e f rest, c.entry = some e ∧ s.tpc.tape = f :: rest ∧ f.entry.uid = e.entry.uid)

/-- The balance that section 10.5 gives for one status record: every entry taken is in the window, on the tape, or has one
outcome. -/
def Balance (s : State) : Prop :=
  s.pin.taken = BitVec.ofNat 32 (entriesHeld s).length + s.hdc.inserted + s.hdc.dumped + s.pin.rejected + s.hdc.lost
    + s.hdc.aborted + s.tpc.taped

/-- The balance with what carries it from step to step: entries stand once, cycles hold the front entry, the window is empty
but in RUNNING and HELD (R38, R67), and a sweep runs only in SWEEPING. -/
def AccountInv (s : State) : Prop :=
  Balance s ∧ IdentityInv s ∧ CycleInv s ∧ (s.csq.seq ≠ .running ∧ s.csq.seq ≠ .held → s.csq.window = [])
    ∧ (s.shu.sweep.isSome = true → s.csq.seq = .sweeping)

/-- R110, R118, R120: the wear accumulators, the fault count and an open window stay in their ranges. -/
def SignatureInv (s : State) : Prop :=
  ConstantsInRange s.tables.constants ∧ (∀ a ∈ s.csu.wear, a ≤ 524272) ∧ s.csu.faults ≤ 8
    ∧ ∀ w, s.csu.window = some w →
        w.samples.length < 4 + w.profile.windowLength ∧ ∀ c ∈ w.samples, c ≤ 4095

/-- R12, R128, R129, R131: the two panel numbers go together; an empty panel and one being unloaded have their boundary
taken; the handler's operation is the one of the panel state; a survey move runs in SURVEY. -/
def PanelInv (s : State) : Prop :=
  (s.pin.takePanel = s.tbc.current ∨ s.pin.takePanel = s.tbc.current + 1)
    ∧ (s.tbc.panel = .empty ∨ s.tbc.panel = .unloading → s.pin.takePanel = s.tbc.current + 1)
    ∧ (s.tbc.handler.map HandlerOperation.op = some .release → s.tbc.panel = .empty ∨ s.tbc.panel = .unloading)
    ∧ (s.tbc.handler.map HandlerOperation.op = some .load → s.tbc.panel = .loading)
    ∧ (∀ m n, s.tbc.move = some m → m.kind = .survey n → s.tbc.panel = .survey)

/-! ### Steps that are due (log 1) -/

/-- The front entry of the Tape List meets a condition. -/
def frontMeets (s : State) (p : TapeEntry → Bool) : Bool := (s.tpc.tape.head?.map p).getD false

/-- R129, R132: what every move start needs. -/
def tableMayMove (s : State) : Bool :=
  s.tbc.pattern.isSome && s.tbc.move.isNone && s.alc.estop == .released && s.hdc.clear

/-- R129: the mark of the image at the cursor is not yet under the sensor. -/
def surveyWants (s : State) : Bool :=
  match s.tbc.cursor with
  | some n => s.tbc.inPosition != .image n
  | none => false

/-- R132: there is a target and the table is not in position at it. -/
def insertWants (s : State) : Bool :=
  match insertTarget s with
  | some e => s.tbc.inPosition != .entry e.entry.uid
  | none => false

/-- R128: a SUSPENDED operation may go on, a STALLED one is due. -/
def handlerWants (s : State) : Bool :=
  match s.tbc.handler with
  | some ⟨_, .suspended⟩ => true
  | some ⟨_, .stalled⟩ => s.tbc.restartDue
  | _ => false

/-- The steps the part takes by itself, each with the conditions under which it is taken. -/
def ownSteps (s : State) : List (Bool × Instr) :=
  [(stepMayStart s, .chainStepStart),
   (s.csq.exchange == .waiting && s.alc.effective != .stop, .exchangeSend),
   (!s.csq.unusable.isEmpty, .unusableStationCascade),
   (!s.pin.marks.isEmpty, .markingNoticePin), (!s.csq.marks.isEmpty, .markingNoticeCsq),
   (!s.tpc.marks.isEmpty, .markingNoticeTpc), (!s.hdc.marks.isEmpty, .markingNoticeHdc),
   (s.tpc.transfer.map Transfer.phase == some .stalled && s.tpc.restartDue && s.alc.effective != .stop, .taperRestart),
   (frontMeets s (insertMayStart s), .insertCycleStart),
   (frontMeets s (fun e => headMayCycle s && !s.hdc.skip && e.discard), .dumpCycleStart),
   (s.mode == .insertOnly && headMayCycle s && s.hdc.skip, .freeDumpCycleStart),
   (s.hdc.head == .fault && s.alc.effective == .run, .homingStart),
   (loadMayStart s, .loadStart), (unloadMayStart s, .unloadStart),
   (tableMayMove s && s.alc.effective != .stop && s.tbc.panel == .survey && surveyWants s, .surveyMoveStart),
   (tableMayMove s && s.alc.effective == .run && s.tbc.panel == .ready && insertWants s, .insertMoveStart),
   (s.alc.effective != .stop && s.alc.estop == .released && handlerWants s, .handlerRestart),
   (s.csq.stepTimer.expired, .chainStepTimeout), (s.tpc.timer.expired, .taperTimeout),
   (s.tbc.handlerTimer.expired, .handlerTimeout), (s.tbc.moveTimer.expired, .moveTimeout),
   (s.csu.silence.expired, .silenceTimeout),
   (s.hdc.timer.expired && s.hdc.head == .setup, .spanFault),
   (s.hdc.timer.expired && s.hdc.head != .setup, .phaseTimeout)]

/-- The steps whose conditions hold now. A run in which one stands in this list for long is slower than the part. -/
def dueSteps (s : State) : List Instr := ((ownSteps s).filter Prod.fst).map Prod.snd

/-! ### What a change of level, and the E-stop line, can touch -/

/-- R147: `t` differs from `s` at most in ALC and LPU, in the sequencer state and what waits for the level (a suspended
step, a transfer action, a restart), and in the commands on the lines. -/
def LevelOnly (s t : State) : Prop :=
  t = { s with
    lpu := t.lpu
    alc := t.alc
    out := t.out
    csq := { s.csq with seq := t.csq.seq, stepTimer := t.csq.stepTimer }
    tpc := { s.tpc with transfer := t.tpc.transfer, timer := t.tpc.timer, restartDue := t.tpc.restartDue }
    tbc := { s.tbc with restartDue := t.tbc.restartDue } }

/-- R147, R148: the levels and the lamps follow from the channels, the requested level and the E-stop line. -/
def LevelsFollow (a : Alc) : Prop :=
  a.effective = (if a.stopCh.entries ≠ [] ∨ a.estop = .asserted ∨ a.requested = .stop then .stop
    else if a.holdCh.entries ≠ [] ∨ a.requested = .hold then .hold else .run)
  ∧ (a.red = true ↔ a.stopCh.entries ≠ [])
  ∧ (a.amber = true ↔ a.holdCh.entries ≠ [] ∨ a.warnCh.entries ≠ [])
  ∧ (a.green = true ↔ a.effective = .run)

/-- R44, R79, R80, R128: what a recomputation of the effective level from `s` to `t` does to what waits for it, beside
`LevelOnly`. When the level leaves STOP (the E-stop line is then RELEASED), a suspended step and a suspended transfer go on with
the time they kept, and a STALLED transfer or handler operation is due for its restart (log 17); when it becomes STOP, no
restart is due. -/
def LevelTold (s t : State) : Prop :=
  let leaves := s.alc.effective = .stop ∧ t.alc.effective ≠ .stop
  let enters := s.alc.effective ≠ .stop ∧ t.alc.effective = .stop
  let goesOn : Timer → Timer := fun x => match x with
    | .suspended n => .running n
    | y => y
  let keepsStep := t.csq.stepTimer = s.csq.stepTimer ∧ t.out.chainDrive = s.out.chainDrive
  let keepsTransfer := t.tpc.transfer = s.tpc.transfer ∧ t.tpc.timer = s.tpc.timer
    ∧ t.out = { s.out with chainDrive := t.out.chainDrive }
  (¬ leaves → keepsStep ∧ keepsTransfer)
  ∧ (leaves →
    (∀ n, s.csq.cycle = .step → s.csq.stepTimer = .suspended n →
      t.csq.stepTimer = .running n ∧ t.out.chainDrive = .goOn)
    ∧ (s.csq.cycle ≠ .step ∨ (∀ n, s.csq.stepTimer ≠ .suspended n) → keepsStep)
    ∧ (∀ op, s.tpc.transfer = some ⟨op, .suspended⟩ →
      t.tpc.transfer = some ⟨op, .running⟩ ∧ t.tpc.timer = goesOn s.tpc.timer
      ∧ t.out = { s.out with
          chainDrive := t.out.chainDrive
          reTaper := if op = .tape then .goOn else s.out.reTaper
          gate := if op = .dump then .goOn else s.out.gate })
    ∧ (s.tpc.transfer.map Transfer.phase ≠ some .suspended → keepsTransfer))
  ∧ t.tpc.restartDue = (if enters then false
      else s.tpc.restartDue || decide (leaves ∧ s.tpc.transfer.map Transfer.phase = some .stalled))
  ∧ t.tbc.restartDue = (if enters then false
      else s.tbc.restartDue || decide (leaves ∧ s.tbc.handler.map HandlerOperation.phase = some .stalled))

/-- R38, R39: what a recomputation of the effective level from `s` to `t` does to the sequencer: the test between RUNNING and
HELD at a change of the level, then the test for IDLE. -/
def SequencerTold (s t : State) : Prop :=
  let tested := if t.alc.effective = s.alc.effective then s.csq.seq
    else heldOf t.alc.effective (festoonFull s.tables s.tpc.tape) s.csq.seq
  t.csq.seq = if (tested = .running ∨ tested = .held) ∧ t.alc.requested = .stop ∧ s.csq.window = []
      ∧ s.csq.cycle = .rest then .idle else tested

/-- R155: the conditions `kinds` posted after a reset, in that order: each that the map does not suppress stands in its channel,
numbered from 0, and has its notice while the answer queue has room; nothing else stands in a channel or in the queue. -/
def RepostedAre (kinds : List AlarmKind) (t : State) : Prop :=
  let entries : List AlarmEntry := (kinds.filter (fun k => !(t.alc.mapOf k).suppress)).zipIdx.map (fun x =>
    ⟨BitVec.ofNat 16 x.2, x.1, none, (t.alc.mapOf x.1).channel, 0, 0, 0⟩)
  (∀ c, t.alc.channel c = ⟨entries.filter (fun e => e.channel == c), 0,
      (kinds.filter (fun k => (t.alc.mapOf k).suppress && (t.alc.mapOf k).channel == c)).length⟩)
  ∧ t.alc.nextSeq = BitVec.ofNat 16 entries.length
  ∧ t.alc.horn = entries.any (fun e => e.channel == .stop || e.channel == .hold)
  ∧ LevelsFollow t.alc
  ∧ t.lpu.answers = (entries.take 2).map (fun e => ⟨mkFrame t.lpu.sender 0x81 0 (alarmBytes e), false⟩)
  ∧ t.lpu.noticeDrops = entries.length - 2

/-- R44, R80, R128, R136: `t` differs from `u` in what the blocks but the head do when the E-stop line is asserted: a step, a
transfer and a handler operation may be suspended, the table move has ended, and commands stand on the lines. -/
def HaltedByEstop (u t : State) : Prop :=
  t = { u with
    csq := { u.csq with stepTimer := t.csq.stepTimer }
    tpc := { u.tpc with transfer := t.tpc.transfer, timer := t.tpc.timer }
    tbc := { u.tbc with
      handler := t.tbc.handler, handlerTimer := t.tbc.handlerTimer, move := none, moveTimer := .stopped
      inPosition := .none }
    out := t.out }

/-! ### Requests and frames -/

/-- R162: a request that arrives now is dispatched. -/
def Takes (s : State) : Prop := s.lpu.answers.length < 2 ∧ s.lpu.resetPending = false

/-- R162: the part with one more ANSWER in its queue: the request's kind and tag, a result code and the answer data. -/
def answered (kind tag : Byte) (code : ResultCode) (data : List Byte) (s : State) : State :=
  s.updLpu (·.pushOwn ⟨mkFrame s.lpu.sender 0x80#8 tag ([kind, byte code.code] ++ data), false⟩)

/-- R164: the kind code of a request row; none for the rows that are events. -/
def kindOf : Instr → Option Byte
  | .place _ _ => some 0x10
  | .tableLoadComponent _ _ _ _ | .tableLoadSpan _ _ _ _ | .tableLoadStationMap _ _ _ _ | .tableLoadProfile _ _ _ _
  | .tableLoadFilterSet _ _ _ _ | .tableLoadPanelPattern _ _ _ _ | .tableLoadAlarmMap _ _ _ _
  | .tableLoadConstants _ _ _ _ => some 0x11
  | .tableReadComponent _ _ _ | .tableReadSpan _ _ _ | .tableReadStationMap _ _ _ | .tableReadProfile _ _ _
  | .tableReadFilterSet _ _ _ | .tableReadPanelPattern _ _ _ | .tableReadAlarmMap _ _ _ | .tableReadConstants _ _ _
  | .tableReadStationRecords _ _ _ | .tableReadSubstitution _ _ _ | .tableReadWear _ _ _
  | .tableReadLastSignature _ _ _ | .tableReadImages _ _ _ => some 0x12
  | .stationFlags _ _ _ _ => some 0x13
  | .run _ => some 0x20
  | .hold _ => some 0x21
  | .stop _ => some 0x22
  | .hornOff _ => some 0x23
  | .panelLoad _ => some 0x24
  | .flush _ => some 0x25
  | .sweep _ _ => some 0x30
  | .sweepResult _ => some 0x31
  | .tapeClear _ => some 0x32
  | .mode _ _ => some 0x33
  | .alarmRead _ _ => some 0x40
  | .alarmClear _ _ _ => some 0x41
  | .status _ => some 0x42
  | .recordReadStart _ => some 0x43
  | .recordReadNext _ => some 0x44
  | .reset _ => some 0x50
  | _ => none

/-- R164, R166: the row of a TABLE LOAD payload. -/
def loadRow (tag : Byte) (first : Word16) (count : Byte) (body : List Byte) : Nat → Option Instr
  | 1 => some (.tableLoadComponent tag first count body)
  | 2 => some (.tableLoadSpan tag first count body)
  | 3 => some (.tableLoadStationMap tag first count body)
  | 4 => some (.tableLoadProfile tag first count body)
  | 5 => some (.tableLoadFilterSet tag first count body)
  | 6 => some (.tableLoadPanelPattern tag first count body)
  | 7 => some (.tableLoadAlarmMap tag first count body)
  | 8 => some (.tableLoadConstants tag first count body)
  | _ => none

/-- R164, R166: the row of a TABLE READ payload. -/
def readRow (tag : Byte) (first : Word16) (count : Byte) : Nat → Option Instr
  | 1 => some (.tableReadComponent tag first count)
  | 2 => some (.tableReadSpan tag first count)
  | 3 => some (.tableReadStationMap tag first count)
  | 4 => some (.tableReadProfile tag first count)
  | 5 => some (.tableReadFilterSet tag first count)
  | 6 => some (.tableReadPanelPattern tag first count)
  | 7 => some (.tableReadAlarmMap tag first count)
  | 8 => some (.tableReadConstants tag first count)
  | 9 => some (.tableReadStationRecords tag first count)
  | 10 => some (.tableReadSubstitution tag first count)
  | 11 => some (.tableReadWear tag first count)
  | 12 => some (.tableReadLastSignature tag first count)
  | 13 => some (.tableReadImages tag first count)
  | _ => none

/-- A row for a payload of no bytes, of one byte, of three bytes. -/
def bareRow (c : Instr) : List Byte → Option Instr
  | [] => some c
  | _ => none

def byteRow (c : Byte → Instr) : List Byte → Option Instr
  | [b] => some (c b)
  | _ => none

def tripleRow (c : Byte → Byte → Byte → Instr) : List Byte → Option Instr
  | [a, b, d] => some (c a b d)
  | _ => none

/-- R164, R166: the row of a TABLE LOAD or TABLE READ payload. -/
def loadPayloadRow (tag : Byte) : List Byte → Option Instr
  | t :: h :: l :: count :: body => loadRow tag (h ++ l) count body t.toNat
  | _ => none

def readPayloadRow (tag : Byte) : List Byte → Option Instr
  | [t, h, l, count] => readRow tag (h ++ l) count t.toNat
  | _ => none

/-- R164: the request row that a frame's kind, tag and payload spell. -/
def requestRow (kind tag : Byte) (payload : List Byte) : Option Instr :=
  if kind = 0x10 then some (.place tag payload)
  else if kind = 0x11 then loadPayloadRow tag payload
  else if kind = 0x12 then readPayloadRow tag payload
  else if kind = 0x13 then tripleRow (.stationFlags tag) payload
  else if kind = 0x20 then bareRow (.run tag) payload
  else if kind = 0x21 then bareRow (.hold tag) payload
  else if kind = 0x22 then bareRow (.stop tag) payload
  else if kind = 0x23 then bareRow (.hornOff tag) payload
  else if kind = 0x24 then bareRow (.panelLoad tag) payload
  else if kind = 0x25 then bareRow (.flush tag) payload
  else if kind = 0x30 then some (.sweep tag payload)
  else if kind = 0x31 then bareRow (.sweepResult tag) payload
  else if kind = 0x32 then bareRow (.tapeClear tag) payload
  else if kind = 0x33 then byteRow (.mode tag) payload
  else if kind = 0x40 then byteRow (.alarmRead tag) payload
  else if kind = 0x41 then tripleRow (fun c h l => .alarmClear tag c (h ++ l)) payload
  else if kind = 0x42 then bareRow (.status tag) payload
  else if kind = 0x43 then bareRow (.recordReadStart tag) payload
  else if kind = 0x44 then bareRow (.recordReadNext tag) payload
  else if kind = 0x50 then bareRow (.reset tag) payload
  else none

/-- R164: the kinds a request may have. -/
def requestKinds : List Byte :=
  [0x10, 0x11, 0x12, 0x13, 0x20, 0x21, 0x22, 0x23, 0x24, 0x25, 0x30, 0x31, 0x32, 0x33, 0x40, 0x41, 0x42, 0x43, 0x44,
   0x50]

/-- The tag of a request row. -/
def tagOf : Instr → Byte
  | .place t _ | .tableLoadComponent t _ _ _ | .tableLoadSpan t _ _ _ | .tableLoadStationMap t _ _ _
  | .tableLoadProfile t _ _ _ | .tableLoadFilterSet t _ _ _ | .tableLoadPanelPattern t _ _ _
  | .tableLoadAlarmMap t _ _ _ | .tableLoadConstants t _ _ _ | .tableReadComponent t _ _ | .tableReadSpan t _ _
  | .tableReadStationMap t _ _ | .tableReadProfile t _ _ | .tableReadFilterSet t _ _ | .tableReadPanelPattern t _ _
  | .tableReadAlarmMap t _ _ | .tableReadConstants t _ _ | .tableReadStationRecords t _ _
  | .tableReadSubstitution t _ _ | .tableReadWear t _ _ | .tableReadLastSignature t _ _ | .tableReadImages t _ _
  | .stationFlags t _ _ _ | .run t | .hold t | .stop t | .hornOff t | .panelLoad t | .flush t | .sweep t _
  | .sweepResult t | .tapeClear t | .mode t _ | .alarmRead t _ | .alarmClear t _ _ | .status t | .recordReadStart t
  | .recordReadNext t | .reset t => t
  | _ => 0

/-- R158: a frame's bytes on the line, lead first. -/
def frameBytes (f : Frame) : List Byte := 0xA5#8 :: (Frame.covered f ++ be16 f.crc.toNat)

/-- R165: a PLACEMENT record's ten bytes. -/
def placementBytes (p : Placement) : List Byte :=
  [1] ++ be16 p.step.toNat ++ be16 p.component ++ be16 p.x ++ be16 p.y
    ++ [byte (p.image + if p.orientation = .deg90 then 128 else 0)]

/-- Commands run one after another, stopping at the first that does not answer a next state. -/
def runAll : List Instr → State → Host.Outcome State Fault Refusal
  | [], s => .next s
  | c :: rest, s =>
    match exec c s with
    | .next t => runAll rest t
    | .fault r => .fault r
    | .refused r => .refused r

end Sys2Proof.Machine
end

