-- ==== Sys2Proof/Certificates/Slice0/Obligations.lean ====
section
/-! DEFINITION. The statements for the provers. A statement about one command says, in its conclusion, which next state
the command answers; `answered` (Sys2Proof/Safety.lean) is the part with one ANSWER more, and a record update
`{ s with … }` says in the same breath what the command leaves unchanged. -/

open Sys2Proof Sys2Proof.Machine

/-! ### The step -/

/-- The command at the front of the queue is run on the part with the queue's rest; on an empty queue the part idles
(the model's choice, log 2). -/
def Obligations.StepRunsFront : Prop :=
  (∀ (c : Instr) (rest : List Instr) (s : State),
    step { s with pending := c :: rest } = exec c { s with pending := rest })
  ∧ ∀ s : State, s.pending = [] → step s = .next s

/-- Every command answers a next state, with the queue as it was. -/
def Obligations.EveryCommandAnswersNext : Prop :=
  ∀ (c : Instr) (s : State), ∃ t, exec c s = .next t ∧ t.pending = s.pending

/-- A step the part takes by itself (a start, a notice, an expiry) changes nothing while its conditions do not hold. -/
def Obligations.OwnStepsNeedTheirConditions : Prop :=
  ∀ (s : State) (c : Instr), (false, c) ∈ ownSteps s → exec c s = .next s

/-! ### Resets -/

/-- The values R17, R20, R23, R24, R28, R55, R74, R87, R105, R122, R137, R139, R155 and R172 give after power-on reset,
taken with the E-stop line, the tension sensor and the limit switches at rest (log 7). -/
def Obligations.ResetStateHoldsTheSpecsValues : Prop :=
  let r := State.reset
  (r.pin.queue = [] ∧ r.pin.cursor = none ∧ r.pin.takePanel = 1 ∧ r.pin.taken = 0 ∧ r.pin.flushed = 0
    ∧ r.pin.rejected = 0 ∧ r.pin.ask = false)
  ∧ (r.tables.components = List.replicate 512 ⟨false, 1, 0, 0, 0, 0⟩ ∧ r.tables.spans = List.replicate 16 none
    ∧ r.tables.stations = List.replicate 96 ⟨0, 0⟩
    ∧ r.tables.constants.places = [128, 3, 6, 3, 2, 32, 400, 300, 250, 800, 3000, 40, 3, 0])
  ∧ (r.csq.ring = List.replicate 128 .unknown ∧ r.csq.base = 0 ∧ r.csq.window = []
    ∧ r.csq.fireLoad = List.replicate 128 0 ∧ r.csq.seq = .purging ∧ r.csq.cycle = .rest
    ∧ r.csq.stepTimer = .stopped ∧ r.csq.abandoned = false ∧ r.csq.exchange = .none)
  ∧ (r.shu.records = List.replicate 96 ⟨true, false, false, false, false, 0, 0, 0⟩ ∧ r.shu.subst = []
    ∧ r.shu.sweep = none ∧ r.shu.result = none)
  ∧ (r.tpc.transfer = none ∧ r.tpc.timer = .stopped ∧ r.tpc.tape = [] ∧ r.tpc.verified = false ∧ r.tpc.reel = 0
    ∧ r.tpc.rejectGate = 0 ∧ r.tpc.taped = 0)
  ∧ (r.hdc.head = .fault ∧ r.hdc.cycle = none ∧ r.hdc.timer = .stopped ∧ r.hdc.span = none ∧ r.hdc.rotate = none
    ∧ r.hdc.clear = false ∧ r.hdc.skip = false ∧ r.hdc.inserted = 0 ∧ r.hdc.dumped = 0 ∧ r.hdc.lost = 0
    ∧ r.hdc.aborted = 0)
  ∧ (r.csu.profiles = List.replicate 32 none ∧ r.csu.filters = List.replicate 4 ⟨8192, 0, 0, 0, 0, true⟩
    ∧ r.csu.wear = List.replicate 32 0 ∧ r.csu.window = none ∧ r.csu.silence = .stopped ∧ r.csu.faults = 0
    ∧ r.csu.last = none)
  ∧ (r.tbc.pattern = none ∧ r.tbc.panel = .empty ∧ r.tbc.current = 0 ∧ r.tbc.loadWanted = false
    ∧ r.tbc.handler = some ⟨.release, .running⟩ ∧ r.tbc.images = [] ∧ r.tbc.cursor = none ∧ r.tbc.move = none
    ∧ r.tbc.inPosition = .none)
  ∧ r.alc.map = List.replicate 11 ⟨.stop, false⟩ ++ List.replicate 3 ⟨.hold, false⟩ ++ List.replicate 4 ⟨.warn, false⟩
    ++ List.replicate 4 ⟨.note, false⟩
  ∧ (r.alc.ms = 0 ∧ (∀ c, r.alc.channel c = ⟨[], 0, 0⟩) ∧ r.alc.nextSeq = 0 ∧ r.alc.requested = .stop
    ∧ r.alc.effective = .stop ∧ r.alc.horn = false ∧ r.alc.red = false ∧ r.alc.amber = false ∧ r.alc.green = false)
  ∧ (r.lpu.rxUp = .hunting ∧ r.lpu.rxDown = .hunting ∧ r.lpu.downForward = [] ∧ r.lpu.upForward = []
    ∧ r.lpu.answers = [] ∧ r.lpu.lastServed = .own ∧ r.lpu.errUp = ⟨0, 0, 0⟩ ∧ r.lpu.errDown = ⟨0, 0, 0⟩
    ∧ r.lpu.dropDown = 0 ∧ r.lpu.dropUp = 0 ∧ r.lpu.requestDrops = 0 ∧ r.lpu.noticeDrops = 0
    ∧ r.lpu.windowStart = 0 ∧ r.lpu.windowCount = 0 ∧ r.lpu.resetPending = false)
  ∧ (r.rrg.records = [] ∧ r.rrg.inTransit = 0 ∧ r.rrg.lost = 0)

/-- POWER_ON_RESET, whatever the part did before: the machine address is the pins' value 1..30, the blocks hold their
power-on values, and each physical condition that stands, and no other, has its alarm (R155, R159, R172; the order of the
posts is left open, log 10; the release is SUSPENDED under E-stop by log 27). -/
def Obligations.PowerOnResetFromAnyState : Prop :=
  ∀ (pins : BitVec 5) (e : LineState) (b : Tension) (l : LimitState) (s : State), ∃ t,
    exec (.powerOnReset pins e b l) s = .next t
    ∧ t.pending = s.pending
    ∧ t.lpu.address = (if 1 ≤ pins.toNat ∧ pins.toNat ≤ 30 then some pins.toNat else none)
    ∧ t.lpu = { State.reset.lpu with
        addressPins := pins, address := t.lpu.address, answers := t.lpu.answers, noticeDrops := t.lpu.noticeDrops
        sending := if t.lpu.answers = [] then none else some .own }
    ∧ t.rrg = State.reset.rrg ∧ t.pin = State.reset.pin ∧ t.tables = State.reset.tables ∧ t.csq = State.reset.csq
    ∧ t.shu = State.reset.shu ∧ t.tpc = { State.reset.tpc with tension := b } ∧ t.hdc = State.reset.hdc
    ∧ t.csu = State.reset.csu
    ∧ t.tbc = { State.reset.tbc with
        limits := l
        handler := some ⟨.release, if e = .asserted then .suspended else .running⟩
        handlerTimer := if e = .asserted then .suspended 3000 else .running 3000 }
    ∧ t.alc.estop = e ∧ t.alc.requested = .stop ∧ t.alc.effective = .stop ∧ t.alc.ms = 0
    ∧ t.alc.map = State.reset.alc.map
    ∧ (∀ k, (t.alc.stopCh.entries.any (fun a => a.kind == k)) =
        ((k == .estop && e == .asserted) || (k == .tapeBreak && b == .broken) || (k == .tableLimit && l == .active)))
    ∧ t.alc.holdCh.entries = [] ∧ t.alc.warnCh.entries = [] ∧ t.alc.noteCh.entries = []
    ∧ (∃ kinds : List AlarmKind, kinds.Perm ((if e = .asserted then [.estop] else [])
        ++ (if b = .broken then [.tapeBreak] else []) ++ (if l = .active then [.tableLimit] else []))
      ∧ RepostedAre kinds t)
    ∧ t.out = State.reset.out

/-- RESET is answered OK and makes the reset pending; the end of the answer's send is the soft reset, which keeps the
loaded tables, the station records and the Substitution Table, the wear accumulators, the pattern, the image table, the
current panel number, the alarm map, the receive states and the forward buffers (R171 with R17, R55, R74, R87, R105,
R122, R137, R155, R172). The physical conditions that stand, and nothing else, are then in the channels and in the answer queue,
by the kept map (their order is left open, log 10). The model's own readings in it: the address is that of the pins as last read
(log 49), the release is SUSPENDED under E-stop (log 27), a forwarded frame may begin at once (log 14). -/
def Obligations.ResetRequestThenSoftReset : Prop :=
  (∀ (tag : Byte) (s : State), Takes s →
    exec (.reset tag) s = .next { s with lpu :=
      { (s.lpu.pushOwn ⟨mkFrame s.lpu.sender 0x80#8 tag [0x50, 0], true⟩) with resetPending := true } })
  ∧ ∀ (s : State) (a : OwnFrame) (rest : List OwnFrame),
    s.lpu.sending = some .own → s.lpu.answers = a :: rest → a.endsInReset = true →
    ∃ t, exec .upstreamSendEnd s = .next t
      ∧ t.pending = s.pending
      ∧ t.lpu = { State.reset.lpu with
          addressPins := s.lpu.addressPins
          address := if 1 ≤ s.lpu.addressPins.toNat ∧ s.lpu.addressPins.toNat ≤ 30 then some s.lpu.addressPins.toNat
            else none
          rxUp := s.lpu.rxUp, rxDown := s.lpu.rxDown, downForward := s.lpu.downForward, upForward := s.lpu.upForward
          answers := t.lpu.answers, noticeDrops := t.lpu.noticeDrops
          sending := if s.lpu.upForward ≠ [] then some .forwarded else if t.lpu.answers ≠ [] then some .own else none
          lastServed := if s.lpu.upForward ≠ [] then .forwarded else .own }
      ∧ t.rrg = ⟨[], 0, 0⟩ ∧ t.pin = { State.reset.pin with takePanel := s.tbc.current + 1 } ∧ t.tables = s.tables
      ∧ t.csq = { State.reset.csq with
          ring := List.replicate s.tables.constants.chainLength .unknown
          fireLoad := List.replicate s.tables.constants.chainLength 0
          seq := if s.mode = .insertOnly then .idle else .purging }
      ∧ (s.shu.sweep = none → t.shu = s.shu)
      ∧ (∀ w, s.shu.sweep = some w →
        let done := w.members.filter (fun m => m.resolved == w.passes)
        t.shu = { s.shu with
          sweep := none
          result := some ⟨.aborted, done.length, (done.filter SweepMember.failed).map SweepMember.station, 0⟩ })
      ∧ t.tpc = { State.reset.tpc with tension := s.tpc.tension } ∧ t.hdc = State.reset.hdc
      ∧ t.csu = { State.reset.csu with profiles := s.csu.profiles, filters := s.csu.filters, wear := s.csu.wear }
      ∧ t.tbc = { State.reset.tbc with
          pattern := s.tbc.pattern, current := s.tbc.current, images := s.tbc.images, limits := s.tbc.limits
          handler := some ⟨.release, if s.alc.estop = .asserted then .suspended else .running⟩
          handlerTimer := if s.alc.estop = .asserted then .suspended s.tables.constants.moveTimeout
            else .running s.tables.constants.moveTimeout }
      ∧ t.alc.map = s.alc.map ∧ t.alc.estop = s.alc.estop ∧ t.alc.ms = 0 ∧ t.alc.requested = .stop
      ∧ t.alc.effective = .stop
      ∧ (∃ kinds : List AlarmKind, kinds.Perm ((if s.alc.estop = .asserted then [.estop] else [])
          ++ (if s.tpc.tension = .broken then [.tapeBreak] else [])
          ++ (if s.tbc.limits = .active then [.tableLimit] else []))
        ∧ RepostedAre kinds t)
      ∧ t.out = { s.out with
          chainDrive := if s.csq.cycle = .step then .stop else s.out.chainDrive
          reTaper := .stop, gate := .stop, cam := .halt, spanAxis := .halt, rotateAxis := .halt, tableAxes := .halt
          handler := .release, conversions := false }

/-! ### The link -/

/-- R158, the whole rule: the CRC register starts at FFFFh and takes each byte most significant bit first; the CRC of the
nine bytes 31h to 39h is 29B1h; over any bytes and then their CRC, high byte first, the register ends at 0; on the line
the CRC goes last, high byte first. The part checks by comparison, computes the CRC of every frame it sends in the same
way, under its own address, with the request's tag in an answer and tag 00h in a notice, and forwards a frame as it came. -/
def Obligations.CrcOfTheLink : Prop :=
  crc16 [] = 0xFFFF
  ∧ (∀ (bytes : List Byte) (b : Byte), crc16 (bytes ++ [b]) = (List.range 8).foldl (fun (r : Word16) i =>
      if r.getMsbD 0 = b.getMsbD i then r <<< 1 else (r <<< 1) ^^^ 0x1021) (crc16 bytes))
  ∧ crc16 [0x31, 0x32, 0x33, 0x34, 0x35, 0x36, 0x37, 0x38, 0x39] = 0x29B1
  ∧ (∀ bytes : List Byte, crc16 (bytes ++ be16 (crc16 bytes).toNat) = 0)
  ∧ (∀ (address kind tag : Byte) (payload : List Byte), Frame.crcRight (mkFrame address kind tag payload) = true)
  ∧ (∀ f : Frame, frameBytes f =
      [0xA5, f.address, f.kind, f.tag, byte f.payload.length] ++ f.payload ++ be16 f.crc.toNat)
  ∧ (∀ f : Frame, Frame.crcRight f = true ↔
      f.crc = crc16 ([f.address, f.kind, f.tag, byte f.payload.length] ++ f.payload))
  ∧ ∀ l : Lpu, (l.address = none → l.sender = 0) ∧ (∀ n, l.address = some n → l.sender = byte n)
    ∧ (∀ e : AlarmEntry, l.answers.length < 2 → l.resetPending = false →
      (l.notice e).answers = l.answers ++ [⟨mkFrame l.sender 0x81 0 (alarmBytes e), false⟩])
    ∧ (∀ (kind tag : Byte) (code : ResultCode) (data : List Byte),
      (answerOf l kind tag code data).frame = mkFrame l.sender 0x80 tag ([kind, byte code.code] ++ data))
    ∧ ∀ f : Frame, (l.downForward.length < 2 → (l.forwardDown f).downForward = l.downForward ++ [f])
      ∧ (l.upForward.length < 2 → (l.forwardUp f).upForward = l.upForward ++ [f])

/-- R159, R160, R161: a frame for another machine, and every frame from downstream, joins its forward buffer, or is
dropped and counted when the buffer holds 2; an ANSWER or ALARM NOTICE addressed to the part is not dispatched, and a broadcast
one is forwarded alone. The model's
own readings in it: a frame received whole leaves the receiver HUNTING whatever it was (log 13), a send begins with the
event that brings the frame (log 14), and last served changes at every send (log 11). -/
def Obligations.ForwardedFrames : Prop :=
  ∀ (f : Frame) (s : State), Frame.wellFormed f = true → f.crc = crc16 (Frame.covered f) →
    (f.address ≠ 0 → s.lpu.address ≠ some f.address.toNat → s.lpu.downForward.length < 2 →
      exec (.upstreamFrameReceived f) s = .next { s with lpu :=
        { s.lpu with rxUp := .hunting, downForward := s.lpu.downForward ++ [f] } })
    ∧ (f.address ≠ 0 → s.lpu.address ≠ some f.address.toNat → 2 ≤ s.lpu.downForward.length →
      exec (.upstreamFrameReceived f) s = .next { s with lpu :=
        { s.lpu with rxUp := .hunting, dropDown := satInc 65535 s.lpu.dropDown } })
    ∧ (f.address ≠ 0 → s.lpu.address = some f.address.toNat → (f.kind = 0x80 ∨ f.kind = 0x81) →
      exec (.upstreamFrameReceived f) s = .next { s with lpu := { s.lpu with rxUp := .hunting } })
    ∧ (f.address = 0 → (f.kind = 0x80 ∨ f.kind = 0x81) → s.lpu.downForward.length < 2 →
      exec (.upstreamFrameReceived f) s = .next { s with lpu :=
        { s.lpu with rxUp := .hunting, downForward := s.lpu.downForward ++ [f] } })
    ∧ (f.address = 0 → (f.kind = 0x80 ∨ f.kind = 0x81) → 2 ≤ s.lpu.downForward.length →
      exec (.upstreamFrameReceived f) s = .next { s with lpu :=
        { s.lpu with rxUp := .hunting, dropDown := satInc 65535 s.lpu.dropDown } })
    ∧ (s.lpu.upForward.length < 2 → s.lpu.sending.isSome = true →
      exec (.downstreamFrameReceived f) s = .next { s with lpu :=
        { s.lpu with rxDown := .hunting, upForward := s.lpu.upForward ++ [f] } })
    ∧ (s.lpu.upForward = [] → s.lpu.sending = none → s.lpu.answers = [] →
      exec (.downstreamFrameReceived f) s = .next { s with lpu :=
        { s.lpu with rxDown := .hunting, upForward := [f], sending := some .forwarded, lastServed := .forwarded } })
    ∧ (2 ≤ s.lpu.upForward.length →
      exec (.downstreamFrameReceived f) s = .next { s with lpu :=
        { s.lpu with rxDown := .hunting, dropUp := satInc 65535 s.lpu.dropUp } })

/-- R159, R162, R164: a frame addressed to the part, or broadcast, runs the request row it spells; a broadcast is forwarded
first. While no request is taken the frame is counted as a dropped request whatever its kind and length. A kind outside R164 is
answered BAD_KIND, a length not allowed BAD_LENGTH. R18 check 2, R62, R121, R125, R166: a table
request too short for its head is BAD_LENGTH, one of an unknown table BAD_VALUE, a load of a read-only table BAD_VALUE once
its length is right. The model's own readings in it: a read payload is 4 bytes whatever its name (log 22), and the length of a
load of a read-only table goes by that table's entry size (log 23). That a broadcast is forwarded before it is dispatched is the
model's choice (log 54). -/
def Obligations.ReceivedFrameRunsItsRequest : Prop :=
  ∀ (f : Frame) (s u : State), Frame.wellFormed f = true → f.crc = crc16 (Frame.covered f) →
    f.kind ≠ 0x80 → f.kind ≠ 0x81 →
    (f.address = 0 ∧ u = { s with lpu := ({ s.lpu with rxUp := .hunting }).forwardDown f }
      ∨ f.address ≠ 0 ∧ s.lpu.address = some f.address.toNat ∧ u = { s with lpu := { s.lpu with rxUp := .hunting } }) →
    (∀ c, requestRow f.kind f.tag f.payload = some c → exec (.upstreamFrameReceived f) s = exec c u)
    ∧ (¬ Takes s → exec (.upstreamFrameReceived f) s =
      .next { u with lpu := { u.lpu with requestDrops := satInc 65535 s.lpu.requestDrops } })
    ∧ (Takes s → f.kind ∉ requestKinds →
      exec (.upstreamFrameReceived f) s = .next (answered f.kind f.tag .badKind [] u))
    ∧ (Takes s → f.kind ∈ requestKinds → f.kind ≠ 0x11 → f.kind ≠ 0x12 → requestRow f.kind f.tag f.payload = none →
      exec (.upstreamFrameReceived f) s = .next (answered f.kind f.tag .badLength [] u))
    ∧ (Takes s → f.kind = 0x11 →
      let reply := fun (c : ResultCode) (data : List Byte) =>
        exec (.upstreamFrameReceived f) s = .next (answered 0x11 f.tag c data u)
      (f.payload.length < 4 → reply .badLength [])
      ∧ ∀ (table f1 f0 count : Byte) body, f.payload = table :: f1 :: f0 :: count :: body →
        (table.toNat = 0 ∨ 13 < table.toNat → reply .badValue [0, 0, 0])
        ∧ ∀ size, (table.toNat, size) ∈ ([(9, 8), (10, 8), (11, 5), (12, 20), (13, 12)] : List (Nat × Nat)) →
          (body.length = count.toNat * size → reply .badValue [0, 0, 0])
          ∧ (body.length ≠ count.toNat * size → reply .badLength []))
    ∧ (Takes s → f.kind = 0x12 →
      let reply := fun (c : ResultCode) (data : List Byte) =>
        exec (.upstreamFrameReceived f) s = .next (answered 0x12 f.tag c data u)
      (f.payload.length ≠ 4 → reply .badLength [])
      ∧ ∀ table f1 f0 count : Byte, f.payload = [table, f1, f0, count] → table.toNat = 0 ∨ 13 < table.toNat →
        reply .badValue [table, f1, f0, count])

/-- R157, R163: what the part is after a receive error on a port: the receiver hunts, the error is counted, and the
error window restarts after 1,000 ms or counts on; LINK ERRORS is posted exactly when its count becomes 17. The model's own
readings in it: the window's count holds at 65,535 (log 29), a frame received whole is checked in every receive state
(log 13), and the inter-byte timeout is taken when the gap has run out (log 4). -/
def Obligations.ReceiveErrors : Prop :=
  ∀ (s : State) (start : Word32) (n : Nat),
    (if 1000 ≤ (s.alc.ms - s.lpu.windowStart).toNat then start = s.alc.ms ∧ n = 1
      else start = s.lpu.windowStart ∧ n = satInc 65535 s.lpu.windowCount) →
    let up := fun (e : ErrorCounts) =>
      let t := { s with lpu :=
        { s.lpu with rxUp := .hunting, errUp := e, windowStart := start, windowCount := n } }
      if n = 17 then post .linkErrors none t else t
    let down := fun (e : ErrorCounts) =>
      let t := { s with lpu :=
        { s.lpu with rxDown := .hunting, errDown := e, windowStart := start, windowCount := n } }
      if n = 17 then post .linkErrors none t else t
    let framingUp := up { s.lpu.errUp with framing := satInc 65535 s.lpu.errUp.framing }
    let framingDown := down { s.lpu.errDown with framing := satInc 65535 s.lpu.errDown.framing }
    let lengthUp := up { s.lpu.errUp with length := satInc 65535 s.lpu.errUp.length }
    let lengthDown := down { s.lpu.errDown with length := satInc 65535 s.lpu.errDown.length }
    let crcUp := up { s.lpu.errUp with crc := satInc 65535 s.lpu.errUp.crc }
    let crcDown := down { s.lpu.errDown with crc := satInc 65535 s.lpu.errDown.crc }
    exec (.framingError .upstream) s = .next framingUp ∧ exec (.framingError .downstream) s = .next framingDown
    ∧ (∀ bytes, s.lpu.rxUp = .frame bytes 0 → exec (.interByteTimeout .upstream) s = .next framingUp)
    ∧ (∀ bytes, s.lpu.rxDown = .frame bytes 0 → exec (.interByteTimeout .downstream) s = .next framingDown)
    ∧ (∀ b, s.lpu.rxUp = .hunting → b ≠ 0xA5 → exec (.frameByteReceived .upstream b) s = .next framingUp)
    ∧ (∀ b, s.lpu.rxDown = .hunting → b ≠ 0xA5 → exec (.frameByteReceived .downstream b) s = .next framingDown)
    ∧ (∀ bytes g (b : Byte), s.lpu.rxUp = .frame bytes g → bytes.length = 3 → 240 < b.toNat →
      exec (.lengthError .upstream b) s = .next lengthUp ∧ exec (.frameByteReceived .upstream b) s = .next lengthUp)
    ∧ (∀ bytes g (b : Byte), s.lpu.rxDown = .frame bytes g → bytes.length = 3 → 240 < b.toNat →
      exec (.lengthError .downstream b) s = .next lengthDown
        ∧ exec (.frameByteReceived .downstream b) s = .next lengthDown)
    ∧ (∀ (f : Frame) g (b : Byte) bytes, Frame.wellFormed f = true → f.crc ≠ crc16 (Frame.covered f) →
      Frame.covered f ++ be16 f.crc.toNat = bytes ++ [b] →
      (s.lpu.rxUp = .frame bytes g → exec (.frameCrcMismatch .upstream b) s = .next crcUp)
        ∧ (s.lpu.rxDown = .frame bytes g → exec (.frameCrcMismatch .downstream b) s = .next crcDown)
        ∧ exec (.upstreamFrameReceived f) s = .next crcUp ∧ exec (.downstreamFrameReceived f) s = .next crcDown)

/-- R157: the lead begins a frame, and every byte before the last joins it and allows 1 ms for the next. R160, R161: the
end of a send frees the frame's place; on upstream-out the next frame is one of the only source that waits, or of the source
not served last. The model's own readings in it: last served changes at every send (log 11); the next send begins with the
end of the one before, and the end of a send that is not going on changes nothing (log 14). -/
def Obligations.BytesInAndSendsEnded : Prop :=
  (∀ (s : State) (bytes : List Byte) (g : Nat) (b : Byte),
    (s.lpu.rxUp = .hunting → exec (.frameByteReceived .upstream 0xA5) s =
      .next { s with lpu := { s.lpu with rxUp := .frame [] 1 } })
    ∧ (s.lpu.rxDown = .hunting → exec (.frameByteReceived .downstream 0xA5) s =
      .next { s with lpu := { s.lpu with rxDown := .frame [] 1 } })
    ∧ ((bytes.length < 3 ∨ (bytes.length = 3 ∧ b.toNat ≤ 240)
        ∨ ∃ n : Byte, bytes[3]? = some n ∧ n.toNat ≤ 240 ∧ bytes.length + 1 < n.toNat + 6) →
      (s.lpu.rxUp = .frame bytes g → exec (.frameByteReceived .upstream b) s =
        .next { s with lpu := { s.lpu with rxUp := .frame (bytes ++ [b]) 1 } })
      ∧ (s.lpu.rxDown = .frame bytes g → exec (.frameByteReceived .downstream b) s =
        .next { s with lpu := { s.lpu with rxDown := .frame (bytes ++ [b]) 1 } })))
  ∧ ∀ (s : State),
    exec .downstreamSendEnd s = .next { s with lpu := { s.lpu with downForward := s.lpu.downForward.tail } }
    ∧ (∀ (served : Source) (up : List Frame) (own : List OwnFrame),
        s.lpu.sending = some served →
        (served = .own → ∀ a, s.lpu.answers.head? = some a → a.endsInReset = false) →
        up = (if served = .forwarded then s.lpu.upForward.tail else s.lpu.upForward) →
        own = (if served = .own then s.lpu.answers.tail else s.lpu.answers) →
        exec .upstreamSendEnd s = .next { s with lpu := { s.lpu with
          upForward := up
          answers := own
          sending := if up = [] ∧ own = [] then none else if own = [] then some .forwarded
            else if up = [] then some .own else if s.lpu.lastServed = .own then some .forwarded else some .own
          lastServed := if up = [] ∧ own = [] then s.lpu.lastServed else if own = [] then .forwarded
            else if up = [] then .own else if s.lpu.lastServed = .own then .forwarded else .own } })

/-- The bytes of a frame, taken one after another by a hunting receiver, do what the frame received whole does, whatever
its CRC (R157, R158). -/
def Obligations.BytesOfAFrameAreTheFrame : Prop :=
  ∀ (f : Frame) (s : State), Frame.wellFormed f = true →
    (s.lpu.rxUp = .hunting →
      runAll ((frameBytes f).map (.frameByteReceived .upstream)) s = exec (.upstreamFrameReceived f) s)
    ∧ (s.lpu.rxDown = .hunting →
      runAll ((frameBytes f).map (.frameByteReceived .downstream)) s = exec (.downstreamFrameReceived f) s)

/-- R162: while 2 own frames wait or a reset is pending, every request is dropped and counted, and nothing else
changes. -/
def Obligations.RequestsDropped : Prop :=
  ∀ (c : Instr) (s : State), (kindOf c).isSome = true → ¬ Takes s →
    exec c s = .next { s with lpu := { s.lpu with requestDrops := satInc 65535 s.lpu.requestDrops } }

/-- R162: every request dispatched gets exactly one ANSWER with its kind and tag, in the place after the frames already
queued; the frames behind it are ALARM NOTICEs. -/
def Obligations.OneAnswerPerRequest : Prop :=
  ∀ (c : Instr) (k : Byte) (s : State), kindOf c = some k → Takes s →
    ∃ t a rest, exec c s = .next t ∧ t.lpu.answers = s.lpu.answers ++ a :: rest
      ∧ a.frame.address = s.lpu.sender ∧ a.frame.kind = 0x80 ∧ a.frame.tag = tagOf c ∧ a.frame.payload.head? = some k
      ∧ a.frame.crc = crc16 (Frame.covered a.frame) ∧ ∀ x ∈ rest, x.frame.kind = 0x81

/-! ### Placement intake -/

/-- R5: a boundary needs room alone: it joins the queue, or is refused with FULL; the answer carries the records taken
and the free count. (`retakeAsk` is R14's take for an ask of the head that stands; TapeClearRequest says what it
does. The free count is the one before that take: log 19.) -/
def Obligations.BoundaryNeedsRoomAlone : Prop :=
  ∀ (tag : Byte) (s : State), Takes s →
    (s.pin.queue.length < 64 →
      exec (.place tag [2]) s = .next (answered 0x10 tag .ok [1, byte (63 - s.pin.queue.length)]
        (retakeAsk { s with pin := { s.pin with queue := s.pin.queue ++ [.boundary] } })))
    ∧ (64 ≤ s.pin.queue.length →
      exec (.place tag [2]) s = .next (answered 0x10 tag .full [0, 0] s))

/-- R4, R165: one placement record, sent as its ten bytes, meets the checks in order; when all pass it joins the queue; ten
bytes of any other type but a boundary's are BAD_VALUE whatever they say (an ask that stands and the free count: log 19). -/
def Obligations.PlacementChecksInOrder : Prop :=
  ∀ (tag : Byte) (p : Placement) (s : State), Takes s → s.pin.queue.length ≤ 64 →
    p.component < 65536 → p.x < 65536 → p.y < 65536 → p.image < 128 →
    let refused := fun (c : ResultCode) =>
      Host.Outcome.next (answered 0x10 tag c [0, byte (64 - s.pin.queue.length)] s)
    let targets := fun (q : Pattern) (n : Nat) =>
      0 ≤ (q.imageOrigin n).1 + p.x ∧ (q.imageOrigin n).1 + p.x ≤ 45000
        ∧ 0 ≤ (q.imageOrigin n).2 + p.y ∧ (q.imageOrigin n).2 + p.y ≤ 36000
    (∀ type : Byte, type ≠ 1 → type ≠ 2 →
      exec (.place tag (type :: (placementBytes p).tail)) s = refused .badValue)
    ∧ (componentValid s.tables p.component = false →
      exec (.place tag (placementBytes p)) s = refused .unknownComponent)
    ∧ (componentValid s.tables p.component = true → s.tbc.pattern = none →
      exec (.place tag (placementBytes p)) s = refused .busy)
    ∧ ∀ q, componentValid s.tables p.component = true → s.tbc.pattern = some q →
      (q.count < p.image → exec (.place tag (placementBytes p)) s = refused .badIndex)
      ∧ (p.image ≤ q.count → ∀ n, 1 ≤ n → n ≤ q.count → (p.image = 0 ∨ p.image = n) → ¬ targets q n →
        exec (.place tag (placementBytes p)) s = refused .offTable)
      ∧ (p.image ≤ q.count → (∀ n, 1 ≤ n → n ≤ q.count → (p.image = 0 ∨ p.image = n) → targets q n) →
        (s.pin.queue.length = 64 → exec (.place tag (placementBytes p)) s = refused .full)
        ∧ (s.pin.queue.length < 64 →
          exec (.place tag (placementBytes p)) s = .next (answered 0x10 tag .ok [1, byte (63 - s.pin.queue.length)]
            (retakeAsk { s with pin := { s.pin with queue := s.pin.queue ++ [.placement p] } }))))

/-- R3: a frame that does not walk into 1 to 24 records is refused whole; otherwise its records join the queue up to the
first refused one, which ends the frame with its code (an ask that stands and the free count: log 19). R4 check 1: a record of
a type other than a placement's and a boundary's is BAD_VALUE. -/
def Obligations.PlaceTakesUpToTheFirstRefused : Prop :=
  (∀ (s : State) (type : Byte) (p : Placement), type ≠ 1 → checkRecord s (.tenByte type p) = .badValue)
  ∧ ∀ (tag : Byte) (payload : List Byte) (s : State), Takes s →
    (walkRecords payload = none → exec (.place tag payload) s = .next (answered 0x10 tag .badLength [] s))
    ∧ ∀ rs, walkRecords payload = some rs →
      (rs.length = 0 ∨ 24 < rs.length → exec (.place tag payload) s = .next (answered 0x10 tag .badLength [] s))
      ∧ (1 ≤ rs.length → rs.length ≤ 24 → ∃ k code, k ≤ rs.length
        ∧ (let upTo := fun n : Nat =>
            { s with pin := { s.pin with queue := s.pin.queue ++ (rs.take n).map StreamRecord.queued } }
          (∀ i r, i < k → rs[i]? = some r → checkRecord (upTo i) r = .ok)
          ∧ (k = rs.length → code = .ok)
          ∧ (∀ r, rs[k]? = some r → checkRecord (upTo k) r = code ∧ code ≠ .ok)
          ∧ exec (.place tag payload) s = .next (answered 0x10 tag code
              [byte k, byte (64 - (upTo k).pin.queue.length)] (if k = 0 then s else retakeAsk (upTo k)))))

/-- R16, the whole rule: FLUSH empties the queue, counts and records every placement record in it with outcome FLUSHED and
station 0, and clears the cursor and the ask; boundaries are neither counted nor recorded; FLUSHED stands in bytes 43 to 46 of
the status record. The rule gives the records no order: they are written in some order here; the model's own, log 43, is
stated in StatusRecordsAndPanelLoad. -/
def Obligations.FlushEmptiesTheQueue : Prop :=
  (∀ (tag : Byte) (s : State), Takes s →
    let gone := s.pin.queue.filterMap (fun r => match r with
      | .placement p => some p
      | .boundary => none)
    ∃ order : List Placement, order.Perm gone ∧ exec (.flush tag) s = .next (answered 0x25 tag .ok [byte gone.length]
      { s with
        pin := { s.pin with
          queue := [], cursor := none, ask := false, flushed := s.pin.flushed + BitVec.ofNat 32 gone.length }
        rrg := order.foldl (fun g p => g.write ⟨.flushed, p.step, s.pin.takePanel, p.image, p.component, 0, none⟩)
          s.rrg }))
  ∧ ∀ s : State, ((statusRecord s).drop 43).take 4 = be32 s.pin.flushed.toNat

/-- R7 to R13, R15: what a take does at an empty queue, at a boundary, at a record of one image and at a record of all
images, whose component is valid or no longer valid, and whose images are known bad or not; and every take accounts for every
entry it makes: it is counted once, and is either handed out (at most one) or counted and recorded as REJECTED. The entry
numbers (uid, nextUid) are the model's own (log 5). -/
def Obligations.TakesFromTheQueue : Prop :=
  (∀ (s : State),
    (s.pin.queue = [] → take s = (s, none))
    ∧ (∀ rest, s.pin.queue = .boundary :: rest →
      (s.mode = .sequenceOnly → take s = ({ s with pin := { s.pin with queue := rest } }, none))
      ∧ (s.mode ≠ .sequenceOnly → s.pin.takePanel = s.tbc.current →
        take s = ({ s with pin := { s.pin with queue := rest, takePanel := s.pin.takePanel + 1 } }, none))
      ∧ (s.mode ≠ .sequenceOnly → s.pin.takePanel ≠ s.tbc.current → take s = (s, none)))
    ∧ ∀ p rest, s.pin.queue = .placement p :: rest → componentValid s.tables p.component = true → 1 ≤ p.image →
      knownBad s.mode s.tbc s.pin.takePanel p.image = false →
      take s = ({ s with
        nextUid := s.nextUid + 1
        pin := { s.pin with queue := rest, taken := s.pin.taken + 1 } },
        some ⟨s.nextUid, p.step, p.component, p.x, p.y, p.orientation, p.image, s.pin.takePanel⟩))
  ∧ (∀ (s : State) p rest, s.pin.queue = .placement p :: rest →
    let goesOn := fun (cursor : Option Nat) (rejected : List Nat) => { s with
      pin := { s.pin with
        queue := rest, cursor := cursor
        taken := s.pin.taken + BitVec.ofNat 32 rejected.length
        rejected := s.pin.rejected + BitVec.ofNat 32 rejected.length }
      rrg := rejected.foldl
        (fun g n => g.write ⟨.rejected, p.step, s.pin.takePanel, n, p.component, 0, none⟩) s.rrg }
    let handsOut := fun (n : Nat) (queue : List QueueRecord) (cursor : Option Nat) => ({ s with
        nextUid := s.nextUid + 1
        pin := { s.pin with queue := queue, cursor := cursor, taken := s.pin.taken + 1 } },
      some (Entry.mk s.nextUid p.step p.component p.x p.y p.orientation n s.pin.takePanel))
    let first := s.pin.cursor.getD 1
    let images := List.range' first (imageCount s.tbc + 1 - first)
    let left := images.filter (fun n => !knownBad s.mode s.tbc s.pin.takePanel n)
    (componentValid s.tables p.component = false → take s =
      take (goesOn none (if p.image = 0 then images else [p.image])))
    ∧ (componentValid s.tables p.component = true → 1 ≤ p.image →
      knownBad s.mode s.tbc s.pin.takePanel p.image = true → take s = take (goesOn s.pin.cursor [p.image]))
    ∧ (componentValid s.tables p.component = true → p.image = 0 →
      (left = [] → take s = take (goesOn none []))
      ∧ (∀ n, left = [n] → take s = handsOut n rest none)
      ∧ ∀ n m more, left = n :: m :: more → take s = handsOut n s.pin.queue (some (n + 1))))
  ∧ ∀ (s : State), ∃ (t : State) (e : Option Entry) (n : Nat), take s = (t, e)
    ∧ t.pin.taken = s.pin.taken + BitVec.ofNat 32 (n + e.toList.length)
    ∧ t.pin.rejected = s.pin.rejected + BitVec.ofNat 32 n
    ∧ t.nextUid = s.nextUid + e.toList.length
    ∧ t.pin.queue.length ≤ s.pin.queue.length
    ∧ (∃ rs : List RingRecord, rs.length = n ∧ (∀ r ∈ rs, r.outcome = .rejected ∧ r.station = 0 ∧ r.signature = none)
        ∧ t.rrg = rs.foldl Rrg.write s.rrg)
    ∧ t = { s with pin := t.pin, rrg := t.rrg, nextUid := t.nextUid }

/-! ### Loaded tables -/

/-- R18 checks 1 and 3, R166: a load whose payload does not match the table and the count is answered BAD_LENGTH, one
whose count is 0 or whose indices do not lie in the table BAD_INDEX; nothing is written. -/
def Obligations.LoadsRefuseWrongForm : Prop :=
  ∀ (tag : Byte) (first : Word16) (count : Byte) (body : List Byte) (s : State), Takes s →
    let reply := fun (c : Instr) (lengthRight inTable : Prop) =>
      (¬ lengthRight → exec c s = .next (answered 0x11 tag .badLength [] s))
      ∧ (lengthRight → ¬ inTable → exec c s = .next (answered 0x11 tag .badIndex [0, 0, 0] s))
    let within := fun (lo hi : Nat) => 1 ≤ count.toNat ∧ lo ≤ first.toNat ∧ first.toNat + count.toNat ≤ hi + 1
    let whole := first = 0 ∧ count = 1
    reply (.tableLoadComponent tag first count body) (body.length = count.toNat * 6) (within 1 511)
    ∧ reply (.tableLoadSpan tag first count body) (body.length = count.toNat * 2) (within 0 15)
    ∧ reply (.tableLoadStationMap tag first count body) (body.length = count.toNat * 2) (within 1 96)
    ∧ reply (.tableLoadProfile tag first count body) (body.length = count.toNat * 22) (within 0 31)
    ∧ reply (.tableLoadFilterSet tag first count body) (body.length = count.toNat * 11) (within 0 3)
    ∧ reply (.tableLoadAlarmMap tag first count body) (body.length = count.toNat * 2) (within 0 21)
    ∧ reply (.tableLoadConstants tag first count body) (body.length = count.toNat * 20) whole
    ∧ reply (.tableLoadPanelPattern tag first count body)
        (∃ parts : List (List Byte), parts.length = count.toNat ∧ body = parts.flatten
          ∧ ∀ p ∈ parts, ∃ k, p[29]? = some k ∧ p.length = 39 + k.toNat) whole

/-- R18, R20, R23, R166: the bytes of valid SPAN and COMPONENT entries load those entries, at any time; the first entry at fault
refuses the whole load with its index: a span out of range; a valid component with a field out of range, a span NOT LOADED
or, its check not skipped, a profile NOT LOADED; and a valid byte, or in a valid entry a check skip byte, above 1 (log 38).
(`retakeAsk`: R14's take for a standing ask, at a component load.) -/
def Obligations.SpanAndComponentLoads : Prop :=
  ∀ (tag : Byte) (first : Word16) (s : State), Takes s →
    let atFault := fun (i : Nat) => Host.Outcome.next (answered 0x11 tag .badValue ([0] ++ be16 i) s)
    let right := fun (e : ComponentEntry) => e.valid = true → 1 ≤ e.station ∧ e.station ≤ 96 ∧ e.spanCode ≤ 15
      ∧ e.profile ≤ 31 ∧ e.form ≤ 1 ∧ e.checkSkip ≤ 1 ∧ (∃ v, s.tables.spans[e.spanCode]? = some (some v))
      ∧ (e.checkSkip = 0 → ∃ p, s.csu.profiles[e.profile]? = some (some p))
    let fits := fun (e : ComponentEntry) =>
      e.station < 256 ∧ e.spanCode < 256 ∧ e.profile < 256 ∧ e.form < 256 ∧ e.checkSkip < 256
    (∀ vals : List Nat, 1 ≤ vals.length → first.toNat + vals.length ≤ 16 → (∀ v ∈ vals, v < 65536) →
      ((∀ v ∈ vals, 50 ≤ v ∧ v ≤ 260) →
        exec (.tableLoadSpan tag first (byte vals.length) (vals.flatMap be16)) s =
          .next (answered 0x11 tag .ok [byte vals.length, 0, 0] { s with tables := { s.tables with
            spans := s.tables.spans.take first.toNat ++ vals.map some
              ++ s.tables.spans.drop (first.toNat + vals.length) } }))
      ∧ ∀ i v, vals[i]? = some v → (v < 50 ∨ 260 < v) → (∀ j w, j < i → vals[j]? = some w → 50 ≤ w ∧ w ≤ 260) →
        exec (.tableLoadSpan tag first (byte vals.length) (vals.flatMap be16)) s = atFault (first.toNat + i))
    ∧ (∀ es : List ComponentEntry, 1 ≤ es.length → es.length ≤ 39 → 1 ≤ first.toNat →
      first.toNat + es.length ≤ 512 → (∀ e ∈ es, fits e ∧ right e) →
      exec (.tableLoadComponent tag first (byte es.length) (es.flatMap componentBytes)) s =
        .next (answered 0x11 tag .ok [byte es.length, 0, 0] (retakeAsk { s with tables := { s.tables with
          components := s.tables.components.take first.toNat ++ es
            ++ s.tables.components.drop (first.toNat + es.length) } })))
    ∧ ∀ (es : List ComponentEntry) (row tail : List Byte) (count : Byte),
      let body := es.flatMap componentBytes ++ row ++ tail
      body.length = count.toNat * 6 → row.length = 6 → 1 ≤ first.toNat → first.toNat + count.toNat ≤ 512 →
      (∀ e ∈ es, fits e ∧ right e) →
      ((∃ e, row = componentBytes e ∧ fits e ∧ ¬ right e) ∨ (∃ v, row[0]? = some v ∧ 1 < v.toNat)) →
      exec (.tableLoadComponent tag first count body) s = atFault (first.toNat + es.length)

/-- R18, R106, R107, R108, R140, R166: the bytes of PROFILE, FILTER SET and ALARM MAP entries in range load those entries, in
every state; a profile load sets its wear accumulator to 16 times the middle of the peak range. The first entry at fault
refuses the whole load with its index: a profile field out of range or a byte that names no policy; a map entry of no
channel, of ESTOP not in STOP or suppressed, of STOP suppressed, or with a suppress byte above 1 (log 38). -/
def Obligations.ProfileFilterAndMapLoads : Prop :=
  ∀ (tag : Byte) (first : Word16) (s : State), Takes s →
    let atFault := fun (i : Nat) => Host.Outcome.next (answered 0x11 tag .badValue ([0] ++ be16 i) s)
    let right := fun (p : Profile) => p.filterSet ≤ 3 ∧ 8 ≤ p.windowLength ∧ p.windowLength ≤ 64
      ∧ p.emptyLevel ≤ 32767 ∧ p.contactLevel ≤ 32767 ∧ p.peakMin ≤ p.peakMax ∧ p.peakMax ≤ 32767
      ∧ p.indexMin ≤ p.indexMax ∧ p.indexMax < p.windowLength ∧ p.areaMin ≤ p.areaMax ∧ p.areaMax ≤ 2097088
      ∧ p.contactMin ≤ p.windowLength ∧ p.wearLevel ≤ 32767
    let fits := fun (p : Profile) => p.filterSet < 256 ∧ p.windowLength < 256 ∧ p.emptyLevel < 65536
      ∧ p.contactLevel < 65536 ∧ p.peakMin < 65536 ∧ p.peakMax < 65536 ∧ p.indexMin < 256 ∧ p.indexMax < 256
      ∧ p.areaMin < 16777216 ∧ p.areaMax < 16777216 ∧ p.contactMin < 256 ∧ p.wearLevel < 65536
    let bytes := fun (p : Profile) => profileBytes (some p)
    let wrong := fun (kind : Nat) (m : Byte × Byte) => 3 < m.1.toNat ∨ 1 < m.2.toNat
      ∨ (kind = 0 ∧ ¬ (m.1 = 0 ∧ m.2 = 0)) ∨ (m.1 = 0 ∧ m.2 = 1)
    (∀ ps : List Profile, 1 ≤ ps.length → ps.length ≤ 10 → first.toNat + ps.length ≤ 32 → (∀ p ∈ ps, right p) →
      exec (.tableLoadProfile tag first (byte ps.length) (ps.flatMap bytes)) s =
        .next (answered 0x11 tag .ok [byte ps.length, 0, 0] { s with csu := { s.csu with
          profiles := s.csu.profiles.take first.toNat ++ ps.map some
            ++ s.csu.profiles.drop (first.toNat + ps.length)
          wear := s.csu.wear.take first.toNat ++ ps.map (fun p => 16 * ((p.peakMin + p.peakMax) / 2))
            ++ s.csu.wear.drop (first.toNat + ps.length) } }))
    ∧ (∀ (ps : List Profile) (row tail : List Byte) (count : Byte),
      let body := ps.flatMap bytes ++ row ++ tail
      body.length = count.toNat * 22 → row.length = 22 → first.toNat + count.toNat ≤ 32 → (∀ p ∈ ps, right p) →
      ((∃ p, row = bytes p ∧ fits p ∧ ¬ right p) ∨ (∃ b, row[19]? = some b ∧ 2 < b.toNat)) →
      exec (.tableLoadProfile tag first count body) s = atFault (first.toNat + ps.length))
    ∧ (∀ fs : List FilterSet, 1 ≤ fs.length → first.toNat + fs.length ≤ 4 →
      (∀ f ∈ fs, ∀ v ∈ [f.b0, f.b1, f.b2, f.a1, f.a2], -32768 ≤ v ∧ v ≤ 32767) →
      exec (.tableLoadFilterSet tag first (byte fs.length) (fs.flatMap filterBytes)) s =
        .next (answered 0x11 tag .ok [byte fs.length, 0, 0] { s with csu := { s.csu with
          filters := s.csu.filters.take first.toNat ++ fs ++ s.csu.filters.drop (first.toNat + fs.length) } }))
    ∧ (∀ ms : List MapEntry, 1 ≤ ms.length → first.toNat + ms.length ≤ 22 →
      (∀ m ∈ ms, m.channel = .stop → m.suppress = false) →
      (first = 0 → ms.head? = some ⟨.stop, false⟩) →
      exec (.tableLoadAlarmMap tag first (byte ms.length)
          (ms.flatMap (fun m => [byte m.channel.code, flagByte m.suppress]))) s =
        .next (answered 0x11 tag .ok [byte ms.length, 0, 0] { s with alc := { s.alc with
          map := s.alc.map.take first.toNat ++ ms ++ s.alc.map.drop (first.toNat + ms.length) } }))
    ∧ ∀ (before after : List (Byte × Byte)) (m : Byte × Byte),
      let rows := before ++ m :: after
      first.toNat + rows.length ≤ 22 → (∀ i x, before[i]? = some x → ¬ wrong (first.toNat + i) x) →
      wrong (first.toNat + before.length) m →
      exec (.tableLoadAlarmMap tag first (byte rows.length) (rows.flatMap (fun x => [x.1, x.2]))) s =
        atFault (first.toNat + before.length)

/-- R18, R24, R25, R26: with the sequencer IDLE and the window empty, station map entries in range that give no two fitted
stations one drop position are written, and substitutions of stations no longer fitted are removed; the first entry out of range
and, with all in range, the first whose drop position another station of the new map has, refuses the load with its index.
Otherwise LOCKED, whatever the entries hold. -/
def Obligations.StationMapLoads : Prop :=
  ∀ (tag : Byte) (first : Word16) (es : List StationMapEntry) (s : State), Takes s →
    1 ≤ es.length → 1 ≤ first.toNat → first.toNat + es.length ≤ 97 → (∀ e ∈ es, e.drop < 256 ∧ e.spare < 256) →
    let load := Instr.tableLoadStationMap tag first (byte es.length) (es.flatMap (fun e => [byte e.drop, byte e.spare]))
    let map := s.tables.stations.take (first.toNat - 1) ++ es
      ++ s.tables.stations.drop (first.toNat - 1 + es.length)
    let fittedIn := fun (n : Nat) => 1 ≤ n ∧ ∃ e, map[n - 1]? = some e ∧ e.drop ≠ 0
    let right := fun (i : Nat) (e : StationMapEntry) => (e.drop = 0 ∨ (s.tables.constants.sensePos < e.drop
      ∧ e.drop < s.tables.constants.chainLength)) ∧ e.spare ≤ 96 ∧ e.spare ≠ first.toNat + i
    let shared := fun (e : StationMapEntry) => e.drop ≠ 0 ∧ ∃ m n : Nat, m < n
      ∧ (map[m]?).map StationMapEntry.drop = some e.drop ∧ (map[n]?).map StationMapEntry.drop = some e.drop
    let atFault := fun (i : Nat) => Host.Outcome.next (answered 0x11 tag .badValue ([0] ++ be16 (first.toNat + i)) s)
    (s.csq.seq ≠ .idle ∨ s.csq.window ≠ [] → exec load s = .next (answered 0x11 tag .locked [0, 0, 0] s))
    ∧ (s.csq.seq = .idle → s.csq.window = [] →
      (∀ i e, es[i]? = some e → ¬ right i e → (∀ j w, j < i → es[j]? = some w → right j w) →
        exec load s = atFault i)
      ∧ ((∀ i e, es[i]? = some e → right i e) →
        (∀ i e, es[i]? = some e → shared e → (∀ j w, j < i → es[j]? = some w → ¬ shared w) →
          exec load s = atFault i)
        ∧ ((∀ e ∈ es, ¬ shared e) →
          ∃ kept, exec load s = .next (answered 0x11 tag .ok [byte es.length, 0, 0]
              { s with tables := { s.tables with stations := map }, shu := { s.shu with subst := kept } })
            ∧ kept.Sublist s.shu.subst
            ∧ ∀ e ∈ s.shu.subst, e ∈ kept ↔ fittedIn e.failed ∧ fittedIn e.substitute)))

/-- R18, R123, R124, R166: a pattern load with the panel not EMPTY or a placement in the machine is BUSY, whatever its fields
hold. Otherwise a field out of its range refuses it with the first place at fault, 1 to 7 (a mark-present byte above 1: log 38);
with every field in range, an image whose origin or mark position lies outside travel refuses it with OFF_TABLE and the first
such image; else the pattern is loaded. The offset of an image is the sum of the pitches its selectors name. -/
def Obligations.PatternLoads : Prop :=
  (∀ (tag : Byte) (s : State), Takes s →
    let inRange := fun (d : Int × Int) => -45000 ≤ d.1 ∧ d.1 ≤ 45000 ∧ -36000 ≤ d.2 ∧ d.2 ≤ 36000
    let onTable := fun (d : Int × Int) => 0 ≤ d.1 ∧ d.1 ≤ 45000 ∧ 0 ≤ d.2 ∧ d.2 ≤ 36000
    let load := fun (body : List Byte) => Instr.tableLoadPanelPattern tag 0 1 body
    let refused := fun (c : ResultCode) (i : Nat) => Host.Outcome.next (answered 0x11 tag c ([0] ++ be16 i) s)
    let free := s.tbc.panel = .empty ∧ (∀ r ∈ s.pin.queue, r = .boundary) ∧ s.csq.window = [] ∧ s.tpc.tape = []
    (∀ k body, body[29]? = some k → body.length = 39 + k.toNat → ¬ free → exec (load body) s = refused .busy 0)
    ∧ (∀ r : RawPattern,
      let fits := fun (d : Int × Int) =>
        -2147483648 ≤ d.1 ∧ d.1 < 2147483648 ∧ -2147483648 ≤ d.2 ∧ d.2 < 2147483648
      let right := fun (place : Nat) => match place with
        | 1 => r.originX ≤ 45000 ∧ r.originY ≤ 36000
        | 2 => 1 ≤ r.count ∧ r.count ≤ 16
        | 3 => inRange r.pitchA
        | 4 => inRange r.pitchB
        | 5 => inRange r.pitchC
        | 6 => 1 ≤ r.selectors.length ∧ r.selectors.length ≤ 8 ∧ ∀ x ∈ r.selectors, x.toNat ≤ 2
        | _ => r.markPresent = 0 ∨ (r.markPresent = 1 ∧ inRange r.mark)
      let body := be16 r.originX ++ be16 r.originY ++ [byte r.count] ++ pairBytes r.pitchA ++ pairBytes r.pitchB
        ++ pairBytes r.pitchC ++ [byte r.selectors.length] ++ r.selectors ++ [byte r.markPresent] ++ pairBytes r.mark
      r.originX < 65536 → r.originY < 65536 → r.count < 256 → fits r.pitchA → fits r.pitchB → fits r.pitchC →
      r.selectors.length < 256 → r.markPresent < 256 → fits r.mark →
      ∀ k, free → 1 ≤ k → k ≤ 7 → ¬ right k → (∀ j, 1 ≤ j → j < k → right j) →
        exec (load body) s = refused .badValue k)
    ∧ ∀ p : Pattern, 0 ≤ p.originX → p.originX ≤ 45000 → 0 ≤ p.originY → p.originY ≤ 36000 → 1 ≤ p.count →
      p.count ≤ 16 → inRange p.pitchA → inRange p.pitchB → inRange p.pitchC → 1 ≤ p.selectors.length →
      p.selectors.length ≤ 8 → (∀ m, p.badMark = some m → inRange m) → free →
      let right := fun (n : Nat) => onTable (p.imageOrigin n) ∧ (p.badMark.isSome = true → onTable (p.markPosition n))
      (∀ n, 1 ≤ n → n ≤ p.count → ¬ right n → (∀ m, 1 ≤ m → m < n → right m) →
        exec (load (patternOut (some p))) s = refused .offTable n)
      ∧ ((∀ n, 1 ≤ n → n ≤ p.count → right n) → exec (load (patternOut (some p))) s =
        .next (answered 0x11 tag .ok [1, 0, 0] { s with tbc := { s.tbc with pattern := some p } })))
  ∧ ∀ p : Pattern, p.offset 1 = (0, 0) ∧ ∀ n, 2 ≤ n → ∀ x, p.selectors[(n - 2) % p.selectors.length]? = some x →
      p.offset n = ((p.offset (n - 1)).1 + (p.pitch x).1, (p.offset (n - 1)).2 + (p.pitch x).2)

/-- R18, R28 to R31: a CONSTANTS record that would change a place the state of the machine does not let change is BUSY,
whatever else it holds: the mode wants the machine at rest and empty, the places but the five timeouts want it at rest. Otherwise
the first place out of range refuses it with its number; then a fitted station outside SP+1..L-1 with place 1 or 2, the
lowest-numbered such station first (log 25), and a festoon capacity below the Tape List count with place 6. Else it is written: a
new L rebuilds the chain (log 36), a new mode is taken up (log 51 for a chain step under way). -/
def Obligations.ConstantsLoads : Prop :=
  ∀ (tag : Byte) (s : State), Takes s →
    let c := s.tables.constants
    let rest := s.csq.seq = .idle ∧ s.hdc.head = .idle ∧ s.tbc.panel = .empty
    let empty := s.pin.queue = [] ∧ s.csq.window = [] ∧ s.tpc.tape = []
    (∀ v : List Nat,
      let at' := fun (place : Nat) => v.getD (place - 1) 0
      let body := [1, 2, 3, 4, 5, 6].map (fun i => byte (at' i)) ++ [7, 8, 9, 10, 11, 12].flatMap (fun i => be16 (at' i))
        ++ [byte (at' 13), byte (at' 14)]
      let changes := fun (place : Nat) => at' place ≠ c.places.getD (place - 1) 0
      let mayChange := (changes 14 → rest ∧ empty) ∧ ((∃ i ∈ [1, 2, 3, 4, 5, 6, 12, 13], changes i) → rest)
      let lo := fun (place : Nat) => [40, 2, 1, 1, 0, 4, 50, 50, 50, 100, 500, 5, 2, 0].getD (place - 1) 0
      let hi := fun (place : Nat) => [128, 7, 16, 7, 7, 48, 2000, 2000, 1000, 3000, 10000, 500, 9, 2].getD (place - 1) 0
      let right := fun (place : Nat) => lo place ≤ at' place ∧ at' place ≤ hi place
      let stands := fun (e : StationMapEntry) => e.drop = 0 ∨ (at' 2 < e.drop ∧ e.drop < at' 1)
      let refused := fun (code : ResultCode) (place : Nat) => exec (.tableLoadConstants tag 0 1 body) s =
        .next (answered 0x11 tag code ([0] ++ be16 place) s)
      v.length = 14 → (∀ i ∈ [1, 2, 3, 4, 5, 6, 13, 14], at' i < 256) → (∀ i ∈ [7, 8, 9, 10, 11, 12], at' i < 65536) →
      (¬ mayChange → refused .busy 0)
      ∧ (mayChange → ∀ i, 1 ≤ i → i ≤ 14 → ¬ right i → (∀ j, 1 ≤ j → j < i → right j) → refused .badValue i)
      ∧ (mayChange → (∀ i, 1 ≤ i → i ≤ 14 → right i) →
        (∀ before e after, s.tables.stations = before ++ e :: after → (∀ x ∈ before, stands x) → ¬ stands e →
          refused .badValue (if at' 1 ≤ e.drop then 1 else 2))
        ∧ ((∀ e ∈ s.tables.stations, stands e) → at' 6 < s.tpc.tape.length → refused .badValue 6)))
    ∧ ∀ k : MachineConstants, ConstantsInRange k →
      (∀ e ∈ s.tables.stations, e.drop = 0 ∨ (k.sensePos < e.drop ∧ e.drop < k.chainLength)) →
      s.tpc.tape.length ≤ k.festoon →
      let load := Instr.tableLoadConstants tag 0 1 (constantsBytes k)
      let written := { s with tables := { s.tables with constants := k } }
      let newChain := { s.csq with
        ring := List.replicate k.chainLength .unknown, base := 0, window := []
        fireLoad := List.replicate k.chainLength 0
        seq := if k.mode = .insertOnly then .idle else .purging }
      let sameChain := { s.csq with
        seq := if k.mode ≠ .insertOnly ∧ .unknown ∈ s.csq.ring then .purging else .idle }
      (k = { c with
          stepTimeout := k.stepTimeout, taperTimeout := k.taperTimeout, headTimeout := k.headTimeout
          axisTimeout := k.axisTimeout, moveTimeout := k.moveTimeout } →
        exec load s = .next (answered 0x11 tag .ok [1, 0, 0] written))
      ∧ (k.mode = c.mode → rest →
        (k.chainLength = c.chainLength → exec load s = .next (answered 0x11 tag .ok [1, 0, 0] written))
        ∧ (k.chainLength ≠ c.chainLength → exec load s =
          .next (answered 0x11 tag .ok [1, 0, 0] { written with csq := newChain })))
      ∧ (k.mode ≠ c.mode → rest → empty → exec load s = .next (answered 0x11 tag .ok [1, 0, 0] { written with
          tpc := { s.tpc with verified := false }
          pin := { s.pin with ask := false }
          csq := if k.chainLength = c.chainLength then sameChain else newChain }))

/-- R29, R31, R164: MODE changes the mode, with the sequencer and the head IDLE, the panel EMPTY and queue, window and
Tape List empty: the tape becomes UNVERIFIED, an ask is cleared, and an UNKNOWN clip starts a purge in a mode with
sequencing. The same mode is no change; otherwise BUSY; a value above 2 is BAD_VALUE. That a chain step under way at the change
is left as it is is the model's choice (log 51). -/
def Obligations.ModeRequest : Prop :=
  ∀ (tag value : Byte) (m : Mode) (s : State), Takes s →
    (2 < value.toNat → exec (.mode tag value) s = .next (answered 0x33 tag .badValue [] s))
    ∧ (value.toNat = m.code → m = s.mode → exec (.mode tag value) s = .next (answered 0x33 tag .ok [] s))
    ∧ (value.toNat = m.code → m ≠ s.mode →
      let free := s.csq.seq = .idle ∧ s.hdc.head = .idle ∧ s.tbc.panel = .empty ∧ s.pin.queue = []
        ∧ s.csq.window = [] ∧ s.tpc.tape = []
      (¬ free → exec (.mode tag value) s = .next (answered 0x33 tag .busy [] s))
      ∧ (free → exec (.mode tag value) s = .next (answered 0x33 tag .ok [] { s with
          tables := { s.tables with constants := { s.tables.constants with mode := m } }
          tpc := { s.tpc with verified := false }
          pin := { s.pin with ask := false }
          csq := { s.csq with seq := if m ≠ .insertOnly ∧ .unknown ∈ s.csq.ring then .purging else .idle } })))

/-- R19, R62, R121, R125, R166: each TABLE READ answers the head as received, the table's extra fields and the entries
asked for as they stand; a wrong index is BAD_INDEX, more than 238 data bytes BAD_LENGTH; nothing else changes. -/
def Obligations.TableReads : Prop :=
  ∀ (tag : Byte) (first : Word16) (count : Byte) (s : State), Takes s →
    let f := first.toNat
    let n := count.toNat
    let reply := fun (c : Instr) (code : Byte) (indexRight : Prop) (extra entries : List Byte) =>
      (indexRight → 4 + extra.length + entries.length ≤ 238 →
        exec c s = .next (answered 0x12 tag .ok ([code] ++ be16 f ++ [count] ++ extra ++ entries) s))
      ∧ (indexRight → 238 < 4 + extra.length + entries.length →
        exec c s = .next (answered 0x12 tag .badLength [] s))
      ∧ (¬ indexRight →
        exec c s = .next (answered 0x12 tag .badIndex ([code] ++ be16 f ++ [count] ++ extra.map (fun _ => 0)) s))
    let within := fun (lo hi : Nat) => 1 ≤ n ∧ lo ≤ f ∧ f + n ≤ hi + 1
    let whole := first = 0 ∧ count = 1
    reply (.tableReadComponent tag first count) 1 (within 0 511) []
      (((s.tables.components.drop f).take n).flatMap (fun e =>
        [flagByte e.valid, byte e.station, byte e.spanCode, byte e.profile, byte e.form, byte e.checkSkip]))
    ∧ reply (.tableReadSpan tag first count) 2 (within 0 15) []
      (((s.tables.spans.drop f).take n).flatMap (fun v => be16 (v.getD 0)))
    ∧ reply (.tableReadStationMap tag first count) 3 (within 1 96) []
      (((s.tables.stations.drop (f - 1)).take n).flatMap (fun e => [byte e.drop, byte e.spare]))
    ∧ reply (.tableReadProfile tag first count) 4 (within 0 31) []
      (((s.csu.profiles.drop f).take n).flatMap profileBytes)
    ∧ reply (.tableReadFilterSet tag first count) 5 (within 0 3) []
      (((s.csu.filters.drop f).take n).flatMap filterBytes)
    ∧ reply (.tableReadPanelPattern tag first count) 6 whole [] (patternOut s.tbc.pattern)
    ∧ reply (.tableReadAlarmMap tag first count) 7 (within 0 21) []
      (((s.alc.map.drop f).take n).flatMap (fun e => [byte e.channel.code, flagByte e.suppress]))
    ∧ reply (.tableReadConstants tag first count) 8 whole [] (constantsBytes s.tables.constants)
    ∧ reply (.tableReadStationRecords tag first count) 9 (within 1 96) []
      (((s.shu.records.drop (f - 1)).take n).flatMap (fun r =>
        [r.flags, byte r.consecutive] ++ be16 r.total ++ be32 r.fires.toNat))
    ∧ reply (.tableReadSubstitution tag first count) 10 (f ≤ 7 ∧ 1 ≤ n ∧ n ≤ 8) [byte s.shu.subst.length]
      (((s.shu.subst.drop f).take n).flatMap (fun e =>
        [byte e.failed, byte e.substitute] ++ be32 e.time.toNat ++ be16 e.served))
    ∧ reply (.tableReadWear tag first count) 11 (within 0 31) [byte s.csu.faults]
      (((s.csu.wear.drop f).take n).flatMap (fun a => be24 a ++ be16 (a / 16)))
    ∧ reply (.tableReadLastSignature tag first count) 12 whole [] (signatureBytes s.csu.last)
    ∧ reply (.tableReadImages tag first count) 13
      (if s.tbc.images = [] then 1 ≤ f ∧ f ≤ 16 ∧ 1 ≤ n else within 1 s.tbc.images.length)
      [byte s.tbc.images.length, s.tbc.current]
      (((s.tbc.images.drop (f - 1)).take n).flatMap (fun r =>
        be32s r.offset.1 ++ be32s r.offset.2 ++ [byte r.state.code] ++ be16 r.inserted ++ [byte r.faults]))

/-! ### Alarms and run level -/

/-- R142, R143, R141: a post is counted as suppressed, or folds into the entry of its kind and subject, or is appended
with its notice, its latch and the horn, or is counted as overflow. (An append to STOP while a sweep runs ends the sweep
as well: SweepEnds.) -/
def Obligations.PostsAreTakenByTheMap : Prop :=
  ∀ (k : AlarmKind) (subject : Option Nat) (s : State),
    let c := (s.alc.mapOf k).channel
    let ch := s.alc.channel c
    let same := fun (e : AlarmEntry) => e.kind = k ∧ e.subject = subject
    ((s.alc.mapOf k).suppress = true → post k subject s = { s with
      alc := s.alc.setChannel c { ch with suppressed := satInc 65535 ch.suppressed } })
    ∧ ((s.alc.mapOf k).suppress = false →
      ((∃ e ∈ ch.entries, same e) → post k subject s = { s with
        alc := s.alc.setChannel c { ch with entries := ch.entries.map (fun e =>
          if e.kind = k ∧ e.subject = subject then { e with repeats := satInc 255 e.repeats, last := s.alc.ms }
          else e) } })
      ∧ ((¬ ∃ e ∈ ch.entries, same e) → 8 ≤ ch.entries.length → post k subject s = { s with
        alc := s.alc.setChannel c { ch with overflow := satInc 65535 ch.overflow } })
      ∧ ((¬ ∃ e ∈ ch.entries, same e) → ch.entries.length < 8 → s.shu.sweep = none ∨ c ≠ .stop →
        let e : AlarmEntry := ⟨s.alc.nextSeq, k, subject, c, s.alc.ms, s.alc.ms, 0⟩
        let t := post k subject s
        LevelOnly s t ∧ LevelTold s t ∧ SequencerTold s t ∧ LevelsFollow t.alc
          ∧ t.alc.channel c = { ch with entries := ch.entries ++ [e] }
          ∧ (∀ d, d ≠ c → t.alc.channel d = s.alc.channel d)
          ∧ t.alc.nextSeq = s.alc.nextSeq + 1 ∧ t.alc.ms = s.alc.ms ∧ t.alc.map = s.alc.map
          ∧ t.alc.estop = s.alc.estop
          ∧ t.alc.requested = (if c = .stop then .stop
              else if c = .hold ∧ s.alc.requested = .run then .hold else s.alc.requested)
          ∧ t.alc.horn = (s.alc.horn || c == .stop || c == .hold)
          ∧ t.lpu = (if s.lpu.answers.length < 2 ∧ s.lpu.resetPending = false
              then s.lpu.pushOwn ⟨mkFrame s.lpu.sender 0x81 0 (alarmBytes e), false⟩
              else { s.lpu with noticeDrops := satInc 65535 s.lpu.noticeDrops })))

/-- R146, R38: RUN and the Resume button raise the requested level to RUN when the STOP channel is empty and the
E-stop line released, and an IDLE sequencer starts in a mode with sequencing (with a full festoon too: log 15); HOLD and
the Hold button lower RUN to HOLD; STOP lowers to STOP. The answers carry the levels after. R39: when the effective level
changes, the test between RUNNING and HELD sets the sequencer (`SequencerTold`, and written out for the change that a STOP request
makes and the one a RUN taken makes). R44, R79, R80, R128: when the level leaves STOP, a suspended step and a suspended transfer go
on with the time kept, and what is STALLED is due for its restart (`LevelTold`; the mark is log 17's). -/
def Obligations.RunLevels : Prop :=
  (∀ (tag : Byte) (s : State),
    let goes := fun (r : Level) (t : State) =>
      LevelOnly s t ∧ LevelTold s t ∧ LevelsFollow t.alc ∧ t.alc = { s.alc with
        requested := r, effective := t.alc.effective, red := t.alc.red, amber := t.alc.amber, green := t.alc.green }
    let answers := fun (k : Byte) (t : State) => t.lpu =
      (answered k tag .ok [byte t.alc.requested.code, byte t.alc.effective.code] s).lpu
    let runs := fun (t : State) => goes .run t
      ∧ (s.csq.seq = .idle → s.mode ≠ .insertOnly → t.csq.seq = .running)
      ∧ (s.csq.seq = .idle → s.mode = .insertOnly → t.csq.seq = .idle)
      ∧ (s.csq.seq = .sweeping ∨ s.csq.seq = .purging → t.csq.seq = s.csq.seq)
      ∧ (s.csq.seq ≠ .idle → SequencerTold s t)
    let lowered := if s.alc.requested = .run then Level.hold else s.alc.requested
    let free := s.alc.stopCh.entries = [] ∧ s.alc.estop = .released
    let lowers := fun (r : Level) (t : State) => goes r t ∧ SequencerTold s t
    (free → Takes s → ∃ t, exec (.run tag) s = .next t ∧ runs t ∧ answers 0x20 t)
    ∧ (¬ free → Takes s → exec (.run tag) s = .next (answered 0x20 tag .alarmActive
        [byte s.alc.requested.code, byte s.alc.effective.code] s))
    ∧ (free → ∃ t, exec .resumeButton s = .next t ∧ runs t ∧ t.lpu = s.lpu)
    ∧ (¬ free → exec .resumeButton s = .next s)
    ∧ (Takes s → ∃ t, exec (.hold tag) s = .next t ∧ lowers lowered t ∧ answers 0x21 t)
    ∧ (∃ t, exec .holdButton s = .next t ∧ lowers lowered t ∧ t.lpu = s.lpu)
    ∧ (Takes s → ∃ t, exec (.stop tag) s = .next t ∧ lowers .stop t ∧ answers 0x22 t
        ∧ (s.csq.seq = .running ∨ s.csq.seq = .held → s.csq.window = [] → s.csq.cycle = .rest →
          t.csq.seq = .idle)))
  ∧ ∀ (tag : Byte) (s : State), Takes s → s.csq.window ≠ [] →
    (s.csq.seq = .running → s.alc.effective ≠ .stop →
      ∃ t, exec (.stop tag) s = .next t ∧ t.csq.seq = .held)
    ∧ (s.csq.seq = .held → s.alc.effective = .stop → s.alc.stopCh.entries = [] → s.alc.estop = .released →
      ∃ t, exec (.run tag) s = .next t ∧
        (s.mode = .sequenceInsert ∧ s.tables.constants.festoon ≤ s.tpc.tape.length → t.csq.seq = .held)
        ∧ (¬ (s.mode = .sequenceInsert ∧ s.tables.constants.festoon ≤ s.tpc.tape.length) → t.csq.seq = .running))

/-- R149 to R154: HORN OFF, ALARM READ, and the clears of one entry by request and by button. A clear whose condition
is not met is refused; a clear leaves the requested level. A press of Clear with every channel empty silences the horn
and does nothing else. A clear that makes the level leave STOP lets go on what was suspended (R44, R80; `LevelTold`).
R145: while the E-stop line is asserted, a clear of a STOP entry, by the button or by request, that leaves the STOP channel
without an ESTOP entry posts ESTOP again (with one still there it is an ordinary clear), and the request's answer counts
that entry too (log 20). Of two entries with one sequence number the oldest is cleared: the model's choice (log 48). -/
def Obligations.AlarmsReadAndCleared : Prop :=
  (∀ (tag ch : Byte) (seq : Word16) (s : State),
    let met := fun (e : AlarmEntry) =>
      (e.kind = .estop → s.alc.estop = .released) ∧ (e.kind = .tapeBreak → s.tpc.tension = .normal)
      ∧ (e.kind = .tableLimit → s.tbc.limits = .released)
      ∧ (e.kind = .noStation → componentValid s.tables (e.subject.getD 0) = false
          ∨ (resolveStation s.tables s.shu (componentAt s.tables (e.subject.getD 0)).station).isSome = true)
    let cleared := fun (c : ChannelId) (left : List AlarmEntry) (t : State) =>
      LevelOnly s t ∧ LevelTold s t ∧ SequencerTold s t ∧ LevelsFollow t.alc
        ∧ t.alc.requested = s.alc.requested ∧ t.alc.nextSeq = s.alc.nextSeq
        ∧ t.alc.ms = s.alc.ms ∧ t.alc.map = s.alc.map ∧ t.alc.estop = s.alc.estop
        ∧ t.alc.channel c = { s.alc.channel c with entries := left }
        ∧ ∀ d, d ≠ c → t.alc.channel d = s.alc.channel d
    (Takes s → exec (.hornOff tag) s = .next (answered 0x23 tag .ok [] { s with alc := { s.alc with horn := false } }))
    ∧ (Takes s → 3 < ch.toNat →
      exec (.alarmRead tag ch) s = .next (answered 0x40 tag .badIndex [ch, 0, 0, 0, 0, 0] s)
      ∧ exec (.alarmClear tag ch seq) s = .next (answered 0x41 tag .badIndex [0] s))
    ∧ ∀ c : ChannelId, ch.toNat = c.code →
      (Takes s → exec (.alarmRead tag ch) s = .next (answered 0x40 tag .ok
        ([ch, byte (s.alc.channel c).entries.length] ++ be16 (s.alc.channel c).overflow
          ++ be16 (s.alc.channel c).suppressed ++ (s.alc.channel c).entries.flatMap alarmBytes) s))
      ∧ (Takes s → (∀ e ∈ (s.alc.channel c).entries, e.seq ≠ seq) →
        exec (.alarmClear tag ch seq) s = .next (answered 0x41 tag .badIndex [0] s))
      ∧ ∀ before e after, (s.alc.channel c).entries = before ++ e :: after → e.seq = seq →
        (∀ x ∈ before, x.seq ≠ seq) →
        (Takes s → ¬ met e → exec (.alarmClear tag ch seq) s = .next (answered 0x41 tag .causePresent [0] s))
        ∧ (Takes s → met e → s.alc.estop = .released ∨ c ≠ .stop ∨ (∃ x ∈ before ++ after, x.kind = .estop) →
          ∃ t, exec (.alarmClear tag ch seq) s = .next t ∧ cleared c (before ++ after) t
            ∧ t.alc.horn = s.alc.horn
            ∧ t.lpu = (answered 0x41 tag .ok [byte (before.length + after.length)] s).lpu)
        ∧ (before = [] → (∀ d, d.code < c.code → (s.alc.channel d).entries = []) →
          (¬ met e → exec .clearButton s = .next { s with alc := { s.alc with horn := false } })
          ∧ (met e → s.alc.estop = .released ∨ c ≠ .stop ∨ (∃ x ∈ after, x.kind = .estop) →
            ∃ t, exec .clearButton s = .next t ∧ cleared c after t ∧ t.alc.horn = false ∧ t.lpu = s.lpu)))
  ∧ ∀ (s : State),
    let reposted := fun (s t : State) => LevelOnly s t ∧ LevelsFollow t.alc ∧ t.alc.requested = .stop
      ∧ t.alc.effective = .stop ∧ t.alc.horn = true ∧ t.alc.nextSeq = s.alc.nextSeq + 1 ∧ t.alc.ms = s.alc.ms
      ∧ t.alc.map = s.alc.map ∧ t.alc.estop = s.alc.estop ∧ ∀ d, d ≠ .stop → t.alc.channel d = s.alc.channel d
    ((∀ c, (s.alc.channel c).entries = []) →
      exec .clearButton s = .next { s with alc := { s.alc with horn := false } })
    ∧ (∀ e after, s.alc.stopCh.entries = e :: after → s.alc.estop = .asserted → e.kind ≠ .estop →
      clearable s e = true → (∀ x ∈ after, x.kind ≠ .estop) → after.length < 8 →
      s.alc.mapOf .estop = ⟨.stop, false⟩ → s.shu.sweep = none →
      ∃ t, exec .clearButton s = .next t ∧ reposted s t
        ∧ t.alc.stopCh.entries = after ++ [⟨s.alc.nextSeq, .estop, none, .stop, s.alc.ms, s.alc.ms, 0⟩])
    ∧ ∀ (tag : Byte) before e after, Takes s → s.alc.stopCh.entries = before ++ e :: after →
      (∀ x ∈ before, x.seq ≠ e.seq) → s.alc.estop = .asserted → e.kind ≠ .estop → clearable s e = true →
      (∀ x ∈ before ++ after, x.kind ≠ .estop) → before.length + after.length < 8 →
      s.alc.mapOf .estop = ⟨.stop, false⟩ → s.shu.sweep = none →
      let again : AlarmEntry := ⟨s.alc.nextSeq, .estop, none, .stop, s.alc.ms, s.alc.ms, 0⟩
      ∃ t, exec (.alarmClear tag 0 e.seq) s = .next t ∧ reposted s t ∧ t.alc.stopCh.entries = before ++ after ++ [again]
        ∧ t.lpu = (answered 0x41 tag .ok [byte (before.length + after.length + 1)] s).lpu.notice again

/-- R145, R147, R44, R80, R100 to R102, R128, R136: the E-stop line asserted posts ESTOP and stops everything the line halts,
keeping the time that remains; released, it posts nothing and raises no requested level: it changes the line, and what
follows from a change of the effective level: the level and lamps, the sequencer state, a suspended step or transfer that
goes on with the time kept, the mark of what is stalled (log 17), and the commands on the lines (`LevelOnly`, `LevelTold`). What becomes of a head cycle,
a SETUP or a homing under way is written out in HeadAborts. -/
def Obligations.EstopLine : Prop :=
  ∀ (s : State),
    (s.alc.estop = .asserted → exec .estopAsserted s = .next s)
    ∧ (EstopInv s → s.alc.estop = .released → ∃ t, exec .estopAsserted s = .next t
      ∧ t.alc.estop = .asserted ∧ t.alc.effective = .stop ∧ StoppedByEstop t ∧ t.tbc.inPosition = .none
      ∧ (s.alc.mapOf .estop = ⟨.stop, false⟩ → s.alc.stopCh.entries.length < 8 →
        t.alc.stopCh.entries.any (·.sameAs .estop none) = true)
      ∧ (∀ n, s.csq.cycle = .step → s.csq.stepTimer = .running n →
        t.csq.cycle = .step ∧ t.csq.stepTimer = .suspended n ∧ t.out.chainDrive = .halt)
      ∧ (∀ op n, s.tpc.transfer = some ⟨op, .running⟩ → s.tpc.timer = .running n →
        t.tpc.transfer = some ⟨op, .suspended⟩ ∧ t.tpc.timer = .suspended n)
      ∧ (∀ op n, s.tbc.handler = some ⟨op, .running⟩ → s.tbc.handlerTimer = .running n →
        t.tbc.handler = some ⟨op, .suspended⟩ ∧ t.tbc.handlerTimer = .suspended n))
    ∧ (∃ t, exec .estopReleased s = .next t ∧ LevelOnly s t ∧ LevelTold s t ∧ SequencerTold s t ∧ LevelsFollow t.alc
      ∧ t.alc = { s.alc with estop := .released, effective := t.alc.effective, red := t.alc.red, amber := t.alc.amber,
                             green := t.alc.green }
      ∧ t.lpu = s.lpu)

/-- R138: one millisecond: the counter wraps on, every running timer and every inter-byte gap has 1 ms less, and
nothing else changes (log 3). R81, R135: a change of the tension sensor to BREAK and a change of the limit state to
ACTIVE post their alarms, the limit halting both axes as well; the changes back post nothing. -/
def Obligations.TimeAndSensors : Prop :=
  (∀ (s : State),
    let tick := fun (t : Timer) => match t with
      | .running n => Timer.running (n - 1)
      | other => other
    let gap := fun (r : Receive) => match r with
      | .frame bytes g => Receive.frame bytes (g - 1)
      | .hunting => .hunting
    exec .millisecondTick s = .next { s with
      alc := { s.alc with ms := s.alc.ms + 1 }
      lpu := { s.lpu with rxUp := gap s.lpu.rxUp, rxDown := gap s.lpu.rxDown }
      csq := { s.csq with stepTimer := tick s.csq.stepTimer }
      tpc := { s.tpc with timer := tick s.tpc.timer }
      hdc := { s.hdc with timer := tick s.hdc.timer }
      csu := { s.csu with silence := tick s.csu.silence }
      tbc := { s.tbc with handlerTimer := tick s.tbc.handlerTimer, moveTimer := tick s.tbc.moveTimer } })
  ∧ ∀ (s : State),
    (s.tpc.tension = .normal → exec .tensionBreak s =
      .next (post .tapeBreak none { s with tpc := { s.tpc with tension := .broken } }))
    ∧ (s.tpc.tension = .broken → exec .tensionBreak s = .next s)
    ∧ exec .tensionNormal s = .next { s with tpc := { s.tpc with tension := .normal } }
    ∧ (s.tbc.limits = .released → exec .limitActive s = .next (post .tableLimit none { s with
        tbc := { s.tbc with limits := .active, move := none, moveTimer := .stopped, inPosition := .none }
        out := { s.out with tableAxes := .halt } }))
    ∧ (s.tbc.limits = .active → exec .limitActive s = .next s)
    ∧ exec .limitReleased s = .next { s with tbc := { s.tbc with limits := .released } }

/-! ### Stations and the sweep -/

/-- R65, R66: STATION FLAGS on one station, 1..96, fitted or not: the clear set, then ENABLED of the set set; JAMMED in the
clear set zeroes the consecutive misses; a station that stops being usable is no substitute and CSQ is told; a usable one
needs none. Station 0 names every fitted station. That bits above 10h are ignored in both sets is the model's choice
(log 24). -/
def Obligations.StationFlagsRequest : Prop :=
  ∀ (tag station clear set : Byte) (s : State), Takes s →
    let after := fun (r : StationRecord) =>
      { r with
        enabled := (r.enabled && !clear.getLsbD 0) || set.getLsbD 0
        jammed := r.jammed && !clear.getLsbD 1
        empty := r.empty && !clear.getLsbD 2
        low := r.low && !clear.getLsbD 3
        sweepFailed := r.sweepFailed && !clear.getLsbD 4
        consecutive := if clear.getLsbD 1 then 0 else r.consecutive }
    let was := fun (n : Nat) => fitted s.tables n && (recordAt s.shu n).sound
    let now := fun (n : Nat) => fitted s.tables n && (after (recordAt s.shu n)).sound
    (96 < station.toNat →
      exec (.stationFlags tag station clear set) s = .next (answered 0x13 tag .badIndex [0] s))
    ∧ (∀ n r, station.toNat = n → 1 ≤ n → n ≤ 96 → s.shu.records[n - 1]? = some r →
      exec (.stationFlags tag station clear set) s = .next (answered 0x13 tag .ok [r.flags] { s with
        shu := { s.shu with
          records := s.shu.records.set (n - 1) (after r)
          subst := s.shu.subst.filter (fun e =>
            !(was n && !now n && e.substitute == n) && !(now n && e.failed == n)) }
        csq := { s.csq with unusable := s.csq.unusable ++ if was n && !now n then [n] else [] } }))
    ∧ (station = 0 → s.shu.records.length = 96 → (∀ e ∈ s.shu.subst, e.failed ≤ 96 ∧ e.substitute ≤ 96) →
      let named := (List.range' 1 96).filter (fitted s.tables)
      ∃ t, exec (.stationFlags tag station clear set) s = .next (answered 0x13 tag .ok
          ([byte named.length] ++ named.flatMap (fun n => [byte n, (recordAt s.shu n).flags])) t)
        ∧ t = { s with
          shu := { s.shu with records := t.shu.records, subst := t.shu.subst }
          csq := { s.csq with unusable := s.csq.unusable ++ named.filter (fun n => was n && !now n) } }
        ∧ t.shu.records.length = 96
        ∧ (∀ n, 1 ≤ n → n ≤ 96 →
          recordAt t.shu n = if fitted s.tables n then after (recordAt s.shu n) else recordAt s.shu n)
        ∧ t.shu.subst = s.shu.subst.filter (fun e =>
          !(was e.substitute && !now e.substitute) && !now e.failed))

/-- R67, R73, R164: a SWEEP payload of the LIST or the MASK form, and those of neither (empty, a form byte above 1, a LIST without
its count or of other than 5 + k bytes, a MASK of other than 16), which are BAD_LENGTH; the checks in order; the first group of
an accepted sweep. SWEEP RESULT answers BUSY while a sweep runs and otherwise the result of the last one. -/
def Obligations.SweepRequests : Prop :=
  (∀ (stations : List Byte) (g p v : Byte), stations.length < 256 →
    sweepFieldsOf ([0, byte stations.length] ++ stations ++ [g, p, v]) =
      some ⟨stations.map BitVec.toNat, g.toNat, p.toNat, v.toNat⟩)
  ∧ (∀ (mask : List Byte) (g p v : Byte), mask.length = 12 →
    ∃ l, sweepFieldsOf ([1] ++ mask ++ [g, p, v]) = some ⟨l, g.toNat, p.toNat, v.toNat⟩
      ∧ ∀ n, n ∈ l ↔ 1 ≤ n ∧ ∃ b, mask[(n - 1) / 8]? = some b ∧ b.getLsbD ((n - 1) % 8) = true)
  ∧ (sweepFieldsOf [] = none ∧ sweepFieldsOf [0] = none
    ∧ (∀ (form : Byte) (rest : List Byte), 1 < form.toNat → sweepFieldsOf (form :: rest) = none)
    ∧ (∀ (k : Byte) (rest : List Byte), rest.length ≠ k.toNat + 3 → sweepFieldsOf (0 :: k :: rest) = none)
    ∧ (∀ rest : List Byte, rest.length ≠ 12 + 3 → sweepFieldsOf (1 :: rest) = none))
  ∧ ∀ (tag : Byte) (payload : List Byte) (s : State), Takes s →
    let refused := fun (c : ResultCode) => Host.Outcome.next (answered 0x30 tag c [] s)
    (sweepFieldsOf payload = none → exec (.sweep tag payload) s = refused .badLength)
    ∧ (∀ f, sweepFieldsOf payload = some f →
      let inRange := ∀ n ∈ f.stations, 1 ≤ n ∧ n ≤ 96
      let values := f.groupSize ∈ [0, 1, 4, 8] ∧ 1 ≤ f.passes ∧ f.passes ≤ 4 ∧ f.variant ≤ 1 ∧ f.stations ≠ []
      let free := s.mode ≠ .insertOnly ∧ s.csq.seq = .idle ∧ s.csq.window = []
        ∧ ∀ p n, s.tables.constants.sensePos < p → p < s.csq.ring.length → clipAt s.csq p ≠ .test n
      let chosen := (List.range' 1 96).filter (fun n => decide (n ∈ f.stations) && fitted s.tables n)
      let group := if f.groupSize = 0 then s.tables.constants.fireLimit
        else min f.groupSize s.tables.constants.fireLimit
      (¬ inRange → exec (.sweep tag payload) s = refused .badIndex)
      ∧ (inRange → ¬ values → exec (.sweep tag payload) s = refused .badValue)
      ∧ (inRange → values → ¬ free → exec (.sweep tag payload) s = refused .busy)
      ∧ (inRange → values → free → s.alc.stopCh.entries ≠ [] → exec (.sweep tag payload) s = refused .alarmActive)
      ∧ (inRange → values → free → s.alc.stopCh.entries = [] → chosen = [] →
        exec (.sweep tag payload) s = refused .badValue)
      ∧ (inRange → values → free → s.alc.stopCh.entries = [] → chosen ≠ [] →
        exec (.sweep tag payload) s = .next (answered 0x30 tag .accepted [] { s with
          csq := { s.csq with seq := .sweeping }
          shu := { s.shu with
            result := none
            sweep := some {
              group := group, passes := f.passes, withSubst := f.variant == 1, waiting := chosen.drop group
              current := chosen.take group, members := (chosen.take group).map (⟨·, 0, 0, 0, false⟩) } } })))
    ∧ (s.shu.sweep.isSome = true →
      exec (.sweepResult tag) s = .next (answered 0x31 tag .busy [0, 0, 0, 0] s))
    ∧ (s.shu.sweep = none → s.shu.result = none →
      exec (.sweepResult tag) s = .next (answered 0x31 tag .ok [0, 0, 0, 0] s))
    ∧ ∀ r, s.shu.sweep = none → s.shu.result = some r →
      exec (.sweepResult tag) s = .next (answered 0x31 tag .ok
        ([byte r.outcome.code, byte r.tested, byte r.substitutions, byte r.failed.length] ++ r.failed.map byte) s)

/-- R63 and R58, R60: the substitution attempt, case by case; a counted miss, which at the miss limit sets JAMMED, posts
STATION JAM, and takes the station out of service before the attempt. -/
def Obligations.MissesAndSubstitution : Prop :=
  ∀ (f : Nat) (s : State),
    let spare := (stationMapAt s.tables f).spare
    let qualifies := spare ≠ 0 ∧ fitted s.tables spare = true ∧ usable s.tables s.shu spare = true
      ∧ ∀ e ∈ s.shu.subst, e.failed ≠ spare ∧ e.substitute ≠ spare
    ((∃ e ∈ s.shu.subst, e.failed = f) → attemptSubstitution f s = s)
    ∧ ((∀ e ∈ s.shu.subst, e.failed ≠ f) →
      (¬ qualifies → attemptSubstitution f s = s)
      ∧ (qualifies → s.shu.subst.length < 8 → attemptSubstitution f s = { s with
          shu := { s.shu with subst := s.shu.subst ++ [⟨f, spare, s.alc.ms, 0⟩] } })
      ∧ (qualifies → 8 ≤ s.shu.subst.length → attemptSubstitution f s = post .substFull (some f) s))
    ∧ ∀ r, 1 ≤ f → s.shu.records[f - 1]? = some r →
      let missed := { r with consecutive := satInc 7 r.consecutive, total := satInc 65535 r.total }
      let with' := fun (x : StationRecord) => { s with shu := { s.shu with records := s.shu.records.set (f - 1) x } }
      (r.jammed = true ∨ missed.consecutive < s.tables.constants.missLimit → countedMiss f s = with' missed)
      ∧ (r.jammed = false → s.tables.constants.missLimit ≤ missed.consecutive →
        let t := post .stationJam (some f) (with' { missed with jammed := true })
        (usable s.tables s.shu f = false → countedMiss f s = attemptSubstitution f t)
        ∧ (usable s.tables s.shu f = true → countedMiss f s = attemptSubstitution f { t with
            shu := { t.shu with subst := t.shu.subst.filter (fun e => e.substitute != f) }
            csq := { t.csq with unusable := t.csq.unusable ++ [f] } }))

/-- R70 to R73, R51: a sweep whose passes have all resolved sets SWEEP_FAILED by its members, leaves its result and posts
SWEEP DONE; WITH SUBSTITUTION the spares are chosen in order, and when the table has room for all of them (DONE) the failing
stations are JAMMED with STATION JAM, their places as substitutes freed, the chosen spares installed and CSQ told; else (OVER)
nothing is installed; while a pass is not fired or not resolved nothing ends. A STOP alarm appended while a sweep runs ends it
ABORTED with the members done so far and posts SWEEP DONE; TESTs that wait to be sent are removed, their clips are EMPTY, and an
exchange left with no command is COMPLETE; those of an exchange in flight stand and their replies are judged no more. The order of the notices to CSQ, by member, is the model's choice (log 53). -/
def Obligations.SweepEnds : Prop :=
  ∀ (w : Sweep) (s : State), s.shu.sweep = some w →
    let failing := fun (ms : List SweepMember) => (ms.filter SweepMember.failed).map SweepMember.station
    let judged := fun (jams : Bool) => w.members.foldl (fun rs m => if m.station = 0 then rs
      else rs.modify (m.station - 1) (fun r =>
        { r with sweepFailed := m.failed, jammed := r.jammed || (jams && m.failed) })) s.shu.records
    let doneNotice := fun (o : SweepOutcome) (t : State) =>
      s.alc.mapOf .sweepDone = ⟨.note, false⟩ → (s.alc.mapOf .stationJam).channel ≠ .note →
        s.alc.noteCh.entries.length < 8 → ∃ a ∈ t.alc.noteCh.entries, a.kind = .sweepDone ∧ a.subject = some o.code
    (w.withSubst = false → w.waiting = [] → (∀ m ∈ w.members, m.fired = w.passes ∧ m.resolved = w.passes) →
      let t := sweepTest s
      t.shu.sweep = none ∧ t.csq.seq = .idle
        ∧ t.shu.result = some ⟨.done, w.members.length, failing w.members, 0⟩
        ∧ t.shu.subst = s.shu.subst
        ∧ t.shu.records = judged false
        ∧ doneNotice .done t)
    ∧ (w.withSubst = true → w.waiting = [] → (∀ m ∈ w.members, m.fired = w.passes ∧ m.resolved = w.passes) →
      let t := sweepTest s
      let bad := failing w.members
      let spare := fun (f : Nat) => (stationMapAt s.tables f).spare
      let chosen := bad.foldl (fun (c : List (Nat × Nat)) f =>
        if (∀ e ∈ s.shu.subst, e.failed ≠ f) ∧ spare f ≠ 0 ∧ usable s.tables s.shu (spare f) = true
            ∧ (∀ e ∈ s.shu.subst, e.failed ≠ spare f ∧ e.substitute ≠ spare f) ∧ spare f ∉ bad
            ∧ (∀ x ∈ c, x.2 ≠ spare f)
          then c ++ [(f, spare f)] else c) []
      let kept := s.shu.subst.filter (fun e => decide (e.substitute ∉ bad))
      t.shu.sweep = none ∧ t.csq.seq = .idle
        ∧ (8 - kept.length < chosen.length →
          t.shu.result = some ⟨.over, w.members.length, bad, 0⟩ ∧ t.shu.subst = s.shu.subst
            ∧ t.shu.records = judged false ∧ t.csq.unusable = s.csq.unusable ∧ doneNotice .over t)
        ∧ (chosen.length ≤ 8 - kept.length →
          t.shu.result = some ⟨.done, w.members.length, bad, chosen.length⟩
            ∧ t.shu.subst = kept ++ chosen.map (fun x => ⟨x.1, x.2, s.alc.ms, 0⟩)
            ∧ t.shu.records = judged true
            ∧ t.csq.unusable = s.csq.unusable ++ bad.filter (usable s.tables s.shu)
            ∧ doneNotice .done t
            ∧ (s.alc.mapOf .stationJam = ⟨.warn, false⟩ → s.alc.warnCh.entries.length + bad.length ≤ 8 →
              ∀ f ∈ bad, (recordAt s.shu f).jammed = false →
                ∃ a ∈ t.alc.warnCh.entries, a.kind = .stationJam ∧ a.subject = some f)))
    ∧ (w.waiting ≠ [] → sweepTest s = s)
    ∧ (∀ m ∈ w.members, ¬ (m.fired = w.passes ∧ m.resolved = w.passes) → sweepTest s = s)
    ∧ ∀ (k : AlarmKind) (subject : Option Nat), s.alc.mapOf k = ⟨.stop, false⟩ →
      (∀ e ∈ s.alc.stopCh.entries, ¬ (e.kind = k ∧ e.subject = subject)) → s.alc.stopCh.entries.length < 8 →
      let t := post k subject s
      let done := w.members.filter (fun m => m.resolved == w.passes)
      t.shu.sweep = none ∧ t.csq.seq = .idle ∧ t.alc.effective = .stop
        ∧ t.shu.result = some ⟨.aborted, done.length, failing done, 0⟩
        ∧ t.shu.records = s.shu.records ∧ t.shu.subst = s.shu.subst
        ∧ (∃ e ∈ t.alc.stopCh.entries, e.kind = k ∧ e.subject = subject)
        ∧ (s.alc.mapOf .sweepDone = ⟨.note, false⟩ → s.alc.noteCh.entries.length < 8 →
          ∃ a ∈ t.alc.noteCh.entries, a.kind = .sweepDone ∧ a.subject = some SweepOutcome.aborted.code)
        ∧ (s.csq.exchange = .waiting → s.csq.commands.length = 96 →
          let commands := s.csq.commands.map (fun c => match c with
            | .test _ _ => .none
            | other => other)
          let empty := ∀ c ∈ commands, c = .none
          t.csq = { s.csq with
            seq := .idle, commands := commands
            ring := s.csq.commands.foldl (fun ring c => match c with
              | .test p _ => ring.set ((s.csq.base + p) % s.csq.ring.length) .empty
              | _ => ring) s.csq.ring
            exchange := if empty then .complete else .waiting
            cycle := if empty ∧ s.csq.cycle = .settle ∧ s.tpc.transfer = none then .rest else s.csq.cycle })
        ∧ (s.csq.exchange = .inFlight → t.csq = { s.csq with
            seq := .idle
            commands := s.csq.commands.map (fun c => match c with
              | .test p _ => .test p false
              | other => other) })
        ∧ (s.csq.exchange = .none ∨ s.csq.exchange = .complete → t.csq = { s.csq with seq := .idle })
        ∧ t = { s with
            lpu := t.lpu, alc := t.alc, csq := t.csq, shu := t.shu
            tpc := { s.tpc with restartDue := t.tpc.restartDue }, tbc := { s.tbc with restartDue := t.tbc.restartDue } }

/-! ### Tape, status and records -/

/-- R86, R83, R85, R14: TAPE CLEAR is refused while the head cycles or a commanded taping runs; otherwise every entry
of the Tape List ends LOST with a record, the tape is VERIFIED, the reel count of SEQUENCE ONLY is 0, a taping that
waits for the tape is commanded, and the head asks for an entry. What an ask of the head (`askPin`) does, and a new take
for an ask that stands (`retakeAsk`, R14), is stated with it; that an ask of the head makes no take while one stands is the
model's reading (log 18). -/
def Obligations.TapeClearRequest : Prop :=
  (∀ (tag : Byte) (s : State), Takes s →
    let busy := (s.hdc.head ≠ .idle ∧ s.hdc.head ≠ .fault)
      ∨ ∃ p, s.tpc.transfer = some ⟨.tape, p⟩ ∧ p ≠ .waitTape
    let n := s.tpc.tape.length
    let named := s.tpc.tape.any (fun e => s.tbc.inPosition == .entry e.entry.uid)
    let cleared := { s with
      hdc := { s.hdc with lost := s.hdc.lost + BitVec.ofNat 32 n }
      rrg := s.tpc.tape.foldl (fun g e => g.write
        ⟨.lost, e.entry.step, e.entry.panel, e.entry.image, e.entry.component, e.captured.station, none⟩) s.rrg
      tbc := { s.tbc with inPosition := if named then .none else s.tbc.inPosition }
      tpc := { s.tpc with
        tape := [], verified := true, reel := if s.mode = .sequenceOnly then 0 else s.tpc.reel }
      csq := { s.csq with seq := heldOf s.alc.effective (festoonFull s.tables []) s.csq.seq } }
    let full := s.tables.constants.taperTimeout
    let commanded := if s.tpc.transfer = some ⟨.tape, .waitTape⟩ then
        { cleared with
          tpc := { cleared.tpc with
            transfer := some ⟨.tape, if s.alc.estop = .asserted then .suspended else .running⟩
            timer := if s.alc.estop = .asserted then .suspended full else .running full }
          out := { s.out with reTaper := .start } }
      else cleared
    (busy → exec (.tapeClear tag) s = .next (answered 0x32 tag .busy [0] s))
    ∧ (¬ busy → exec (.tapeClear tag) s = .next (answered 0x32 tag .ok [byte n] (askPin commanded))))
  ∧ (∀ (s t : State) (o : Option Entry), take s = (t, o) →
    let asks := s.mode = .insertOnly ∧ s.tpc.tape = [] ∧ s.tpc.verified = true ∧ s.pin.ask = false
    (¬ asks → askPin s = s)
    ∧ (asks → o = none → askPin s = { t with pin := { t.pin with ask := true } })
    ∧ ∀ e, asks → o = some e → askPin s = { t with
        pin := { t.pin with ask := false }
        tpc := { t.tpc with tape := [⟨e, capturedOf s.tables e.component (componentAt s.tables e.component).station,
          knownBad s.mode s.tbc e.panel e.image⟩] }
        csq := { t.csq with seq := heldOf s.alc.effective false s.csq.seq } })
  ∧ ∀ (s t : State) (o : Option Entry), take s = (t, o) →
    (s.pin.ask = false → retakeAsk s = s)
    ∧ (s.pin.ask = true → o = none → retakeAsk s = t ∧ t.pin.ask = true)
    ∧ ∀ e, s.pin.ask = true → o = some e →
      let tape := s.tpc.tape ++ [⟨e, capturedOf s.tables e.component (componentAt s.tables e.component).station,
        knownBad s.mode s.tbc e.panel e.image⟩]
      retakeAsk s = { t with
        pin := { t.pin with ask := false }
        tpc := { t.tpc with tape := tape }
        csq := { t.csq with seq := heldOf s.alc.effective (festoonFull s.tables tape) s.csq.seq } }

/-- R167: STATUS answers the 83 bytes of the status record, field by field. R169, R170: RECORD READ answers with the
oldest records that fit into 232 bytes and marks them in transit; NEXT removes those in transit first; a write to the
ring removes the oldest records that leave no room and counts them lost; FLUSH writes its records from the queue's head to its
tail, the model's choice of order (log 43). PANEL LOAD (R127) wants a panel or is BUSY. -/
def Obligations.StatusRecordsAndPanelLoad : Prop :=
  (∀ (tag : Byte) (s : State), Takes s →
    let errors := fun (e : ErrorCounts) => be16 e.crc ++ be16 e.framing ++ be16 e.length
    let record :=
      [byte s.alc.requested.code, byte s.alc.effective.code] ++ [byte s.csq.seq.code, byte s.csq.cycle.code,
        byte s.hdc.head.code, byte s.tbc.panel.code] ++ [byte s.mode.code, flagByte s.tpc.verified]
      ++ [s.tbc.current, s.pin.takePanel]
      ++ [byte s.pin.queue.length, byte s.csq.window.length, byte s.tpc.tape.length]
      ++ [byte s.alc.stopCh.entries.length, byte s.alc.holdCh.entries.length, byte s.alc.warnCh.entries.length,
        byte s.alc.noteCh.entries.length]
      ++ be16 s.tpc.reel ++ be32 s.alc.ms.toNat
      ++ be32 s.hdc.inserted.toNat ++ be32 s.hdc.dumped.toNat ++ be32 s.pin.rejected.toNat ++ be32 s.hdc.lost.toNat
      ++ be32 s.hdc.aborted.toNat ++ be32 s.pin.flushed.toNat ++ be32 s.tpc.taped.toNat
      ++ be32 s.pin.taken.toNat ++ be32 s.tpc.rejectGate.toNat ++ errors s.lpu.errUp ++ errors s.lpu.errDown
      ++ be16 s.lpu.dropDown ++ be16 s.lpu.dropUp ++ be16 s.lpu.requestDrops ++ be16 s.lpu.noticeDrops
      ++ be16 s.rrg.records.length ++ be16 s.rrg.lost
    record.length = 83 ∧ exec (.status tag) s = .next (answered 0x42 tag .ok record s))
  ∧ (∀ (tag : Byte) (s : State), Takes s →
    let reads := fun (c : Instr) (kind : Byte) (u : State) => ∃ n, n ≤ u.rrg.records.length
      ∧ ringSize (u.rrg.records.take n) ≤ 232
      ∧ (n < u.rrg.records.length → 232 < ringSize (u.rrg.records.take (n + 1)))
      ∧ exec c s = .next (answered kind tag .ok
        ([byte n] ++ be16 (u.rrg.records.length - n) ++ be16 u.rrg.lost
          ++ (u.rrg.records.take n).flatMap ringBytesOf) { u with rrg := { u.rrg with inTransit := n } })
    reads (.recordReadStart tag) 0x43 s
    ∧ reads (.recordReadNext tag) 0x44
        { s with rrg := { s.rrg with records := s.rrg.records.drop s.rrg.inTransit, inTransit := 0 } }
    ∧ (s.tbc.panel = .empty → s.tbc.pattern.isSome = true → s.mode ≠ .sequenceOnly →
      exec (.panelLoad tag) s =
        .next (answered 0x24 tag .ok [] { s with tbc := { s.tbc with loadWanted := true } }))
    ∧ (s.tbc.panel ≠ .empty ∨ s.tbc.pattern = none ∨ s.mode = .sequenceOnly →
      exec (.panelLoad tag) s = .next (answered 0x24 tag .busy [] s)))
  ∧ (∀ r : RingRecord, (ringBytesOf r).length = if r.signature.isSome then 16 else 8)
  ∧ (∀ s : State, (flushQueue s).rrg = (s.pin.queue.filterMap (fun r => match r with
      | .placement p => some p
      | .boundary => none)).foldl
        (fun g p => g.write ⟨.flushed, p.step, s.pin.takePanel, p.image, p.component, 0, none⟩) s.rrg)
  ∧ ∀ (g : Rrg) (r : RingRecord), ∃ n, n ≤ g.records.length
      ∧ g.write r = ⟨g.records.drop n ++ [r], g.inTransit - n, satAdd 65535 g.lost n⟩
      ∧ ringSize (g.records.drop n ++ [r]) ≤ 8192
      ∧ ∀ m, m < n → 8192 < ringSize (g.records.drop m ++ [r])

/-! ### The chain -/

/-- R41, R43, R51: a step starts when its conditions hold; a step that runs out of time is abandoned with CHAIN JAM; an
exchange that waits is sent once the level has left STOP. -/
def Obligations.ChainStepsStartAndTimeOut : Prop :=
  ∀ (s : State),
    (s.csq.cycle = .rest → s.alc.effective ≠ .stop → s.csq.seq ∈ [.running, .sweeping, .purging] →
      ¬ (s.mode = .sequenceInsert ∧ s.tables.constants.festoon ≤ s.tpc.tape.length) → s.alc.estop = .released →
      exec .chainStepStart s = .next { s with
        csq := { s.csq with
          cycle := .step, abandoned := false, stepTimer := .running s.tables.constants.stepTimeout }
        out := { s.out with chainDrive := .start } })
    ∧ (s.csq.cycle = .step → s.csq.stepTimer = .running 0 → ∃ t, exec .chainStepTimeout s = .next t
      ∧ t.csq.cycle = .rest ∧ t.csq.abandoned = true ∧ t.csq.stepTimer = .stopped ∧ t.out.chainDrive = .stop
      ∧ t.csq.window = s.csq.window ∧ t.csq.fireLoad = s.csq.fireLoad ∧ t.csq.base = s.csq.base
      ∧ (s.shu.sweep = none → t.csq.ring = s.csq.ring)
      ∧ (s.alc.mapOf .chainJam = ⟨.stop, false⟩ → s.alc.stopCh.entries.length < 8 →
        (∃ e ∈ t.alc.stopCh.entries, e.kind = .chainJam ∧ e.subject = none)
        ∧ ((∀ e ∈ s.alc.stopCh.entries, ¬ (e.kind = .chainJam ∧ e.subject = none)) →
          t.alc.requested = .stop ∧ t.alc.effective = .stop
            ∧ (s.csq.seq = .held ∨ (s.csq.seq = .running ∧ s.alc.effective ≠ .stop) → s.shu.sweep = none →
              t.csq.seq = if s.csq.window = [] then .idle else .held))))
    ∧ (s.csq.exchange = .waiting → s.alc.effective ≠ .stop →
      exec .exchangeSend s = .next { s with csq := { s.csq with exchange := .inFlight } })

/-- R48: the station resolved for a component's station. R46, R47, R49: clip sense at SP by the clip's state; R69: a TEST clip
resolves a drop of its station's member that awaits sense, passed when present and failed when absent, and none where none
awaits it or no sweep runs;
assignment of the entering clip to the first UNASSIGNED entry, which is booked at its station when the fire load
allows, waits when it does not, is posted with NO STATION when no station resolves, and is REJECTED when its component
is no longer valid, with the next candidate, from the window or a take, in its place. That a LOADED clip found empty counts its miss before the cascade is the model's reading (log 16); that the
SP is the one that stands when the clip is sensed is its choice (log 50). -/
def Obligations.ClipSenseAndAssignment : Prop :=
  (∀ (t : Tables) (h : Shu) (c : Nat),
    let usableNow := fun (n : Nat) => fitted t n = true ∧ (recordAt h n).enabled = true
      ∧ (recordAt h n).jammed = false ∧ (recordAt h n).empty = false
    (∀ before e after, h.subst = before ++ e :: after → (∀ x ∈ before, x.failed ≠ c) → e.failed = c →
      (usableNow e.substitute → resolveStation t h c = some e.substitute)
      ∧ (¬ usableNow e.substitute → resolveStation t h c = none))
    ∧ ((∀ e ∈ h.subst, e.failed ≠ c) →
      (usableNow c → resolveStation t h c = some c) ∧ (¬ usableNow c → resolveStation t h c = none)))
  ∧ ∀ (s : State),
    let sp := s.tables.constants.sensePos
    let last := s.csq.ring.length - 1
    let becomes := fun (p : Nat) (c : ClipState) =>
      { s with csq := { s.csq with ring := s.csq.ring.set ((s.csq.base + p) % s.csq.ring.length) c } }
    let sensed := fun (n : Nat) (passed : Bool) (t : State) => { t with shu := { t.shu with
      sweep := t.shu.sweep.map (fun w => { w with members := w.members.map (fun m =>
        if m.station = n ∧ 1 ≤ m.awaiting then
          { m with awaiting := m.awaiting - 1, resolved := m.resolved + 1, failed := m.failed || !passed }
        else m) }) } }
    (clipAt s.csq sp = .reject → ∀ b, clipSense b s = s)
    ∧ (clipAt s.csq sp = .empty → clipSense false s = s
      ∧ clipSense true s = post .strayPart (some sp) (becomes sp .reject))
    ∧ (clipAt s.csq sp = .unknown → clipSense false s = becomes sp .empty ∧ clipSense true s = becomes sp .reject)
    ∧ (∀ w c, clipAt s.csq sp = .loaded → entryAt s.csq sp = some w → w.captured = some c → 1 ≤ c.station →
      clipSense true s = { s with shu := { s.shu with
        records := s.shu.records.modify (c.station - 1) (fun r => { r with consecutive := 0 }) } }
      ∧ clipSense false s = missCascade [w.entry.uid] (countedMiss c.station (becomes sp .empty)))
    ∧ (∀ n, clipAt s.csq sp = .test n →
      clipSense true s = sweepTest (sensed n true s) ∧ clipSense false s = sweepTest (sensed n false (becomes sp .empty)))
    ∧ (∀ before w after, s.csq.window = before ++ w :: after → (∀ v ∈ before, v.status ≠ .unassigned) →
      w.status = .unassigned →
      let k := w.entry.component
      let c := (componentAt s.tables k).station
      (componentValid s.tables k = true →
        (resolveStation s.tables s.shu c = none → assignEntering s = post .noStation (some k) s)
        ∧ ∀ r m, resolveStation s.tables s.shu c = some r →
          let d := last - dropPosition s.tables r
          s.csq.fireLoad[d]? = some m →
          (s.tables.constants.fireLimit ≤ m → assignEntering s = s)
          ∧ (m < s.tables.constants.fireLimit → assignEntering s = { s with
              csq := { s.csq with
                ring := s.csq.ring.set ((s.csq.base + last) % s.csq.ring.length) .reserved
                fireLoad := s.csq.fireLoad.set d (m + 1)
                window := s.csq.window.map (fun v => if v.entry.uid = w.entry.uid then
                  { v with status := .reserved, clip := some last, captured := some (capturedOf s.tables k r) }
                  else v) }
              shu := { s.shu with subst := s.shu.subst.map (fun e =>
                if e.failed = c then { e with served := satInc 65535 e.served } else e) } }))
      ∧ (componentValid s.tables k = false → (∀ v ∈ after, v.status ≠ .unassigned) → s.pin.queue = [] →
        assignEntering s = { s with
          csq := { s.csq with window := s.csq.window.filter (fun v => v.entry.uid != w.entry.uid) }
          pin := { s.pin with rejected := s.pin.rejected + 1 }
          rrg := s.rrg.write
            ⟨.rejected, w.entry.step, w.entry.panel, w.entry.image, w.entry.component, 0, none⟩ })
      ∧ (componentValid s.tables k = false → (s.csq.window.map (·.entry.uid)).Nodup →
        assignEntering s = assignEntering { s with
          csq := { s.csq with window := before ++ after }
          pin := { s.pin with rejected := s.pin.rejected + 1 }
          rrg := s.rrg.write
            ⟨.rejected, w.entry.step, w.entry.panel, w.entry.image, w.entry.component, 0, none⟩ }))
    ∧ ∀ t o, (∀ v ∈ s.csq.window, v.status ≠ .unassigned) → take s = (t, o) →
      (o = none → assignEntering s = t)
      ∧ ∀ e, o = some e → assignEntering s =
          assignEntering { t with csq := { t.csq with window := t.csq.window ++ [newWindowEntry e] } }

/-- R42, R45, R50, R54, R75: an index event of a step, or of one abandoned, runs the works of the event in order; three whole
events are written out: a step whose slot stays empty and whose cycle is at once back in REST, one that starts a dump, and one
that brings the LOADED clip of the only entry to verified tape and starts its taping, with nothing to assign. The
hand-over of a clip is written out for every state of the clip, the tape and the E-stop line: taping waits for VERIFIED tape, and
what is commanded under E-stop is SUSPENDED with the full time. Outside a step an index event does nothing. The model's choices in
it: the SP is the one that stands at the event (log 50), and the event and its transfer action are the same in INSERT ONLY, for
a step under way at a change of the mode (logs 51, 52). -/
def Obligations.IndexEvents : Prop :=
  ∀ (present : Bool) (s : State),
    let base := (s.csq.base + 1) % s.csq.ring.length
    let moved := { s.csq with
      base := base, fireLoad := s.csq.fireLoad.drop 1 ++ [0], stepTimer := .stopped, abandoned := false
      cycle := .settle, window := s.csq.window.map (fun w => { w with clip := w.clip.map (· - 1) }) }
    let noCommands := fun (q : Csq) =>
      { q with exchange := .complete, commands := List.replicate 96 .none, replies := List.replicate 96 .silent }
    let inStep := s.csq.cycle = .step ∨ (s.csq.cycle = .rest ∧ s.csq.abandoned = true)
    let sensed := clipAt moved s.tables.constants.sensePos = .reject
      ∨ (clipAt moved s.tables.constants.sensePos = .empty ∧ present = false)
    let quiet := s.csq.window = [] ∧ (s.csq.seq = .idle ∨ (s.csq.seq = .purging ∧ .unknown ∈ s.csq.ring))
    let held := s.alc.estop = .asserted
    let full := s.tables.constants.taperTimeout
    let starts := fun (op : TransferOp) (out : Outputs) (t : State) => { t with
      tpc := { t.tpc with
        transfer := some ⟨op, if held then .suspended else .running⟩
        timer := if held then .suspended full else .running full }
      out := out }
    let taken := { s with csq := { s.csq with window := s.csq.window.map (fun w =>
      if w.status = .loaded ∧ w.clip = some 0 then { w with status := .taping } else w) } }
    (¬ inStep → exec (.chainIndexEvent present) s = .next s)
    ∧ (inStep → exec (.chainIndexEvent present) s = .next (settleTest (buildExchange (assignStep (handOver
        (purgeTest (clipSense present { s with csq := moved })))))))
    ∧ (inStep → sensed → quiet → clipAt moved 0 = .empty → s.tpc.transfer = none →
      exec (.chainIndexEvent present) s = .next { s with csq := { noCommands moved with cycle := .rest } })
    ∧ (inStep → sensed → quiet → clipAt moved 0 = .reject ∨ clipAt moved 0 = .unknown → s.alc.estop = .released →
      exec (.chainIndexEvent present) s = .next { s with
        csq := noCommands moved
        tpc := { s.tpc with
          transfer := some ⟨.dump, .running⟩, timer := .running s.tables.constants.taperTimeout }
        out := { s.out with gate := .start } })
    ∧ (∀ w, inStep → sensed → s.csq.seq = .running ∨ s.csq.seq = .held → s.csq.window = [w] → w.status = .loaded →
      w.clip = some 1 → clipAt moved 0 = .loaded → s.pin.queue = [] → s.tpc.verified = true → s.alc.estop = .released →
      exec (.chainIndexEvent present) s = .next { s with
        csq := { noCommands moved with window := [{ w with clip := some 0, status := .taping }] }
        tpc := { s.tpc with
          transfer := some ⟨.tape, .running⟩, timer := .running s.tables.constants.taperTimeout }
        out := { s.out with reTaper := .start } })
    ∧ (clipAt s.csq 0 = .loaded →
      (s.tpc.verified = true → handOver s = starts .tape { s.out with reTaper := .start } taken)
      ∧ (s.tpc.verified = false →
        handOver s = { taken with tpc := { s.tpc with transfer := some ⟨.tape, .waitTape⟩ } }))
    ∧ (clipAt s.csq 0 = .reject ∨ clipAt s.csq 0 = .unknown ∨ (∃ n, clipAt s.csq 0 = .test n) →
      handOver s = starts .dump { s.out with gate := .start } s)
    ∧ (clipAt s.csq 0 = .empty → handOver s = s)

/-- R50, R51: the exchange built: FIRE for every fitted station whose drop position holds a RESERVED clip of an entry captured
for it; sent at once, left to wait under STOP, or COMPLETE with nothing to say. R50, R68: in SWEEPING, with the window empty as
it then is, TEST for every member of the group that is due and whose drop position holds an EMPTY clip; the clip becomes TEST,
its passes fired go up, and a group that has fired all its passes makes way for the next. -/
def Obligations.ExchangeIsBuilt : Prop :=
  (∀ (s : State), s.csq.seq ≠ .sweeping →
    let q := (buildExchange s).csq
    buildExchange s = { s with csq := { s.csq with
      commands := q.commands, replies := List.replicate 96 .silent, exchange := q.exchange } }
    ∧ q.commands.length = 96
    ∧ (∀ n uid, 1 ≤ n → n ≤ 96 → (q.commands[n - 1]? = some (.fire uid) ↔
        ∃ w c, entryAt s.csq (dropPosition s.tables n) = some w ∧ w.entry.uid = uid ∧ w.captured = some c
          ∧ c.station = n ∧ fitted s.tables n = true ∧ clipAt s.csq (dropPosition s.tables n) = .reserved))
    ∧ (∀ c ∈ q.commands, c = .none ∨ ∃ uid, c = .fire uid)
    ∧ q.exchange = (if q.commands = List.replicate 96 .none then .complete
        else if s.alc.effective = .stop then .waiting else .inFlight))
  ∧ ∀ (s : State) (w : Sweep), s.csq.seq = .sweeping → s.shu.sweep = some w → s.csq.window = [] →
    let drop := dropPosition s.tables
    let due := (List.range' 1 96).filter (fun n => decide (n ∈ w.current ∧ fitted s.tables n = true
      ∧ clipAt s.csq (drop n) = .empty ∧ ∃ m ∈ w.members, m.station = n ∧ m.fired < w.passes))
    let members := w.members.map (fun m => if m.station ∈ due then { m with fired := m.fired + 1 } else m)
    buildExchange s = { s with
      csq := { s.csq with
        commands := (List.range' 1 96).map (fun n => if n ∈ due then .test (drop n) true else .none)
        replies := List.replicate 96 .silent
        ring := due.foldl (fun r n => r.set ((s.csq.base + drop n) % s.csq.ring.length) (.test n)) s.csq.ring
        exchange := if due = [] then .complete else if s.alc.effective = .stop then .waiting else .inFlight }
      shu := { s.shu with sweep := some (
        if w.waiting ≠ [] ∧ ∀ m ∈ members, m.fired = w.passes then { w with
          members := members ++ (w.waiting.take w.group).map (⟨·, 0, 0, 0, false⟩)
          current := w.waiting.take w.group, waiting := w.waiting.drop w.group }
        else { w with members := members }) } }

/-- R45, R52, R53, R57 to R59, R69: an exchange completes: the replies are applied slot by slot, one miss cascade follows,
then the reports in station order, the test for the end of the sweep and the end of the cycle; a completion with no exchange
in flight does nothing, and the window keeps its order whatever the replies. What one slot's reply does to its clip and entry,
and what its report does, is written out for every command and every reply (R72: a TEST slot of a sweep that has ended counts in
the fires and the flags and judges nothing); so is a whole exchange with one FIRE slot, for a
RESERVED clip and for one unwound since. The model's choices in it: the alarm of a TEST slot before its pass (log 46), a clip
that is TEST no more left as it is (log 36). -/
def Obligations.ExchangeCompletes : Prop :=
  (∀ (replies : List ReplySlot) (s : State),
    let heard := fun (n : Nat) => ReplySlot.reply (replies.getD (n - 1) .unfilled)
    let slots := (List.range' 1 96).map (fun n => (n, s.csq.commands.getD (n - 1) .none, heard n))
    let closed := { s with csq := { s.csq with exchange := .complete, replies := (List.range' 1 96).map heard } }
    (s.csq.exchange ≠ .inFlight → exec (.exchangeComplete replies) s = .next s)
    ∧ (∀ t missed, s.csq.exchange = .inFlight → slots.foldl applyReply (closed, []) = (t, missed) →
      exec (.exchangeComplete replies) s =
        .next (settleTest (sweepTest (slots.foldl reportSlot (missCascade missed t)))))
    ∧ ∃ t, exec (.exchangeComplete replies) s = .next t
      ∧ t.csq.window.map (·.entry.uid) = s.csq.window.map (·.entry.uid))
  ∧ (∀ (s : State) (missed : List Nat) (n : Nat) (r : Reply),
    let p := dropPosition s.tables n
    let clip := fun (p : Nat) (c : ClipState) (t : State) =>
      { t with csq := { t.csq with ring := t.csq.ring.set ((t.csq.base + p) % t.csq.ring.length) c } }
    let drop := r = .dropped ∨ r = .droppedLow
    let booked := fun (uid : Nat) => ∃ w, entryAt s.csq p = some w ∧ w.entry.uid = uid ∧ w.status = .reserved
      ∧ clipAt s.csq p = .reserved
    applyReply (s, missed) (n, .none, r) = (s, missed)
    ∧ (∀ uid, booked uid →
      (drop → applyReply (s, missed) (n, .fire uid, r) = (clip p .loaded { s with csq := { s.csq with
        window := s.csq.window.map (fun v => if v.entry.uid = uid then { v with status := .loaded } else v) } }, missed))
      ∧ (¬ drop → applyReply (s, missed) (n, .fire uid, r) = (clip p .empty s, missed ++ [uid])))
    ∧ (∀ uid, ¬ booked uid →
      (drop → applyReply (s, missed) (n, .fire uid, r) = (clip p .reject s, missed))
      ∧ (¬ drop → applyReply (s, missed) (n, .fire uid, r) = (s, missed)))
    ∧ ∀ q j, (clipAt s.csq q = .test n →
        (drop → applyReply (s, missed) (n, .test q j, r) = (s, missed))
        ∧ (¬ drop → applyReply (s, missed) (n, .test q j, r) = (clip q .empty s, missed)))
      ∧ (clipAt s.csq q ≠ .test n → applyReply (s, missed) (n, .test q j, r) = (s, missed)))
  ∧ (∀ (s : State) (n uid q : Nat) (r : Reply), 1 ≤ n →
    let counted := fun (f : StationRecord → StationRecord) => { s with shu := { s.shu with
      records := s.shu.records.modify (n - 1) (fun x => f { x with fires := x.fires + 1 }) } }
    let fired := counted id
    let low := post .reelLow (some n) (counted ({ · with low := true }))
    let declared := post .stationEmpty (some n) (counted ({ · with empty := true }))
    let noMore := if (recordAt s.shu n).empty = true then post .stationEmpty (some n) fired
      else attemptSubstitution n (if usable s.tables s.shu n = true then { declared with
          shu := { declared.shu with subst := declared.shu.subst.filter (fun e => e.substitute != n) }
          csq := { declared.csq with unusable := declared.csq.unusable ++ [n] } }
        else declared)
    let member := fun (f : SweepMember → SweepMember) (t : State) => { t with shu := { t.shu with
      sweep := t.shu.sweep.map (fun w => { w with
        members := w.members.map (fun m => if m.station = n then f m else m) }) } }
    let awaits := member (fun m => { m with awaiting := m.awaiting + 1 })
    let fails := member (fun m => { m with resolved := m.resolved + 1, failed := true })
    reportSlot s (n, .none, r) = s
    ∧ reportSlot s (n, .fire uid, .dropped) = fired
    ∧ reportSlot s (n, .test q true, .dropped) = awaits fired ∧ reportSlot s (n, .test q false, .dropped) = fired
    ∧ reportSlot s (n, .fire uid, .droppedLow) = low
    ∧ reportSlot s (n, .test q true, .droppedLow) = awaits low ∧ reportSlot s (n, .test q false, .droppedLow) = low
    ∧ (r = .noPart ∨ r = .fault ∨ r = .silent →
      reportSlot s (n, .fire uid, r) = countedMiss n fired
      ∧ reportSlot s (n, .test q true, r) = fails fired ∧ reportSlot s (n, .test q false, r) = fired)
    ∧ reportSlot s (n, .fire uid, .empty) = noMore
    ∧ reportSlot s (n, .test q true, .empty) = fails noMore ∧ reportSlot s (n, .test q false, .empty) = noMore)
  ∧ ∀ (n uid : Nat) (w : WindowEntry) (s : State), 1 ≤ n → n ≤ 96 → s.csq.exchange = .inFlight →
    s.csq.commands = (List.replicate 96 .none).set (n - 1) (.fire uid) → s.shu.sweep = none →
    let p := dropPosition s.tables n
    let replyOf := fun (r : ReplySlot) => (List.replicate 96 .unfilled).set (n - 1) r
    let closed := fun (r : ReplySlot) (ring : List ClipState) (window : List WindowEntry) => { s with
      csq := { s.csq with
        exchange := .complete, replies := (List.replicate 96 .silent).set (n - 1) (ReplySlot.reply r)
        ring := ring, window := window } }
    let fires := fun (t : State) => { t with shu := { t.shu with
      records := t.shu.records.modify (n - 1) (fun x => { x with fires := x.fires + 1 }) } }
    let ringWith := fun (c : ClipState) => s.csq.ring.set ((s.csq.base + p) % s.csq.ring.length) c
    (entryAt s.csq p = some w → w.entry.uid = uid → w.status = .reserved → clipAt s.csq p = .reserved →
      exec (.exchangeComplete (replyOf .dropped)) s = .next (settleTest (fires (closed .dropped (ringWith .loaded)
        (s.csq.window.map (fun v => if v.entry.uid = uid then { v with status := .loaded } else v)))))
      ∧ ∀ r, r ∈ [ReplySlot.noPart, .fault, .parityError, .unfilled] → exec (.exchangeComplete (replyOf r)) s =
        .next (settleTest (countedMiss n (fires (missCascade [uid] (closed r (ringWith .empty) s.csq.window))))))
    ∧ (entryAt s.csq p = none →
      exec (.exchangeComplete (replyOf .dropped)) s =
        .next (settleTest (fires (closed .dropped (ringWith .reject) s.csq.window))))

/-- R35: a miss cascade: the missed entries' tries count; the first of them and every entry after it that holds a clip are
unwound, one clip after another, and are UNASSIGNED again with no clip, in their places; PLACEMENT RETRY is posted for each
past the retry limit (in window order: the model's choice, log 44). What becomes of one clip: a LOADED clip is REJECT, a
RESERVED one EMPTY with its fire taken back: from its fire load counter, from counter 0 when its exchange is not built yet or
is past, with its command from an exchange that waits (R51), and not at all from one IN FLIGHT. The cascade of one missed
entry, last in the window or not, is written out. -/
def Obligations.MissCascade : Prop :=
  (∀ (s : State) (missed : List Nat) (before : List WindowEntry) (w : WindowEntry) (after : List WindowEntry),
    s.csq.window = before ++ w :: after → (∀ v ∈ before, v.entry.uid ∉ missed) → w.entry.uid ∈ missed →
    let counted := fun (v : WindowEntry) =>
      if v.entry.uid ∈ missed then { v with tries := satInc 7 v.tries } else v
    let unwound : List WindowEntry := (w :: after).map counted
    let freed : State := (unwound.filter (fun v => v.status != .unassigned)).foldl (fun t v => releaseClip v t)
      { s with csq := { s.csq with window := before ++ unwound } }
    let t : State := { freed with csq := { freed.csq with
      window := before ++ unwound.map (fun v => { v with status := .unassigned, clip := none }) } }
    missCascade missed s = (t.csq.window.filter (fun v =>
      decide (v.entry.uid ∈ missed ∧ s.tables.constants.retryLimit < v.tries))).foldl
        (fun t v => post .placementRetry (some v.entry.step.toNat) t) t)
  ∧ (∀ (s : State) (v : WindowEntry) (p : Nat) (c : Captured),
    let ringWith := fun (x : ClipState) => s.csq.ring.set ((s.csq.base + p) % s.csq.ring.length) x
    let emptied := { s.csq with ring := ringWith .empty }
    let less := fun (d : Nat) => { emptied with fireLoad := s.csq.fireLoad.modify d (· - 1) }
    let d := p - dropPosition s.tables c.station
    let withdrawn := { less 0 with commands := s.csq.commands.set (c.station - 1) .none }
    (v.clip = none → releaseClip v s = s)
    ∧ (v.clip = some p → clipAt s.csq p = .loaded →
      releaseClip v s = { s with csq := { s.csq with ring := ringWith .reject } })
    ∧ (v.clip = some p → clipAt s.csq p ≠ .loaded → clipAt s.csq p ≠ .reserved → releaseClip v s = s)
    ∧ (v.clip = some p → clipAt s.csq p = .reserved → v.captured = some c →
      (1 ≤ d → releaseClip v s = { s with csq := less d })
      ∧ (d = 0 → s.csq.exchange = .none ∨ s.csq.exchange = .complete → releaseClip v s = { s with csq := less 0 })
      ∧ (d = 0 → s.csq.exchange = .inFlight → releaseClip v s = { s with csq := emptied })
      ∧ (d = 0 → s.csq.exchange = .waiting →
        ((∃ x ∈ withdrawn.commands, x ≠ .none) → releaseClip v s = { s with csq := withdrawn })
        ∧ ((∀ x ∈ withdrawn.commands, x = .none) →
          releaseClip v s = settleTest { s with csq := { withdrawn with exchange := .complete } }))))
  ∧ ∀ (s : State) (before : List WindowEntry) (w : WindowEntry) (after : List WindowEntry),
    s.csq.window = before ++ w :: after → (s.csq.window.map (·.entry.uid)).Nodup →
    let missed := { w with tries := satInc 7 w.tries }
    let t := missCascade [w.entry.uid] s
    t.csq.window = before ++ (missed :: after).map (fun v => { v with status := .unassigned, clip := none })
    ∧ (s.tables.constants.retryLimit < missed.tries → s.alc.mapOf .placementRetry = ⟨.stop, false⟩ →
      s.alc.stopCh.entries.length < 8 →
      ∃ e ∈ t.alc.stopCh.entries, e.kind = .placementRetry ∧ e.subject = some w.entry.step.toNat)
    ∧ (missed.tries ≤ s.tables.constants.retryLimit → t.alc = s.alc)
    ∧ (after = [] → missed.tries ≤ s.tables.constants.retryLimit → w.status = .reserved ∨ w.status = .loaded →
      ∀ p c, w.clip = some p → w.captured = some c →
      let d := p - dropPosition s.tables c.station
      (clipAt s.csq p = .empty →
        t = { s with csq := { s.csq with window := t.csq.window } })
      ∧ (clipAt s.csq p = .loaded → t = { s with csq := { s.csq with
          window := t.csq.window, ring := s.csq.ring.set ((s.csq.base + p) % s.csq.ring.length) .reject } })
      ∧ (clipAt s.csq p = .reserved → 1 ≤ d → t = { s with csq := { s.csq with
          window := t.csq.window, fireLoad := s.csq.fireLoad.modify d (· - 1)
          ring := s.csq.ring.set ((s.csq.base + p) % s.csq.ring.length) .empty } }))

/-- R10, R36, R37, R84, R95, R133: what waits for a block is taken, oldest first: a notice of an unusable station
unwinds its RESERVED entries; a marking notice leaves PIN's queue alone, rejects or marks window entries (a RESERVED one with
its booked fire, as R35 step 2 has it), marks Tape List entries but the one in the head, and turns a cycle that waits for the
table to a dump. A marking notice that names several window entries has each of these effects for each of them (their records in
window order: log 45), and the sequencer goes IDLE when it leaves an empty window at requested STOP in REST (R38). -/
def Obligations.NoticesAreTaken : Prop :=
  ∀ (s : State) (n : Nat) (rest : List Nat) (m : MarkNotice) (more : List MarkNotice),
    let booked := fun (v : WindowEntry) => v.status = .reserved ∧ v.captured.map Captured.station = some n
    let hits := fun (e : Entry) => e.panel = m.panel ∧ e.image = m.image
    (s.csq.unusable = n :: rest → (∀ v ∈ s.csq.window, ¬ booked v) →
      exec .unusableStationCascade s = .next { s with csq := { s.csq with unusable := rest } })
    ∧ (∀ before w after, s.csq.unusable = n :: rest → s.csq.window = before ++ w :: after →
      (∀ v ∈ before, ¬ booked v) → booked w → (s.csq.window.map (·.entry.uid)).Nodup →
      ∃ t, exec .unusableStationCascade s = .next t ∧ t.csq.unusable = rest ∧ t.alc = s.alc ∧ t.shu = s.shu
        ∧ t.csq.window = before ++ (w :: after).map (fun v => { v with status := .unassigned, clip := none })
        ∧ (after = [] → ∀ p, w.clip = some p → clipAt s.csq p = .reserved → 1 ≤ p - dropPosition s.tables n →
          t.csq = { s.csq with
            unusable := rest, window := t.csq.window
            ring := s.csq.ring.set ((s.csq.base + p) % s.csq.ring.length) .empty
            fireLoad := s.csq.fireLoad.modify (p - dropPosition s.tables n) (· - 1) }))
    ∧ (s.pin.marks = m :: more →
      exec .markingNoticePin s = .next { s with pin := { s.pin with marks := more } })
    ∧ (s.csq.marks = m :: more → s.csq.window ≠ [] → (∀ v ∈ s.csq.window, ¬ hits v.entry) →
      exec .markingNoticeCsq s = .next { s with csq := { s.csq with marks := more } })
    ∧ (s.csq.marks = m :: more → (s.csq.window.map (·.entry.uid)).Nodup →
      let named := fun (v : WindowEntry) => v.entry.panel == m.panel && v.entry.image == m.image
      let gone := s.csq.window.filter (fun v => named v && v.status != .taping)
      let kept := (s.csq.window.filter (fun v => !(named v && v.status != .taping))).map (fun v =>
        if named v then { v with discard := true } else v)
      let freed := gone.foldl (fun t v => releaseClip v t) { s with csq := { s.csq with marks := more } }
      let idles := (s.csq.seq = .running ∨ s.csq.seq = .held) ∧ s.alc.requested = .stop ∧ kept = []
        ∧ freed.csq.cycle = .rest
      exec .markingNoticeCsq s = .next { s with
        csq := { freed.csq with window := kept, seq := if idles then .idle else s.csq.seq }
        pin := { s.pin with rejected := s.pin.rejected + BitVec.ofNat 32 gone.length }
        rrg := gone.foldl (fun g v => g.write ⟨.rejected, v.entry.step, v.entry.panel, v.entry.image, v.entry.component,
          (v.captured.map Captured.station).getD 0, none⟩) s.rrg })
    ∧ (∀ before w after, s.csq.marks = m :: more → s.csq.window = before ++ w :: after → before ++ after ≠ [] →
      (s.csq.window.map (·.entry.uid)).Nodup → (∀ v ∈ before ++ after, ¬ hits v.entry) → hits w.entry →
      (w.status = .taping → exec .markingNoticeCsq s = .next { s with csq := { s.csq with
          marks := more, window := before ++ { w with discard := true } :: after } })
      ∧ (∀ ring, (w.clip = none ∧ ring = s.csq.ring ∨ ∃ p, w.clip = some p ∧ clipAt s.csq p = .loaded
          ∧ ring = s.csq.ring.set ((s.csq.base + p) % s.csq.ring.length) .reject) → w.status ≠ .taping →
        exec .markingNoticeCsq s = .next { s with
          csq := { s.csq with marks := more, ring := ring, window := before ++ after }
          pin := { s.pin with rejected := s.pin.rejected + 1 }
          rrg := s.rrg.write ⟨.rejected, w.entry.step, w.entry.panel, w.entry.image, w.entry.component,
            (w.captured.map Captured.station).getD 0, none⟩ })
      ∧ (∀ p c, w.status = .reserved → w.clip = some p → w.captured = some c → clipAt s.csq p = .reserved →
        let d := p - dropPosition s.tables c.station
        let rejected := fun (fireLoad : List Nat) (q : Csq) => { s with
          csq := { q with
            marks := more, window := before ++ after, fireLoad := fireLoad
            ring := s.csq.ring.set ((s.csq.base + p) % s.csq.ring.length) .empty }
          pin := { s.pin with rejected := s.pin.rejected + 1 }
          rrg := s.rrg.write ⟨.rejected, w.entry.step, w.entry.panel, w.entry.image, w.entry.component, c.station, none⟩ }
        let commands := s.csq.commands.set (c.station - 1) .none
        let settled := s.csq.cycle = .settle ∧ s.tpc.transfer = none
        (1 ≤ d → exec .markingNoticeCsq s = .next (rejected (s.csq.fireLoad.modify d (· - 1)) s.csq))
        ∧ (d = 0 → s.csq.exchange = .inFlight → exec .markingNoticeCsq s = .next (rejected s.csq.fireLoad s.csq))
        ∧ (d = 0 → s.csq.exchange = .none ∨ s.csq.exchange = .complete →
          exec .markingNoticeCsq s = .next (rejected (s.csq.fireLoad.modify 0 (· - 1)) s.csq))
        ∧ (d = 0 → s.csq.exchange = .waiting → exec .markingNoticeCsq s =
          .next (rejected (s.csq.fireLoad.modify 0 (· - 1)) { s.csq with
            commands := commands
            exchange := if ∀ x ∈ commands, x = .none then .complete else .waiting
            cycle := if (∀ x ∈ commands, x = .none) ∧ settled then .rest else s.csq.cycle }))))
    ∧ (s.tpc.marks = m :: more →
      let marked := fun (e : TapeEntry) => e.entry.panel == m.panel && e.entry.image == m.image
        && (s.hdc.cycle.bind HeadCycle.entry).map (·.entry.uid) != some e.entry.uid
      let named := s.tpc.tape.any (fun e => marked e && s.tbc.inPosition == .entry e.entry.uid)
      exec .markingNoticeTpc s = .next { s with
        tpc := { s.tpc with
          marks := more, tape := s.tpc.tape.map (fun e => if marked e then { e with discard := true } else e) }
        tbc := { s.tbc with inPosition := if named then .none else s.tbc.inPosition } })
    ∧ (∀ c e, s.hdc.marks = m :: more → s.hdc.head = .waitTable → s.hdc.cycle = some c → c.entry = some e →
      hits e.entry → exec .markingNoticeHdc s = .next { s with
        hdc := { s.hdc with
          marks := more, head := .eject, timer := .running s.tables.constants.headTimeout
          cycle := some { c with kind := .dump } }
        out := { s.out with cam := .phase .eject } })
    ∧ (s.hdc.marks = m :: more →
      s.hdc.head ≠ .waitTable ∨ (∀ c e, s.hdc.cycle = some c → c.entry = some e → ¬ hits e.entry) →
      exec .markingNoticeHdc s = .next { s with hdc := { s.hdc with marks := more } })

/-! ### The taper -/

/-- R54, R75 to R79: the end of a taping hands the front of the window to the Tape List, or ends it TAPED in SEQUENCE
ONLY; the end of a dump counts at the reject gate and tests the end of a purge; both empty the clip at 0 and end the
cycle when the exchange is complete, with R38's test for IDLE at requested STOP. An operation that runs out of time stops with TAPER JAM and is commanded anew
when the level has left STOP. -/
def Obligations.TaperEvents : Prop :=
  ∀ (s : State) (op : TransferOp) (p : TransferPhase),
    let ring := s.csq.ring.set (s.csq.base % s.csq.ring.length) .empty
    let ended := { s.tpc with transfer := none, timer := .stopped, restartDue := false }
    let settles := s.csq.cycle = .settle ∧ s.csq.exchange = .complete
    let cycle := if settles then .rest else s.csq.cycle
    let seqAfter := fun (q : SeqState) (window : List WindowEntry) =>
      if q = .purging ∧ .unknown ∉ ring then .idle
      else if (q = .running ∨ q = .held) ∧ settles ∧ s.alc.requested = .stop ∧ window = [] then .idle
      else q
    let line := fun (c : LineCommand) => match op with
      | .tape => { s.out with reTaper := c }
      | .dump => { s.out with gate := c }
    let full := s.tables.constants.taperTimeout
    (∀ w rest k, s.tpc.transfer = some ⟨.tape, p⟩ → p ≠ .waitTape → s.csq.window = w :: rest → w.captured = some k →
      (s.mode ≠ .sequenceOnly →
        let tape := s.tpc.tape ++
          [⟨w.entry, k, w.discard || knownBad s.mode s.tbc w.entry.panel w.entry.image⟩]
        exec .tapedEvent s = .next { s with
          tpc := { ended with tape := tape }
          csq := { s.csq with
            ring := ring, window := rest, cycle := cycle
            seq := seqAfter (heldOf s.alc.effective (festoonFull s.tables tape) s.csq.seq) rest } })
      ∧ (s.mode = .sequenceOnly →
        exec .tapedEvent s = .next { s with
          tpc := { ended with taped := s.tpc.taped + 1, reel := satInc 65535 s.tpc.reel }
          rrg := s.rrg.write
            ⟨.taped, w.entry.step, w.entry.panel, w.entry.image, w.entry.component, k.station, none⟩
          csq := { s.csq with ring := ring, window := rest, cycle := cycle, seq := seqAfter s.csq.seq rest } }))
    ∧ (s.tpc.transfer = none ∨ s.tpc.transfer.map Transfer.op = some .dump
        ∨ s.tpc.transfer = some ⟨.tape, .waitTape⟩ → exec .tapedEvent s = .next s)
    ∧ (s.tpc.transfer = some ⟨.dump, p⟩ → exec .dumpEvent s = .next { s with
        tpc := { ended with rejectGate := s.tpc.rejectGate + 1 }
        csq := { s.csq with ring := ring, cycle := cycle, seq := seqAfter s.csq.seq s.csq.window } })
    ∧ (s.tpc.transfer = none ∨ s.tpc.transfer.map Transfer.op = some .tape → exec .dumpEvent s = .next s)
    ∧ (s.tpc.transfer = some ⟨op, .running⟩ → s.tpc.timer = .running 0 →
      exec .taperTimeout s = .next (post .taperJam none { s with
        tpc := { s.tpc with transfer := some ⟨op, .stalled⟩, timer := .stopped, restartDue := false }
        out := line .stop }))
    ∧ (s.tpc.transfer = some ⟨op, .stalled⟩ → s.tpc.restartDue = true → s.alc.effective ≠ .stop →
      exec .taperRestart s = .next { s with
        tpc := { s.tpc with
          restartDue := false
          transfer := some ⟨op, if s.alc.estop = .asserted then .suspended else .running⟩
          timer := if s.alc.estop = .asserted then .suspended full else .running full }
        out := line .start })

/-! ### The head -/

/-- R91, R92, R95, R102, R103: the starts of the head, each under its conditions, and the Skip button. -/
def Obligations.HeadStarts : Prop :=
  ∀ (s : State),
    let ready := s.hdc.head = .idle ∧ s.alc.effective = .run ∧ s.tpc.verified = true
    let cut := fun (k : CycleKind) (e : Option TapeEntry) => { s with
      hdc := { s.hdc with
        head := .cut, timer := .running s.tables.constants.headTimeout
        cycle := some ⟨k, e, false, none, none, false, false⟩ }
      out := { s.out with cam := .phase .cut } }
    (∀ e rest, s.tpc.tape = e :: rest → ready → s.hdc.skip = false → e.discard = false →
      e.entry.panel = s.tbc.current → s.tbc.panel = .ready → imageState s.tbc e.entry.image = .good →
      let span := s.hdc.span ≠ some e.captured.span
      let rotate := s.hdc.rotate ≠ some e.entry.orientation
      (¬ span → ¬ rotate → exec .insertCycleStart s = .next (cut .insert (some e)))
      ∧ (span ∨ rotate → exec .insertCycleStart s = .next { s with
          hdc := { s.hdc with
            head := .setup, timer := .running s.tables.constants.axisTimeout
            cycle := some ⟨.insert, some e, false, none, none, decide span, decide rotate⟩ }
          out := { s.out with
            spanAxis := if span then .target e.captured.span else s.out.spanAxis
            rotateAxis := if rotate then .target (if e.entry.orientation = .deg0 then 0 else 90)
              else s.out.rotateAxis } }))
    ∧ (∀ e rest, s.tpc.tape = e :: rest → ready → s.hdc.skip = false → e.discard = true →
      exec .dumpCycleStart s = .next (cut .dump (some e)))
    ∧ (s.mode = .insertOnly → ready → s.hdc.skip = true →
      exec .freeDumpCycleStart s = .next (cut .freeDump none))
    ∧ (s.hdc.head = .fault → s.alc.effective = .run → exec .homingStart s = .next { s with
        hdc := { s.hdc with head := .homing, timer := .running s.tables.constants.headTimeout }
        out := { s.out with cam := .phase .homing, spanAxis := .reference, rotateAxis := .reference } })
    ∧ (s.hdc.head ≠ .idle ∨ s.alc.effective = .run ∨ s.mode = .sequenceOnly
        ∨ (s.mode = .sequenceInsert ∧ s.tpc.tape = []) → exec .skipButton s = .next s)
    ∧ (s.hdc.head = .idle → s.alc.effective ≠ .run → s.mode = .insertOnly →
      exec .skipButton s = .next { s with hdc := { s.hdc with skip := true } })
    ∧ ∀ e rest, s.hdc.head = .idle → s.alc.effective ≠ .run → s.mode = .sequenceInsert → s.tpc.tape = e :: rest →
      exec .skipButton s = .next { s with
        tpc := { s.tpc with tape := { e with discard := true } :: rest }
        tbc := { s.tbc with
          inPosition := if s.tbc.inPosition = .entry e.entry.uid then .none else s.tbc.inPosition } }

/-- R89, R92, R94, R95, R96, R98, R102, R109: the head's phases, one event after another: an axis reports, CUT, FORM and
the DRIVE test, DRIVE and what CSU does at the clinch's begin, CLINCH, EJECT, and the end of homing. That the head waits for
the table also where condition 2 of R94 fails is the model's choice (log 30). -/
def Obligations.HeadPhases : Prop :=
  ∀ (s : State) (c : HeadCycle) (e : TapeEntry),
    let phase := fun (p : HeadState) (t : State) => { t with
      hdc := { t.hdc with head := p, timer := .running s.tables.constants.headTimeout }
      out := { t.out with cam := .phase p } }
    let withCycle := fun (x : HeadCycle) => { s with hdc := { s.hdc with cycle := some x } }
    (s.hdc.head = .setup → s.hdc.cycle = some c → c.entry = some e →
      let spanDone := { s with hdc := { s.hdc with
        span := some e.captured.span, cycle := some { c with spanDue := false } } }
      let rotateDone := { s with hdc := { s.hdc with
        rotate := some e.entry.orientation, cycle := some { c with rotateDue := false } } }
      (c.spanDue = true → exec (.axisInPosition .span) s =
        .next (if c.rotateDue then spanDone else phase .cut spanDone))
      ∧ (c.rotateDue = true → exec (.axisInPosition .rotate) s =
        .next (if c.spanDue then rotateDone else phase .cut rotateDone))
      ∧ (c.spanDue = false → exec (.axisInPosition .span) s = .next s)
      ∧ (c.rotateDue = false → exec (.axisInPosition .rotate) s = .next s))
    ∧ (s.hdc.head = .cut → exec .cutDone s = .next (phase .form s))
    ∧ (s.hdc.head = .form → s.hdc.cycle = some c → c.kind ≠ .insert → exec .formDone s = .next (phase .eject s))
    ∧ (s.hdc.head = .form → s.hdc.cycle = some c → c.kind = .insert → c.entry = some e →
      let marked := imageState s.tbc e.entry.image ≠ .good
      let there := e.entry.panel = s.tbc.current ∧ s.tbc.panel = .ready ∧ s.tbc.inPosition = .entry e.entry.uid
      (marked → exec .formDone s = .next (phase .eject (withCycle { c with kind := .dump })))
      ∧ (¬ marked → there → exec .formDone s = .next (phase .drive
          { s with hdc := { s.hdc with clear := false, cycle := some { c with driven := true } } }))
      ∧ (¬ marked → ¬ there → exec .formDone s =
          .next { s with hdc := { s.hdc with head := .waitTable, timer := .stopped } }))
    ∧ (s.hdc.head = .drive → s.hdc.cycle = some c → c.entry = some e →
      let clinching := fun (t : State) => phase .clinch { t with out := { t.out with clinch := some e.captured.form } }
      (e.captured.checkSkip = true → exec .driveDone s =
        .next (clinching (withCycle { c with verdict := some .unchecked, features := none })))
      ∧ ∀ p f, e.captured.checkSkip = false → s.csu.profiles[e.captured.profile]? = some (some p) →
        s.csu.filters[p.filterSet]? = some f →
        exec .driveDone s = .next (clinching { s with
          csu := { s.csu with
            silence := .running 2
            window := some ⟨e.entry.step, e.entry.panel, e.entry.image, e.captured.profile, p, f, []⟩ }
          out := { s.out with conversions := true } }))
    ∧ (s.hdc.head = .clinch →
      (s.csu.window = none → exec .clinchDone s = .next (phase .retract s))
      ∧ ∀ w, s.csu.window = some w → exec .clinchDone s = .next (enterPhase .retract (closeWindow w s)))
    ∧ (s.hdc.head = .eject → exec .ejectDone s = .next (phase .retract s))
    ∧ (s.hdc.head = .homing → exec .homeDone s = .next (askPin { s with hdc := { s.hdc with
        head := .idle, timer := .stopped, span := some 50, rotate := some .deg0, clear := true } }))

/-- R97, R98, R103, R125, R133: the head up in RETRACT ends the cycle: the front entry leaves the Tape List with its
outcome counted and recorded, its image's inserted count goes up, and the head is IDLE and asks; a free dump ends skip
pending. -/
def Obligations.HeadUp : Prop :=
  ∀ (s : State) (c : HeadCycle), s.hdc.head = .retract → s.hdc.cycle = some c →
    let idle := fun (h : Hdc) => { h with
      clear := s.hdc.clear || c.driven, cycle := none, head := .idle, timer := .stopped }
    (c.kind = .freeDump →
      exec .headUp s = .next (askPin { s with hdc := { idle s.hdc with skip := false } }))
    ∧ ∀ (e : TapeEntry) rest, c.entry = some e → s.tpc.tape = e :: rest →
      let left := { s with
        tpc := { s.tpc with tape := rest }
        csq := { s.csq with seq := heldOf s.alc.effective (festoonFull s.tables rest) s.csq.seq }
        tbc := { s.tbc with
          inPosition := if s.tbc.inPosition = InPosition.entry e.entry.uid then .none else s.tbc.inPosition } }
      let record := fun (o : RecordOutcome) (g : Option RecordSignature) => s.rrg.write
        ⟨o, e.entry.step, e.entry.panel, e.entry.image, e.entry.component, e.captured.station, g⟩
      (c.kind = .dump → exec .headUp s = .next (askPin { left with
        rrg := record .dumped none, hdc := { idle s.hdc with dumped := s.hdc.dumped + 1 } }))
      ∧ (c.kind = .insert →
        let g : Option RecordSignature := match c.verdict, c.features with
          | none, _ => none
          | some .unchecked, _ => none
          | some v, none => some ⟨v, 0, 0, 0, 0⟩
          | some v, some f => some ⟨v, f.peak, f.peakIndex, f.area, f.contact⟩
        let done := { left with
          rrg := record .inserted g, hdc := { idle s.hdc with inserted := s.hdc.inserted + 1 } }
        (e.entry.panel ≠ s.tbc.current → exec .headUp s = .next (askPin done))
        ∧ (e.entry.panel = s.tbc.current → exec .headUp s = .next (askPin { done with tbc := { done.tbc with
            images := s.tbc.images.modify (e.entry.image - 1)
              (fun r => { r with inserted := satInc 65535 r.inserted }) } })))

/-- R89, R92, R97, R100 to R102, R112, R125, R84: what ends a cycle, a SETUP or a homing early. SETUP out of time posts SPAN FAULT
and ends with no outcome: the axes commanded that had not reported UNKNOWN (an axis SETUP did not command keeps its value: the
model's choice, log 55), both halted, the front entry in its place with its mark tested anew; a phase out of time posts HEAD JAM
and aborts the cycle with the outcome of its phase, counted, recorded (INSERTED in RETRACT with the cycle's signature) and
told to the image's record, an open sample window abandoned with no verdict; homing out of time posts HEAD JAM and leaves the
axes UNKNOWN and the head not clear. The E-stop line asserted does the same without an alarm of the head's, in WAIT_TABLE too,
where the entry ends ABORTED; a head IDLE or in FAULT stays so. Each of them leaves the head in FAULT. -/
def Obligations.HeadAborts : Prop :=
  ∀ (s : State),
    let stands := fun (k : AlarmKind) (t : State) => s.alc.mapOf k = ⟨.stop, false⟩ → s.alc.stopCh.entries.length < 8 →
      (∃ a ∈ t.alc.stopCh.entries, a.kind = k ∧ a.subject = none)
        ∧ ((∀ a ∈ s.alc.stopCh.entries, ¬ (a.kind = k ∧ a.subject = none)) →
          t.alc.requested = .stop ∧ t.alc.effective = .stop)
    let faulted := { s.hdc with head := .fault, timer := .stopped, cycle := none }
    let afterSetup := fun (c : HeadCycle) => { faulted with
      span := if c.spanDue = true then none else s.hdc.span
      rotate := if c.rotateDue = true then none else s.hdc.rotate }
    let afterHoming := { s.hdc with head := .fault, timer := .stopped, span := none, rotate := none, clear := false }
    let counted := fun (o : RecordOutcome) => { faulted with
      inserted := s.hdc.inserted + (if o = .inserted then 1 else 0)
      dumped := s.hdc.dumped + (if o = .dumped then 1 else 0)
      lost := s.hdc.lost + (if o = .lost then 1 else 0)
      aborted := s.hdc.aborted + (if o = .aborted then 1 else 0) }
    let recorded := fun (o : RecordOutcome) (c : HeadCycle) (e : TapeEntry) => s.rrg.write
      ⟨o, e.entry.step, e.entry.panel, e.entry.image, e.entry.component, e.captured.station,
        if o = .inserted then signatureOf c else none⟩
    let told := fun (o : RecordOutcome) (e : TapeEntry) => if e.entry.panel ≠ s.tbc.current then s.tbc.images
      else s.tbc.images.modify (e.entry.image - 1) (fun r => { r with
        inserted := if o = .inserted then satInc 65535 r.inserted else r.inserted
        faults := if o = .aborted then satInc 255 r.faults else r.faults })
    let abandoned := { s.csu with window := none, silence := .stopped }
    let phases : List (HeadState × CycleKind × RecordOutcome) :=
      [(.cut, .insert, .lost), (.cut, .dump, .lost), (.form, .insert, .lost), (.form, .dump, .lost),
       (.drive, .insert, .aborted), (.clinch, .insert, .aborted), (.eject, .insert, .dumped), (.eject, .dump, .dumped),
       (.retract, .insert, .inserted), (.retract, .dump, .dumped)]
    (s.hdc.timer = .running 0 →
      let fault := post .spanFault none s
      let jam := post .headJam none s
      stands .spanFault fault ∧ stands .headJam jam
      ∧ (∀ c, s.hdc.head = .setup → s.hdc.cycle = some c →
        let ended := { fault with
          hdc := afterSetup c, out := { fault.out with spanAxis := .halt, rotateAxis := .halt } }
        ((∀ e rest, s.tpc.tape = e :: rest → knownBad s.mode s.tbc e.entry.panel e.entry.image = false) →
          exec .spanFault s = .next ended)
        ∧ ∀ e rest, s.tpc.tape = e :: rest → knownBad s.mode s.tbc e.entry.panel e.entry.image = true →
          exec .spanFault s = .next { ended with
            tpc := { fault.tpc with tape := { e with discard := true } :: rest }
            tbc := { fault.tbc with
              inPosition := if s.tbc.inPosition = .entry e.entry.uid then .none else s.tbc.inPosition } })
      ∧ (∀ c e rest (o : RecordOutcome), s.hdc.cycle = some c → c.entry = some e → c.kind ≠ .freeDump →
        s.tpc.tape = e :: rest → (s.hdc.head, c.kind, o) ∈ phases →
        exec .phaseTimeout s = .next { jam with
          hdc := counted o
          csu := abandoned
          out := { jam.out with cam := .halt, conversions := false }
          tpc := { jam.tpc with tape := rest }
          csq := { jam.csq with seq := heldOf jam.alc.effective (festoonFull s.tables rest) jam.csq.seq }
          rrg := recorded o c e
          tbc := { jam.tbc with
            inPosition := if s.tbc.inPosition = .entry e.entry.uid then .none else s.tbc.inPosition
            images := told o e } })
      ∧ (∀ c, s.hdc.cycle = some c → c.kind = .freeDump → s.hdc.head ∈ [.cut, .form, .eject, .retract] →
        exec .phaseTimeout s = .next { jam with
          hdc := { faulted with skip := false }
          csu := abandoned
          out := { jam.out with cam := .halt, conversions := false } })
      ∧ (s.hdc.head = .homing → exec .phaseTimeout s = .next { jam with
          hdc := afterHoming
          out := { jam.out with cam := .halt, spanAxis := .halt, rotateAxis := .halt } }))
    ∧ (s.alc.estop = .released →
      let posted := recompute (post .estop none { s with alc := { s.alc with estop := .asserted } })
      let camHalts := fun (t : State) => t.out.cam = .halt
      let axesHalt := fun (t : State) => t.out.spanAxis = .halt ∧ t.out.rotateAxis = .halt
      (∀ c e rest (o : RecordOutcome), s.hdc.cycle = some c → c.entry = some e → c.kind ≠ .freeDump →
        s.tpc.tape = e :: rest → (s.hdc.head, c.kind, o) ∈ (.waitTable, .insert, .aborted) :: phases →
        ∃ t, exec .estopAsserted s = .next t ∧ camHalts t ∧ t.out.conversions = false
          ∧ HaltedByEstop { posted with
            hdc := counted o
            csu := abandoned
            tpc := { posted.tpc with tape := rest }
            csq := { posted.csq with seq := heldOf posted.alc.effective (festoonFull s.tables rest) posted.csq.seq }
            rrg := recorded o c e
            tbc := { posted.tbc with images := told o e } } t)
      ∧ (∀ c, s.hdc.cycle = some c → c.kind = .freeDump → s.hdc.head ∈ [.cut, .form, .eject, .retract] →
        ∃ t, exec .estopAsserted s = .next t ∧ camHalts t ∧ t.out.conversions = false
          ∧ HaltedByEstop { posted with hdc := { faulted with skip := false }, csu := abandoned } t)
      ∧ (∀ c, s.hdc.head = .setup → s.hdc.cycle = some c →
        ((∀ e rest, s.tpc.tape = e :: rest → knownBad s.mode s.tbc e.entry.panel e.entry.image = false) →
          ∃ t, exec .estopAsserted s = .next t ∧ axesHalt t ∧ HaltedByEstop { posted with hdc := afterSetup c } t)
        ∧ ∀ e rest, s.tpc.tape = e :: rest → knownBad s.mode s.tbc e.entry.panel e.entry.image = true →
          ∃ t, exec .estopAsserted s = .next t ∧ axesHalt t ∧ HaltedByEstop { posted with
            hdc := afterSetup c, tpc := { posted.tpc with tape := { e with discard := true } :: rest } } t)
      ∧ (s.hdc.head = .homing →
        ∃ t, exec .estopAsserted s = .next t ∧ camHalts t ∧ axesHalt t
          ∧ HaltedByEstop { posted with hdc := afterHoming } t)
      ∧ (s.hdc.head = .idle ∨ s.hdc.head = .fault →
        ∃ t, exec .estopAsserted s = .next t ∧ HaltedByEstop posted t))

/-! ### The clinch signature -/

/-- R113 to R117: the rounding and saturation steps, the filter's recursion, the features of a window of at least five
samples, and the tests of the verdict in order. -/
def Obligations.SignatureArithmetic : Prop :=
  (∀ v : Int, 8192 * round13 v ≤ v + 4096 ∧ v + 4096 < 8192 * round13 v + 8192)
  ∧ (∀ v : Int, saturate16 v = max (-32768) (min 32767 v))
  ∧ (∀ (f : FilterSet) (xs : List Int), f.bypass = true → filtered f xs = xs)
  ∧ (∀ (f : FilterSet) (xs : List Int), f.bypass = false → (filtered f xs).length = xs.length
    ∧ ∃ w : Nat → Int, w 0 = 0 ∧ w 1 = 0 ∧ ∀ n x, xs[n]? = some x →
      w (n + 2) = saturate16 (round13 (8192 * x - f.a1 * w (n + 1) - f.a2 * w n))
      ∧ (filtered f xs)[n]? =
        some (saturate16 (round13 (f.b0 * w (n + 2) + f.b1 * w (n + 1) + f.b2 * w n))))
  ∧ (∀ w : SampleWindow, 5 ≤ w.samples.length →
    let m := measure w
    let ys := filtered w.filter ((w.samples.drop 4).map (fun (c : Nat) => (c : Int) - m.baseline))
    let level : Int := w.profile.contactLevel
    4 * m.baseline ≤ (w.samples.take 4).sum ∧ ((w.samples.take 4).sum : Int) < 4 * m.baseline + 4
    ∧ (m.saturated = true ↔ 4095 ∈ w.samples)
    ∧ ys[m.peakIndex]? = some m.peak ∧ (∀ y ∈ ys, y ≤ m.peak)
    ∧ (∀ i, i < m.peakIndex → ys[i]? ≠ some m.peak)
    ∧ (m.area : Int) = (ys.filter (fun y => decide (0 < y))).sum
    ∧ m.contact = (ys.filter (fun y => decide (level ≤ y))).length
    ∧ (m.release = none ↔ m.contact = 0)
    ∧ ∀ n, m.release = some n → (∃ y, ys[n]? = some y ∧ level ≤ y)
      ∧ ∀ i y, n < i → ys[i]? = some y → y < level)
  ∧ ∀ (p : Profile) (m : Measurement), judge p m =
    if m.saturated = true then .high
    else if m.peak < p.emptyLevel then .empty
    else if p.peakMax < m.peak then .high
    else if m.peak < p.peakMin then .low
    else if m.peakIndex < p.indexMin ∨ p.indexMax < m.peakIndex then .timing
    else if m.area < p.areaMin ∨ p.areaMax < m.area then .area
    else if m.contact < p.contactMin then .dwell
    else .good

/-- R110, R111, R118 to R121: a sample joins an OPEN window and stops the silence timer; the last one, the end of
CLINCH, or 2 ms of silence closes and judges it: fewer than five samples are SENSOR; a GOOD window sets the wear
accumulator and the fault accumulator and the fault count; any other verdict counts a fault, posts SENSOR SILENT when it is SENSOR, and the policy of
the profile acts (CLINCH FAULT, or the image rejected with BAD IMAGE); CUTTER WEAR is posted above the wear level, CLINCH
REPEAT at the repeat limit. The closed window's effects are written out whole, in their order. -/
def Obligations.SamplesAndVerdicts : Prop :=
  ∀ (s : State) (code : BitVec 12),
    (s.csu.window = none → exec (.forceSample code) s = .next s ∧ exec .silenceTimeout s = .next s)
    ∧ ∀ w, s.csu.window = some w →
      let w1 := { w with samples := w.samples ++ [code.toNat] }
      let joined := { s with csu := { s.csu with window := some w1, silence := .stopped } }
      let m := measure w
      let acc := s.csu.wear.getD w.profileNo 0
      let verdict := if w.samples.length < 5 then Verdict.sensor else judge w.profile m
      let signature := Signature.mk w.step w.panel w.image w.profileNo verdict w.samples.length
        (if w.samples.length < 5 then none else some m)
      let t := closeWindow w s
      (w1.samples.length < 4 + w.profile.windowLength → exec (.forceSample code) s = .next joined)
      ∧ (4 + w.profile.windowLength ≤ w1.samples.length →
        exec (.forceSample code) s = .next (closeWindow w1 joined))
      ∧ (s.csu.silence = .running 0 → exec .silenceTimeout s = .next t)
      ∧ (s.csu.silence ≠ .running 0 → exec .silenceTimeout s = .next s)
      ∧ t.csu.window = none ∧ t.csu.silence = .stopped ∧ t.out.conversions = false ∧ t.csu.last = some signature
      ∧ (∀ c, s.hdc.cycle = some c → t.hdc.cycle = some { c with
          verdict := some verdict
          features := if w.samples.length < 5 then none else some ⟨m.peak, m.peakIndex, m.area, m.contact⟩ })
      ∧ (let worn := if verdict = .sensor ∨ verdict = .empty then s.csu.wear
            else s.csu.wear.set w.profileNo (acc - acc / 16 + m.peak.toNat)
        t.csu.wear = worn
        ∧ (verdict = .good → t.csu.faults = 0
          ∧ ((acc - acc / 16 + m.peak.toNat) / 16 ≤ w.profile.wearLevel → t = { s with
              csu := { s.csu with
                window := none, silence := .stopped, last := some signature, wear := worn, faults := 0 }
              hdc := { s.hdc with cycle := t.hdc.cycle }
              out := { s.out with conversions := false } }))
        ∧ (verdict ≠ .good → t.csu.faults =
            if s.tables.constants.repeatLimit ≤ s.csu.faults + 1 then 0 else s.csu.faults + 1))
      ∧ (let shut := { s with
          csu := { s.csu with window := none, silence := .stopped, last := some signature }
          hdc := { s.hdc with cycle := t.hdc.cycle }
          out := { s.out with conversions := false } }
        let acc1 := acc - acc / 16 + m.peak.toNat
        let wearing := { shut with csu := { shut.csu with wear := s.csu.wear.set w.profileNo acc1 } }
        let worn := if verdict = .sensor ∨ verdict = .empty then shut
          else if w.profile.wearLevel < acc1 / 16 then post .cutterWear (some w.profileNo) wearing else wearing
        let counted := { worn with csu := { worn.csu with faults := s.csu.faults + 1 } }
        let sensed := if verdict = .sensor then post .sensorSilent none counted else counted
        let named := w.panel = s.tbc.current ∧ (s.tbc.panel = .ready ∨ s.tbc.panel = .survey)
          ∧ 1 ≤ w.image ∧ w.image ≤ s.tbc.images.length
        let acted := match w.profile.policy with
          | .stop => postClinchFault .stop w.step.toNat sensed
          | .hold => postClinchFault .hold w.step.toNat sensed
          | .mark => if ¬ named then sensed
              else post .badImage (some w.image)
                (if imageState s.tbc w.image = .good then markImage w.image .rejected sensed else sensed)
        (verdict = .good → t = { worn with csu := { worn.csu with faults := 0 } })
        ∧ (verdict ≠ .good → s.csu.faults + 1 < s.tables.constants.repeatLimit → t = acted)
        ∧ (verdict ≠ .good → s.tables.constants.repeatLimit ≤ s.csu.faults + 1 →
          t = post .clinchRepeat (some w.profileNo) { acted with csu := { acted.csu with faults := 0 } }))
      ∧ (verdict ≠ .good → w.profile.policy = .stop → s.alc.stopCh.entries.length < 6 →
        ∃ a ∈ t.alc.stopCh.entries, a.kind = .clinchFault ∧ a.subject = some w.step.toNat)
      ∧ (verdict ≠ .good → w.profile.policy = .hold → s.alc.holdCh.entries.length < 6 →
        ∃ a ∈ t.alc.holdCh.entries, a.kind = .clinchFault ∧ a.subject = some w.step.toNat)
      ∧ (verdict ≠ .good → w.profile.policy = .mark → w.panel = s.tbc.current → s.tbc.panel = .ready →
        1 ≤ w.image → w.image ≤ s.tbc.images.length → imageState s.tbc w.image = .good →
        imageState t.tbc w.image = .rejected)

/-! ### The table and the handler -/

/-- R126, R128, R131: a load and an unload start under their conditions; the handler's reports, its timeout, and its
restarts. -/
def Obligations.PanelsAndHandler : Prop :=
  ∀ (s : State) (op : HandlerOp) (phase : HandlerPhase),
    let ended := fun (p : PanelState) => { s with
      tbc := { s.tbc with panel := p, handler := none, handlerTimer := .stopped, restartDue := false } }
    let line := if op = .load then HandlerCommand.load else .release
    let full := s.tables.constants.moveTimeout
    (∀ p, s.tbc.pattern = some p → s.tbc.panel = .empty → s.tbc.handler = none → s.mode ≠ .sequenceOnly →
      s.tbc.loadWanted = true ∨ s.csq.window ≠ [] ∨ s.tpc.tape ≠ [] ∨ s.pin.queue ≠ [] →
      s.alc.effective ≠ .stop → s.alc.estop = .released → s.hdc.clear = true →
      exec .loadStart s = .next (retakeAsk { s with
        tbc := { s.tbc with
          panel := .loading, current := s.tbc.current + 1, cursor := some 1, loadWanted := false
          images := (List.range' 1 p.count).map (fun n => ⟨p.offset n, .good, 0, 0⟩)
          handler := some ⟨.load, .running⟩, handlerTimer := .running full, restartDue := false }
        out := { s.out with handler := .load } }))
    ∧ (s.tbc.panel = .ready → s.pin.takePanel = s.tbc.current + 1 →
      (∀ w ∈ s.csq.window, w.entry.panel ≠ s.tbc.current) → (∀ e ∈ s.tpc.tape, e.entry.panel ≠ s.tbc.current) →
      s.tbc.handler = none → s.alc.effective ≠ .stop → s.alc.estop = .released → s.hdc.clear = true →
      exec .unloadStart s = .next { s with
        tbc := { s.tbc with
          panel := .unloading, inPosition := .none, handler := some ⟨.release, .running⟩
          handlerTimer := .running full, restartDue := false }
        out := { s.out with handler := .release } })
    ∧ (s.tbc.handler = some ⟨.load, phase⟩ →
      (∀ p d, s.tbc.pattern = some p → p.badMark = some d → exec .clamped s = .next (ended .survey))
      ∧ (∀ p, s.tbc.pattern = some p → p.badMark = none → exec .clamped s = .next (ended .ready))
      ∧ exec .released s = .next s)
    ∧ (s.tbc.handler = some ⟨.release, phase⟩ →
      exec .released s = .next (ended .empty) ∧ exec .clamped s = .next s)
    ∧ (s.tbc.handler = some ⟨op, .running⟩ → s.tbc.handlerTimer = .running 0 →
      exec .handlerTimeout s = .next (post .handlerFault none { s with
        tbc := { s.tbc with handler := some ⟨op, .stalled⟩, handlerTimer := .stopped, restartDue := false }
        out := { s.out with handler := .stop } }))
    ∧ (s.alc.effective ≠ .stop → s.alc.estop = .released →
      (∀ n, s.tbc.handler = some ⟨op, .suspended⟩ → s.tbc.handlerTimer = .suspended n →
        exec .handlerRestart s = .next { s with
          tbc := { s.tbc with handler := some ⟨op, .running⟩, handlerTimer := .running n }
          out := { s.out with handler := .goOn } })
      ∧ (s.tbc.handler = some ⟨op, .stalled⟩ → s.tbc.restartDue = true →
        exec .handlerRestart s = .next { s with
          tbc := { s.tbc with
            handler := some ⟨op, .running⟩, handlerTimer := .running full, restartDue := false }
          out := { s.out with handler := line } }))

/-- R129, R130, R132 to R134, R94: survey and insert moves start under their conditions; the axes report in position
for the image or the entry of the move, and a mark present at a survey's image makes it BAD, with its marking notices and the
BAD IMAGE alarm (an image BAD or REJECTED already stays as it is, the alarm alone is posted: log 40); a following error and a move out of time halt both axes with TABLE FOLLOW. -/
def Obligations.TableMoves : Prop :=
  ∀ (s : State) (p : Pattern),
    let moves := fun (k : MoveKind) (x y : Int) => { s with
      tbc := { s.tbc with
        inPosition := .none, move := some ⟨k, x, y⟩, moveTimer := .running s.tables.constants.moveTimeout }
      out := { s.out with tableAxes := .target x y s.tables.constants.followLimit } }
    let halted := post .tableFollow none { s with
      tbc := { s.tbc with move := none, moveTimer := .stopped, inPosition := .none }
      out := { s.out with tableAxes := .halt } }
    (∀ n, s.tbc.pattern = some p → s.tbc.cursor = some n → s.tbc.panel = .survey → s.tbc.move = none →
      s.tbc.inPosition ≠ .image n → s.alc.effective ≠ .stop → s.alc.estop = .released → s.hdc.clear = true →
      exec .surveyMoveStart s = .next (moves (.survey n) (p.markPosition n).1 (p.markPosition n).2))
    ∧ (∀ before e after, s.tbc.pattern = some p → s.tpc.tape = before ++ e :: after →
      (∀ x ∈ before, x.entry.panel ≠ s.tbc.current ∨ x.discard = true ∨ imageState s.tbc x.entry.image ≠ .good) →
      e.entry.panel = s.tbc.current → e.discard = false → imageState s.tbc e.entry.image = .good →
      s.tbc.panel = .ready → s.tbc.move = none → s.tbc.inPosition ≠ .entry e.entry.uid → s.alc.effective = .run →
      s.alc.estop = .released → s.hdc.clear = true →
      exec .insertMoveStart s = .next (moves (.insert e.entry.uid)
        ((p.imageOrigin e.entry.image).1 + e.entry.x) ((p.imageOrigin e.entry.image).2 + e.entry.y)))
    ∧ (∀ k x y, s.tbc.move = some ⟨k, x, y⟩ →
      let arrived := { s.tbc with move := none, moveTimer := .stopped }
      let next := fun (n : Nat) => if n < s.tbc.images.length then some (n + 1) else none
      let panelAfter := fun (n : Nat) => if n < s.tbc.images.length then s.tbc.panel else PanelState.ready
      (∀ n, k = .survey n →
        exec (.inPosition false) s = .next { s with tbc := { arrived with
          inPosition := .image n, cursor := next n, panel := panelAfter n } }
        ∧ (1 ≤ n →
          let read := { arrived with inPosition := .image n }
          let note : MarkNotice := ⟨s.tbc.current, n⟩
          let marked := if imageState s.tbc n = .good then { s with
              tbc := { read with images := s.tbc.images.modify (n - 1) (fun r => { r with state := .bad }) }
              pin := { s.pin with marks := s.pin.marks ++ [note] }
              csq := { s.csq with marks := s.csq.marks ++ [note] }
              tpc := { s.tpc with marks := s.tpc.marks ++ [note] }
              hdc := { s.hdc with marks := s.hdc.marks ++ [note] } }
            else { s with tbc := read }
          let t := post .badImage (some n) marked
          exec (.inPosition true) s = .next { t with tbc := { t.tbc with cursor := next n, panel := panelAfter n } }))
      ∧ (∀ uid b, k = .insert uid →
        let wanted := ∃ e ∈ s.tpc.tape,
          e.entry.uid = uid ∧ e.discard = false ∧ imageState s.tbc e.entry.image = .good
        (¬ wanted → exec (.inPosition b) s = .next { s with tbc := arrived })
        ∧ (wanted → s.hdc.head ≠ .waitTable →
          exec (.inPosition b) s = .next { s with tbc := { arrived with inPosition := .entry uid } })
        ∧ ∀ c e, wanted → s.hdc.head = .waitTable → s.hdc.cycle = some c → c.entry = some e → e.entry.uid = uid →
          imageState s.tbc e.entry.image = .good → e.entry.panel = s.tbc.current → s.tbc.panel = .ready →
          exec (.inPosition b) s = .next { s with
            tbc := { arrived with inPosition := .entry uid }
            hdc := { s.hdc with
              head := .drive, timer := .running s.tables.constants.headTimeout, clear := false
              cycle := some { c with driven := true } }
            out := { s.out with cam := .phase .drive } }))
    ∧ exec .followingError s = .next halted
    ∧ (s.tbc.move.isSome = true → s.tbc.moveTimer = .running 0 → exec .moveTimeout s = .next halted)

/-! ### What every step keeps -/

/-- R141, R142, R147, R148: every step keeps the effective level and the lamps those the inputs give, and every
channel at no more than 8 entries of its own, no two of one kind and subject. -/
def Obligations.LevelsAndChannelsAreKept : Prop :=
  ∀ s t : State, step s = .next t → (LevelInv s → LevelInv t) ∧ (ChannelInv s → ChannelInv t)

/-- R6, R28, R32, R34, R61, R160, R162, R169, R170: every step keeps the bounds of every queue, buffer, table and
ring, and the constants in range with a chain of L clips and L fire load counters. -/
def Obligations.BoundsAndChainAreKept : Prop :=
  ∀ s t : State, step s = .next t → (BoundsInv s → BoundsInv t) ∧ (ChainInv s → ChainInv t)

/-- R145, R44, R80, R100 to R102, R128, R136: for as long as the E-stop line is asserted, no command starts or resumes
anything the line halts. -/
def Obligations.EstopHoldsEverything : Prop :=
  ∀ s t : State, step s = .next t → EstopInv s → EstopInv t

/-- The balance of section 10.5: whatever happens, every entry taken is in the window, on the tape, or has exactly one
outcome; and no entry stands twice. -/
def Obligations.EveryEntryIsAccountedFor : Prop :=
  ∀ s t : State, step s = .next t → AccountInv s → AccountInv t

/-- R12, R110, R118, R120, R128, R129, R131: every step keeps the wear accumulators, the fault count and an open
window in their ranges, and the panel numbers, the panel state, the handler and the survey together. -/
def Obligations.SignatureAndPanelAreKept : Prop :=
  ∀ s t : State, step s = .next t → (SignatureInv s → SignatureInv t) ∧ (PanelInv s → PanelInv t)

/-- What every step keeps holds at reset. -/
def Obligations.ResetHoldsWhatStepsKeep : Prop :=
  LevelInv State.reset ∧ ChannelInv State.reset ∧ BoundsInv State.reset ∧ ChainInv State.reset ∧ EstopInv State.reset
    ∧ AccountInv State.reset ∧ SignatureInv State.reset ∧ PanelInv State.reset
end

