-- ==== Sys2Proof/Laws/State.lean ====
section
/-! SUPPORT. What writing one block does to every field of the state, true by rfl. -/

namespace Sys2Proof.Machine

/-! ### updLpu -/

@[simp] theorem updLpu_pending (s : State) (f : Lpu → Lpu) : (s.updLpu f).pending = s.pending := rfl
@[simp] theorem updLpu_lpu (s : State) (f : Lpu → Lpu) : (s.updLpu f).lpu = f s.lpu := rfl
@[simp] theorem updLpu_rrg (s : State) (f : Lpu → Lpu) : (s.updLpu f).rrg = s.rrg := rfl
@[simp] theorem updLpu_pin (s : State) (f : Lpu → Lpu) : (s.updLpu f).pin = s.pin := rfl
@[simp] theorem updLpu_tables (s : State) (f : Lpu → Lpu) : (s.updLpu f).tables = s.tables := rfl
@[simp] theorem updLpu_csq (s : State) (f : Lpu → Lpu) : (s.updLpu f).csq = s.csq := rfl
@[simp] theorem updLpu_shu (s : State) (f : Lpu → Lpu) : (s.updLpu f).shu = s.shu := rfl
@[simp] theorem updLpu_tpc (s : State) (f : Lpu → Lpu) : (s.updLpu f).tpc = s.tpc := rfl
@[simp] theorem updLpu_hdc (s : State) (f : Lpu → Lpu) : (s.updLpu f).hdc = s.hdc := rfl
@[simp] theorem updLpu_csu (s : State) (f : Lpu → Lpu) : (s.updLpu f).csu = s.csu := rfl
@[simp] theorem updLpu_tbc (s : State) (f : Lpu → Lpu) : (s.updLpu f).tbc = s.tbc := rfl
@[simp] theorem updLpu_alc (s : State) (f : Lpu → Lpu) : (s.updLpu f).alc = s.alc := rfl
@[simp] theorem updLpu_out (s : State) (f : Lpu → Lpu) : (s.updLpu f).out = s.out := rfl
@[simp] theorem updLpu_nextUid (s : State) (f : Lpu → Lpu) : (s.updLpu f).nextUid = s.nextUid := rfl
@[simp] theorem updLpu_resets (s : State) (f : Lpu → Lpu) : (s.updLpu f).resets = s.resets := rfl

/-! ### updRrg -/

@[simp] theorem updRrg_pending (s : State) (f : Rrg → Rrg) : (s.updRrg f).pending = s.pending := rfl
@[simp] theorem updRrg_lpu (s : State) (f : Rrg → Rrg) : (s.updRrg f).lpu = s.lpu := rfl
@[simp] theorem updRrg_rrg (s : State) (f : Rrg → Rrg) : (s.updRrg f).rrg = f s.rrg := rfl
@[simp] theorem updRrg_pin (s : State) (f : Rrg → Rrg) : (s.updRrg f).pin = s.pin := rfl
@[simp] theorem updRrg_tables (s : State) (f : Rrg → Rrg) : (s.updRrg f).tables = s.tables := rfl
@[simp] theorem updRrg_csq (s : State) (f : Rrg → Rrg) : (s.updRrg f).csq = s.csq := rfl
@[simp] theorem updRrg_shu (s : State) (f : Rrg → Rrg) : (s.updRrg f).shu = s.shu := rfl
@[simp] theorem updRrg_tpc (s : State) (f : Rrg → Rrg) : (s.updRrg f).tpc = s.tpc := rfl
@[simp] theorem updRrg_hdc (s : State) (f : Rrg → Rrg) : (s.updRrg f).hdc = s.hdc := rfl
@[simp] theorem updRrg_csu (s : State) (f : Rrg → Rrg) : (s.updRrg f).csu = s.csu := rfl
@[simp] theorem updRrg_tbc (s : State) (f : Rrg → Rrg) : (s.updRrg f).tbc = s.tbc := rfl
@[simp] theorem updRrg_alc (s : State) (f : Rrg → Rrg) : (s.updRrg f).alc = s.alc := rfl
@[simp] theorem updRrg_out (s : State) (f : Rrg → Rrg) : (s.updRrg f).out = s.out := rfl
@[simp] theorem updRrg_nextUid (s : State) (f : Rrg → Rrg) : (s.updRrg f).nextUid = s.nextUid := rfl
@[simp] theorem updRrg_resets (s : State) (f : Rrg → Rrg) : (s.updRrg f).resets = s.resets := rfl

/-! ### updPin -/

@[simp] theorem updPin_pending (s : State) (f : Pin → Pin) : (s.updPin f).pending = s.pending := rfl
@[simp] theorem updPin_lpu (s : State) (f : Pin → Pin) : (s.updPin f).lpu = s.lpu := rfl
@[simp] theorem updPin_rrg (s : State) (f : Pin → Pin) : (s.updPin f).rrg = s.rrg := rfl
@[simp] theorem updPin_pin (s : State) (f : Pin → Pin) : (s.updPin f).pin = f s.pin := rfl
@[simp] theorem updPin_tables (s : State) (f : Pin → Pin) : (s.updPin f).tables = s.tables := rfl
@[simp] theorem updPin_csq (s : State) (f : Pin → Pin) : (s.updPin f).csq = s.csq := rfl
@[simp] theorem updPin_shu (s : State) (f : Pin → Pin) : (s.updPin f).shu = s.shu := rfl
@[simp] theorem updPin_tpc (s : State) (f : Pin → Pin) : (s.updPin f).tpc = s.tpc := rfl
@[simp] theorem updPin_hdc (s : State) (f : Pin → Pin) : (s.updPin f).hdc = s.hdc := rfl
@[simp] theorem updPin_csu (s : State) (f : Pin → Pin) : (s.updPin f).csu = s.csu := rfl
@[simp] theorem updPin_tbc (s : State) (f : Pin → Pin) : (s.updPin f).tbc = s.tbc := rfl
@[simp] theorem updPin_alc (s : State) (f : Pin → Pin) : (s.updPin f).alc = s.alc := rfl
@[simp] theorem updPin_out (s : State) (f : Pin → Pin) : (s.updPin f).out = s.out := rfl
@[simp] theorem updPin_nextUid (s : State) (f : Pin → Pin) : (s.updPin f).nextUid = s.nextUid := rfl
@[simp] theorem updPin_resets (s : State) (f : Pin → Pin) : (s.updPin f).resets = s.resets := rfl

/-! ### updTables -/

@[simp] theorem updTables_pending (s : State) (f : Tables → Tables) : (s.updTables f).pending = s.pending := rfl
@[simp] theorem updTables_lpu (s : State) (f : Tables → Tables) : (s.updTables f).lpu = s.lpu := rfl
@[simp] theorem updTables_rrg (s : State) (f : Tables → Tables) : (s.updTables f).rrg = s.rrg := rfl
@[simp] theorem updTables_pin (s : State) (f : Tables → Tables) : (s.updTables f).pin = s.pin := rfl
@[simp] theorem updTables_tables (s : State) (f : Tables → Tables) : (s.updTables f).tables = f s.tables := rfl
@[simp] theorem updTables_csq (s : State) (f : Tables → Tables) : (s.updTables f).csq = s.csq := rfl
@[simp] theorem updTables_shu (s : State) (f : Tables → Tables) : (s.updTables f).shu = s.shu := rfl
@[simp] theorem updTables_tpc (s : State) (f : Tables → Tables) : (s.updTables f).tpc = s.tpc := rfl
@[simp] theorem updTables_hdc (s : State) (f : Tables → Tables) : (s.updTables f).hdc = s.hdc := rfl
@[simp] theorem updTables_csu (s : State) (f : Tables → Tables) : (s.updTables f).csu = s.csu := rfl
@[simp] theorem updTables_tbc (s : State) (f : Tables → Tables) : (s.updTables f).tbc = s.tbc := rfl
@[simp] theorem updTables_alc (s : State) (f : Tables → Tables) : (s.updTables f).alc = s.alc := rfl
@[simp] theorem updTables_out (s : State) (f : Tables → Tables) : (s.updTables f).out = s.out := rfl
@[simp] theorem updTables_nextUid (s : State) (f : Tables → Tables) : (s.updTables f).nextUid = s.nextUid := rfl
@[simp] theorem updTables_resets (s : State) (f : Tables → Tables) : (s.updTables f).resets = s.resets := rfl

/-! ### updCsq -/

@[simp] theorem updCsq_pending (s : State) (f : Csq → Csq) : (s.updCsq f).pending = s.pending := rfl
@[simp] theorem updCsq_lpu (s : State) (f : Csq → Csq) : (s.updCsq f).lpu = s.lpu := rfl
@[simp] theorem updCsq_rrg (s : State) (f : Csq → Csq) : (s.updCsq f).rrg = s.rrg := rfl
@[simp] theorem updCsq_pin (s : State) (f : Csq → Csq) : (s.updCsq f).pin = s.pin := rfl
@[simp] theorem updCsq_tables (s : State) (f : Csq → Csq) : (s.updCsq f).tables = s.tables := rfl
@[simp] theorem updCsq_csq (s : State) (f : Csq → Csq) : (s.updCsq f).csq = f s.csq := rfl
@[simp] theorem updCsq_shu (s : State) (f : Csq → Csq) : (s.updCsq f).shu = s.shu := rfl
@[simp] theorem updCsq_tpc (s : State) (f : Csq → Csq) : (s.updCsq f).tpc = s.tpc := rfl
@[simp] theorem updCsq_hdc (s : State) (f : Csq → Csq) : (s.updCsq f).hdc = s.hdc := rfl
@[simp] theorem updCsq_csu (s : State) (f : Csq → Csq) : (s.updCsq f).csu = s.csu := rfl
@[simp] theorem updCsq_tbc (s : State) (f : Csq → Csq) : (s.updCsq f).tbc = s.tbc := rfl
@[simp] theorem updCsq_alc (s : State) (f : Csq → Csq) : (s.updCsq f).alc = s.alc := rfl
@[simp] theorem updCsq_out (s : State) (f : Csq → Csq) : (s.updCsq f).out = s.out := rfl
@[simp] theorem updCsq_nextUid (s : State) (f : Csq → Csq) : (s.updCsq f).nextUid = s.nextUid := rfl
@[simp] theorem updCsq_resets (s : State) (f : Csq → Csq) : (s.updCsq f).resets = s.resets := rfl

/-! ### updShu -/

@[simp] theorem updShu_pending (s : State) (f : Shu → Shu) : (s.updShu f).pending = s.pending := rfl
@[simp] theorem updShu_lpu (s : State) (f : Shu → Shu) : (s.updShu f).lpu = s.lpu := rfl
@[simp] theorem updShu_rrg (s : State) (f : Shu → Shu) : (s.updShu f).rrg = s.rrg := rfl
@[simp] theorem updShu_pin (s : State) (f : Shu → Shu) : (s.updShu f).pin = s.pin := rfl
@[simp] theorem updShu_tables (s : State) (f : Shu → Shu) : (s.updShu f).tables = s.tables := rfl
@[simp] theorem updShu_csq (s : State) (f : Shu → Shu) : (s.updShu f).csq = s.csq := rfl
@[simp] theorem updShu_shu (s : State) (f : Shu → Shu) : (s.updShu f).shu = f s.shu := rfl
@[simp] theorem updShu_tpc (s : State) (f : Shu → Shu) : (s.updShu f).tpc = s.tpc := rfl
@[simp] theorem updShu_hdc (s : State) (f : Shu → Shu) : (s.updShu f).hdc = s.hdc := rfl
@[simp] theorem updShu_csu (s : State) (f : Shu → Shu) : (s.updShu f).csu = s.csu := rfl
@[simp] theorem updShu_tbc (s : State) (f : Shu → Shu) : (s.updShu f).tbc = s.tbc := rfl
@[simp] theorem updShu_alc (s : State) (f : Shu → Shu) : (s.updShu f).alc = s.alc := rfl
@[simp] theorem updShu_out (s : State) (f : Shu → Shu) : (s.updShu f).out = s.out := rfl
@[simp] theorem updShu_nextUid (s : State) (f : Shu → Shu) : (s.updShu f).nextUid = s.nextUid := rfl
@[simp] theorem updShu_resets (s : State) (f : Shu → Shu) : (s.updShu f).resets = s.resets := rfl

/-! ### updTpc -/

@[simp] theorem updTpc_pending (s : State) (f : Tpc → Tpc) : (s.updTpc f).pending = s.pending := rfl
@[simp] theorem updTpc_lpu (s : State) (f : Tpc → Tpc) : (s.updTpc f).lpu = s.lpu := rfl
@[simp] theorem updTpc_rrg (s : State) (f : Tpc → Tpc) : (s.updTpc f).rrg = s.rrg := rfl
@[simp] theorem updTpc_pin (s : State) (f : Tpc → Tpc) : (s.updTpc f).pin = s.pin := rfl
@[simp] theorem updTpc_tables (s : State) (f : Tpc → Tpc) : (s.updTpc f).tables = s.tables := rfl
@[simp] theorem updTpc_csq (s : State) (f : Tpc → Tpc) : (s.updTpc f).csq = s.csq := rfl
@[simp] theorem updTpc_shu (s : State) (f : Tpc → Tpc) : (s.updTpc f).shu = s.shu := rfl
@[simp] theorem updTpc_tpc (s : State) (f : Tpc → Tpc) : (s.updTpc f).tpc = f s.tpc := rfl
@[simp] theorem updTpc_hdc (s : State) (f : Tpc → Tpc) : (s.updTpc f).hdc = s.hdc := rfl
@[simp] theorem updTpc_csu (s : State) (f : Tpc → Tpc) : (s.updTpc f).csu = s.csu := rfl
@[simp] theorem updTpc_tbc (s : State) (f : Tpc → Tpc) : (s.updTpc f).tbc = s.tbc := rfl
@[simp] theorem updTpc_alc (s : State) (f : Tpc → Tpc) : (s.updTpc f).alc = s.alc := rfl
@[simp] theorem updTpc_out (s : State) (f : Tpc → Tpc) : (s.updTpc f).out = s.out := rfl
@[simp] theorem updTpc_nextUid (s : State) (f : Tpc → Tpc) : (s.updTpc f).nextUid = s.nextUid := rfl
@[simp] theorem updTpc_resets (s : State) (f : Tpc → Tpc) : (s.updTpc f).resets = s.resets := rfl

/-! ### updHdc -/

@[simp] theorem updHdc_pending (s : State) (f : Hdc → Hdc) : (s.updHdc f).pending = s.pending := rfl
@[simp] theorem updHdc_lpu (s : State) (f : Hdc → Hdc) : (s.updHdc f).lpu = s.lpu := rfl
@[simp] theorem updHdc_rrg (s : State) (f : Hdc → Hdc) : (s.updHdc f).rrg = s.rrg := rfl
@[simp] theorem updHdc_pin (s : State) (f : Hdc → Hdc) : (s.updHdc f).pin = s.pin := rfl
@[simp] theorem updHdc_tables (s : State) (f : Hdc → Hdc) : (s.updHdc f).tables = s.tables := rfl
@[simp] theorem updHdc_csq (s : State) (f : Hdc → Hdc) : (s.updHdc f).csq = s.csq := rfl
@[simp] theorem updHdc_shu (s : State) (f : Hdc → Hdc) : (s.updHdc f).shu = s.shu := rfl
@[simp] theorem updHdc_tpc (s : State) (f : Hdc → Hdc) : (s.updHdc f).tpc = s.tpc := rfl
@[simp] theorem updHdc_hdc (s : State) (f : Hdc → Hdc) : (s.updHdc f).hdc = f s.hdc := rfl
@[simp] theorem updHdc_csu (s : State) (f : Hdc → Hdc) : (s.updHdc f).csu = s.csu := rfl
@[simp] theorem updHdc_tbc (s : State) (f : Hdc → Hdc) : (s.updHdc f).tbc = s.tbc := rfl
@[simp] theorem updHdc_alc (s : State) (f : Hdc → Hdc) : (s.updHdc f).alc = s.alc := rfl
@[simp] theorem updHdc_out (s : State) (f : Hdc → Hdc) : (s.updHdc f).out = s.out := rfl
@[simp] theorem updHdc_nextUid (s : State) (f : Hdc → Hdc) : (s.updHdc f).nextUid = s.nextUid := rfl
@[simp] theorem updHdc_resets (s : State) (f : Hdc → Hdc) : (s.updHdc f).resets = s.resets := rfl

/-! ### updCsu -/

@[simp] theorem updCsu_pending (s : State) (f : Csu → Csu) : (s.updCsu f).pending = s.pending := rfl
@[simp] theorem updCsu_lpu (s : State) (f : Csu → Csu) : (s.updCsu f).lpu = s.lpu := rfl
@[simp] theorem updCsu_rrg (s : State) (f : Csu → Csu) : (s.updCsu f).rrg = s.rrg := rfl
@[simp] theorem updCsu_pin (s : State) (f : Csu → Csu) : (s.updCsu f).pin = s.pin := rfl
@[simp] theorem updCsu_tables (s : State) (f : Csu → Csu) : (s.updCsu f).tables = s.tables := rfl
@[simp] theorem updCsu_csq (s : State) (f : Csu → Csu) : (s.updCsu f).csq = s.csq := rfl
@[simp] theorem updCsu_shu (s : State) (f : Csu → Csu) : (s.updCsu f).shu = s.shu := rfl
@[simp] theorem updCsu_tpc (s : State) (f : Csu → Csu) : (s.updCsu f).tpc = s.tpc := rfl
@[simp] theorem updCsu_hdc (s : State) (f : Csu → Csu) : (s.updCsu f).hdc = s.hdc := rfl
@[simp] theorem updCsu_csu (s : State) (f : Csu → Csu) : (s.updCsu f).csu = f s.csu := rfl
@[simp] theorem updCsu_tbc (s : State) (f : Csu → Csu) : (s.updCsu f).tbc = s.tbc := rfl
@[simp] theorem updCsu_alc (s : State) (f : Csu → Csu) : (s.updCsu f).alc = s.alc := rfl
@[simp] theorem updCsu_out (s : State) (f : Csu → Csu) : (s.updCsu f).out = s.out := rfl
@[simp] theorem updCsu_nextUid (s : State) (f : Csu → Csu) : (s.updCsu f).nextUid = s.nextUid := rfl
@[simp] theorem updCsu_resets (s : State) (f : Csu → Csu) : (s.updCsu f).resets = s.resets := rfl

/-! ### updTbc -/

@[simp] theorem updTbc_pending (s : State) (f : Tbc → Tbc) : (s.updTbc f).pending = s.pending := rfl
@[simp] theorem updTbc_lpu (s : State) (f : Tbc → Tbc) : (s.updTbc f).lpu = s.lpu := rfl
@[simp] theorem updTbc_rrg (s : State) (f : Tbc → Tbc) : (s.updTbc f).rrg = s.rrg := rfl
@[simp] theorem updTbc_pin (s : State) (f : Tbc → Tbc) : (s.updTbc f).pin = s.pin := rfl
@[simp] theorem updTbc_tables (s : State) (f : Tbc → Tbc) : (s.updTbc f).tables = s.tables := rfl
@[simp] theorem updTbc_csq (s : State) (f : Tbc → Tbc) : (s.updTbc f).csq = s.csq := rfl
@[simp] theorem updTbc_shu (s : State) (f : Tbc → Tbc) : (s.updTbc f).shu = s.shu := rfl
@[simp] theorem updTbc_tpc (s : State) (f : Tbc → Tbc) : (s.updTbc f).tpc = s.tpc := rfl
@[simp] theorem updTbc_hdc (s : State) (f : Tbc → Tbc) : (s.updTbc f).hdc = s.hdc := rfl
@[simp] theorem updTbc_csu (s : State) (f : Tbc → Tbc) : (s.updTbc f).csu = s.csu := rfl
@[simp] theorem updTbc_tbc (s : State) (f : Tbc → Tbc) : (s.updTbc f).tbc = f s.tbc := rfl
@[simp] theorem updTbc_alc (s : State) (f : Tbc → Tbc) : (s.updTbc f).alc = s.alc := rfl
@[simp] theorem updTbc_out (s : State) (f : Tbc → Tbc) : (s.updTbc f).out = s.out := rfl
@[simp] theorem updTbc_nextUid (s : State) (f : Tbc → Tbc) : (s.updTbc f).nextUid = s.nextUid := rfl
@[simp] theorem updTbc_resets (s : State) (f : Tbc → Tbc) : (s.updTbc f).resets = s.resets := rfl

/-! ### updAlc -/

@[simp] theorem updAlc_pending (s : State) (f : Alc → Alc) : (s.updAlc f).pending = s.pending := rfl
@[simp] theorem updAlc_lpu (s : State) (f : Alc → Alc) : (s.updAlc f).lpu = s.lpu := rfl
@[simp] theorem updAlc_rrg (s : State) (f : Alc → Alc) : (s.updAlc f).rrg = s.rrg := rfl
@[simp] theorem updAlc_pin (s : State) (f : Alc → Alc) : (s.updAlc f).pin = s.pin := rfl
@[simp] theorem updAlc_tables (s : State) (f : Alc → Alc) : (s.updAlc f).tables = s.tables := rfl
@[simp] theorem updAlc_csq (s : State) (f : Alc → Alc) : (s.updAlc f).csq = s.csq := rfl
@[simp] theorem updAlc_shu (s : State) (f : Alc → Alc) : (s.updAlc f).shu = s.shu := rfl
@[simp] theorem updAlc_tpc (s : State) (f : Alc → Alc) : (s.updAlc f).tpc = s.tpc := rfl
@[simp] theorem updAlc_hdc (s : State) (f : Alc → Alc) : (s.updAlc f).hdc = s.hdc := rfl
@[simp] theorem updAlc_csu (s : State) (f : Alc → Alc) : (s.updAlc f).csu = s.csu := rfl
@[simp] theorem updAlc_tbc (s : State) (f : Alc → Alc) : (s.updAlc f).tbc = s.tbc := rfl
@[simp] theorem updAlc_alc (s : State) (f : Alc → Alc) : (s.updAlc f).alc = f s.alc := rfl
@[simp] theorem updAlc_out (s : State) (f : Alc → Alc) : (s.updAlc f).out = s.out := rfl
@[simp] theorem updAlc_nextUid (s : State) (f : Alc → Alc) : (s.updAlc f).nextUid = s.nextUid := rfl
@[simp] theorem updAlc_resets (s : State) (f : Alc → Alc) : (s.updAlc f).resets = s.resets := rfl

/-! ### updOut -/

@[simp] theorem updOut_pending (s : State) (f : Outputs → Outputs) : (s.updOut f).pending = s.pending := rfl
@[simp] theorem updOut_lpu (s : State) (f : Outputs → Outputs) : (s.updOut f).lpu = s.lpu := rfl
@[simp] theorem updOut_rrg (s : State) (f : Outputs → Outputs) : (s.updOut f).rrg = s.rrg := rfl
@[simp] theorem updOut_pin (s : State) (f : Outputs → Outputs) : (s.updOut f).pin = s.pin := rfl
@[simp] theorem updOut_tables (s : State) (f : Outputs → Outputs) : (s.updOut f).tables = s.tables := rfl
@[simp] theorem updOut_csq (s : State) (f : Outputs → Outputs) : (s.updOut f).csq = s.csq := rfl
@[simp] theorem updOut_shu (s : State) (f : Outputs → Outputs) : (s.updOut f).shu = s.shu := rfl
@[simp] theorem updOut_tpc (s : State) (f : Outputs → Outputs) : (s.updOut f).tpc = s.tpc := rfl
@[simp] theorem updOut_hdc (s : State) (f : Outputs → Outputs) : (s.updOut f).hdc = s.hdc := rfl
@[simp] theorem updOut_csu (s : State) (f : Outputs → Outputs) : (s.updOut f).csu = s.csu := rfl
@[simp] theorem updOut_tbc (s : State) (f : Outputs → Outputs) : (s.updOut f).tbc = s.tbc := rfl
@[simp] theorem updOut_alc (s : State) (f : Outputs → Outputs) : (s.updOut f).alc = s.alc := rfl
@[simp] theorem updOut_out (s : State) (f : Outputs → Outputs) : (s.updOut f).out = f s.out := rfl
@[simp] theorem updOut_nextUid (s : State) (f : Outputs → Outputs) : (s.updOut f).nextUid = s.nextUid := rfl
@[simp] theorem updOut_resets (s : State) (f : Outputs → Outputs) : (s.updOut f).resets = s.resets := rfl

/-! ### withPending -/

@[simp] theorem withPending_pending (s : State) (q : List Instr) : (s.withPending q).pending = q := rfl
@[simp] theorem withPending_lpu (s : State) (q : List Instr) : (s.withPending q).lpu = s.lpu := rfl
@[simp] theorem withPending_rrg (s : State) (q : List Instr) : (s.withPending q).rrg = s.rrg := rfl
@[simp] theorem withPending_pin (s : State) (q : List Instr) : (s.withPending q).pin = s.pin := rfl
@[simp] theorem withPending_tables (s : State) (q : List Instr) : (s.withPending q).tables = s.tables := rfl
@[simp] theorem withPending_csq (s : State) (q : List Instr) : (s.withPending q).csq = s.csq := rfl
@[simp] theorem withPending_shu (s : State) (q : List Instr) : (s.withPending q).shu = s.shu := rfl
@[simp] theorem withPending_tpc (s : State) (q : List Instr) : (s.withPending q).tpc = s.tpc := rfl
@[simp] theorem withPending_hdc (s : State) (q : List Instr) : (s.withPending q).hdc = s.hdc := rfl
@[simp] theorem withPending_csu (s : State) (q : List Instr) : (s.withPending q).csu = s.csu := rfl
@[simp] theorem withPending_tbc (s : State) (q : List Instr) : (s.withPending q).tbc = s.tbc := rfl
@[simp] theorem withPending_alc (s : State) (q : List Instr) : (s.withPending q).alc = s.alc := rfl
@[simp] theorem withPending_out (s : State) (q : List Instr) : (s.withPending q).out = s.out := rfl
@[simp] theorem withPending_nextUid (s : State) (q : List Instr) : (s.withPending q).nextUid = s.nextUid := rfl
@[simp] theorem withPending_resets (s : State) (q : List Instr) : (s.withPending q).resets = s.resets := rfl

/-! ### One channel of ALC -/

@[simp] theorem channel_setChannel_self (a : Alc) (c : ChannelId) (ch : Channel) :
    (a.setChannel c ch).channel c = ch := by cases c <;> rfl

theorem channel_setChannel_ne (a : Alc) {c d : ChannelId} (ch : Channel) (h : d ≠ c) :
    (a.setChannel c ch).channel d = a.channel d := by
  cases c <;> cases d <;> first | rfl | exact absurd rfl h

@[simp] theorem setChannel_ms (a : Alc) (c : ChannelId) (ch : Channel) : (a.setChannel c ch).ms = a.ms := by
  cases c <;> rfl
@[simp] theorem setChannel_map (a : Alc) (c : ChannelId) (ch : Channel) : (a.setChannel c ch).map = a.map := by
  cases c <;> rfl
@[simp] theorem setChannel_nextSeq (a : Alc) (c : ChannelId) (ch : Channel) :
    (a.setChannel c ch).nextSeq = a.nextSeq := by cases c <;> rfl
@[simp] theorem setChannel_requested (a : Alc) (c : ChannelId) (ch : Channel) :
    (a.setChannel c ch).requested = a.requested := by cases c <;> rfl
@[simp] theorem setChannel_effective (a : Alc) (c : ChannelId) (ch : Channel) :
    (a.setChannel c ch).effective = a.effective := by cases c <;> rfl
@[simp] theorem setChannel_estop (a : Alc) (c : ChannelId) (ch : Channel) :
    (a.setChannel c ch).estop = a.estop := by cases c <;> rfl
@[simp] theorem setChannel_horn (a : Alc) (c : ChannelId) (ch : Channel) : (a.setChannel c ch).horn = a.horn := by
  cases c <;> rfl

end Sys2Proof.Machine
end

