-- ==== Sys2Proof/Laws/Frames.lean ====
section
/-! SUPPORT. What each shared operation leaves unchanged: one theorem per operation, all of its untouched blocks (and, for
the operations that post, the untouched fields of the blocks they touch). -/

namespace Sys2Proof.Machine

/-- A fold keeps what each of its steps keeps. -/
theorem foldl_keep {α β : Type} (g : State → β) (f : State → α → State) (h : ∀ t a, g (f t a) = g t) (l : List α)
    (s : State) : g (l.foldl f s) = g s := by
  induction l generalizing s with
  | nil => rfl
  | cons a l ih => rw [List.foldl_cons, ih, h]

/-! ### Parts of ALC and LPU -/

@[simp] theorem setChannel_frame (a : Alc) (c : ChannelId) (ch : Channel) :
    (a.setChannel c ch).ms = a.ms ∧ (a.setChannel c ch).map = a.map ∧ (a.setChannel c ch).estop = a.estop ∧
    (a.setChannel c ch).effective = a.effective ∧ (a.setChannel c ch).requested = a.requested ∧
    (a.setChannel c ch).nextSeq = a.nextSeq ∧ (a.setChannel c ch).horn = a.horn := by
  cases c <;> simp [Alc.setChannel]

@[simp] theorem lampsOf_frame (a : Alc) :
    (lampsOf a).ms = a.ms ∧ (lampsOf a).map = a.map ∧ (lampsOf a).estop = a.estop ∧
    (lampsOf a).effective = a.effective ∧ (lampsOf a).requested = a.requested ∧ (lampsOf a).nextSeq = a.nextSeq ∧
    (lampsOf a).horn = a.horn ∧ (lampsOf a).stopCh = a.stopCh ∧ (lampsOf a).holdCh = a.holdCh ∧
    (lampsOf a).warnCh = a.warnCh ∧ (lampsOf a).noteCh = a.noteCh := by
  simp [lampsOf]

@[simp] theorem append_frame (a : Alc) (c : ChannelId) (e : AlarmEntry) :
    (a.append c e).ms = a.ms ∧ (a.append c e).map = a.map ∧ (a.append c e).estop = a.estop ∧
    (a.append c e).effective = a.effective := by
  simp [Alc.append]

@[simp] theorem fold_frame (a : Alc) (c : ChannelId) (k : AlarmKind) (subject : Option Nat) :
    (a.fold c k subject).ms = a.ms ∧ (a.fold c k subject).map = a.map ∧ (a.fold c k subject).estop = a.estop ∧
    (a.fold c k subject).effective = a.effective ∧ (a.fold c k subject).requested = a.requested := by
  simp [Alc.fold]

@[simp] theorem overflowed_frame (a : Alc) (c : ChannelId) :
    (a.overflowed c).ms = a.ms ∧ (a.overflowed c).map = a.map ∧ (a.overflowed c).estop = a.estop ∧
    (a.overflowed c).effective = a.effective ∧ (a.overflowed c).requested = a.requested := by
  simp [Alc.overflowed]

@[simp] theorem suppress_frame (a : Alc) (c : ChannelId) :
    (a.suppress c).ms = a.ms ∧ (a.suppress c).map = a.map ∧ (a.suppress c).estop = a.estop ∧
    (a.suppress c).effective = a.effective ∧ (a.suppress c).requested = a.requested := by
  simp [Alc.suppress]

@[simp] theorem choose_frame (l : Lpu) :
    l.choose.addressPins = l.addressPins ∧ l.choose.address = l.address ∧ l.choose.rxUp = l.rxUp ∧
    l.choose.rxDown = l.rxDown ∧ l.choose.downForward = l.downForward ∧ l.choose.upForward = l.upForward ∧
    l.choose.errUp = l.errUp ∧ l.choose.errDown = l.errDown ∧ l.choose.dropDown = l.dropDown ∧
    l.choose.dropUp = l.dropUp ∧ l.choose.requestDrops = l.requestDrops ∧ l.choose.windowStart = l.windowStart ∧
    l.choose.windowCount = l.windowCount ∧ l.choose.resetPending = l.resetPending ∧ l.choose.answers = l.answers ∧
    l.choose.noticeDrops = l.noticeDrops := by
  unfold Lpu.choose
  (repeat' split) <;> simp

@[simp] theorem pushOwn_frame (l : Lpu) (w : OwnFrame) :
    (l.pushOwn w).addressPins = l.addressPins ∧ (l.pushOwn w).address = l.address ∧ (l.pushOwn w).rxUp = l.rxUp ∧
    (l.pushOwn w).rxDown = l.rxDown ∧ (l.pushOwn w).downForward = l.downForward ∧
    (l.pushOwn w).upForward = l.upForward ∧ (l.pushOwn w).errUp = l.errUp ∧ (l.pushOwn w).errDown = l.errDown ∧
    (l.pushOwn w).dropDown = l.dropDown ∧ (l.pushOwn w).dropUp = l.dropUp ∧
    (l.pushOwn w).requestDrops = l.requestDrops ∧ (l.pushOwn w).windowStart = l.windowStart ∧
    (l.pushOwn w).windowCount = l.windowCount ∧ (l.pushOwn w).resetPending = l.resetPending ∧
    (l.pushOwn w).noticeDrops = l.noticeDrops ∧ (l.pushOwn w).answers = l.answers ++ [w] := by
  simp [Lpu.pushOwn]

@[simp] theorem notice_frame (l : Lpu) (e : AlarmEntry) :
    (l.notice e).addressPins = l.addressPins ∧ (l.notice e).address = l.address ∧ (l.notice e).rxUp = l.rxUp ∧
    (l.notice e).rxDown = l.rxDown ∧ (l.notice e).downForward = l.downForward ∧
    (l.notice e).upForward = l.upForward ∧ (l.notice e).errUp = l.errUp ∧ (l.notice e).errDown = l.errDown ∧
    (l.notice e).dropDown = l.dropDown ∧ (l.notice e).dropUp = l.dropUp ∧
    (l.notice e).requestDrops = l.requestDrops ∧ (l.notice e).windowStart = l.windowStart ∧
    (l.notice e).windowCount = l.windowCount ∧ (l.notice e).resetPending = l.resetPending := by
  unfold Lpu.notice
  split <;> simp

/-! ### The shared operations -/

@[simp] theorem writeRecord_frame (r : RingRecord) (s : State) :
    (writeRecord r s).pending = s.pending ∧ (writeRecord r s).lpu = s.lpu ∧ (writeRecord r s).pin = s.pin ∧
    (writeRecord r s).tables = s.tables ∧ (writeRecord r s).csq = s.csq ∧ (writeRecord r s).shu = s.shu ∧
    (writeRecord r s).tpc = s.tpc ∧ (writeRecord r s).hdc = s.hdc ∧ (writeRecord r s).csu = s.csu ∧
    (writeRecord r s).tbc = s.tbc ∧ (writeRecord r s).alc = s.alc ∧ (writeRecord r s).out = s.out ∧
    (writeRecord r s).nextUid = s.nextUid ∧ (writeRecord r s).resets = s.resets := by
  exact ⟨rfl, rfl, rfl, rfl, rfl, rfl, rfl, rfl, rfl, rfl, rfl, rfl, rfl, rfl⟩

@[simp] theorem idleTest_frame (s : State) :
    (idleTest s).pending = s.pending ∧ (idleTest s).lpu = s.lpu ∧ (idleTest s).rrg = s.rrg ∧
    (idleTest s).pin = s.pin ∧ (idleTest s).tables = s.tables ∧ (idleTest s).shu = s.shu ∧
    (idleTest s).tpc = s.tpc ∧ (idleTest s).hdc = s.hdc ∧ (idleTest s).csu = s.csu ∧ (idleTest s).tbc = s.tbc ∧
    (idleTest s).alc = s.alc ∧ (idleTest s).out = s.out ∧ (idleTest s).nextUid = s.nextUid ∧
    (idleTest s).resets = s.resets ∧ (idleTest s).csq.base = s.csq.base ∧ (idleTest s).csq.window = s.csq.window ∧
    (idleTest s).csq.abandoned = s.csq.abandoned ∧ (idleTest s).csq.replies = s.csq.replies ∧
    (idleTest s).csq.unusable = s.csq.unusable ∧ (idleTest s).csq.marks = s.csq.marks ∧
    (idleTest s).csq.ring = s.csq.ring ∧ (idleTest s).csq.fireLoad = s.csq.fireLoad ∧
    (idleTest s).csq.cycle = s.csq.cycle ∧ (idleTest s).csq.stepTimer = s.csq.stepTimer ∧
    (idleTest s).csq.exchange = s.csq.exchange ∧ (idleTest s).csq.commands = s.csq.commands := by
  unfold idleTest
  (repeat' split) <;> simp

@[simp] theorem heldTest_frame (s : State) :
    (heldTest s).pending = s.pending ∧ (heldTest s).lpu = s.lpu ∧ (heldTest s).rrg = s.rrg ∧
    (heldTest s).pin = s.pin ∧ (heldTest s).tables = s.tables ∧ (heldTest s).shu = s.shu ∧
    (heldTest s).tpc = s.tpc ∧ (heldTest s).hdc = s.hdc ∧ (heldTest s).csu = s.csu ∧ (heldTest s).tbc = s.tbc ∧
    (heldTest s).alc = s.alc ∧ (heldTest s).out = s.out ∧ (heldTest s).nextUid = s.nextUid ∧
    (heldTest s).resets = s.resets ∧ (heldTest s).csq.base = s.csq.base ∧ (heldTest s).csq.window = s.csq.window ∧
    (heldTest s).csq.abandoned = s.csq.abandoned ∧ (heldTest s).csq.replies = s.csq.replies ∧
    (heldTest s).csq.unusable = s.csq.unusable ∧ (heldTest s).csq.marks = s.csq.marks ∧
    (heldTest s).csq.ring = s.csq.ring ∧ (heldTest s).csq.fireLoad = s.csq.fireLoad ∧
    (heldTest s).csq.cycle = s.csq.cycle ∧ (heldTest s).csq.stepTimer = s.csq.stepTimer ∧
    (heldTest s).csq.exchange = s.csq.exchange ∧ (heldTest s).csq.commands = s.csq.commands := by
  unfold heldTest
  simp

@[simp] theorem settleTest_frame (s : State) :
    (settleTest s).pending = s.pending ∧ (settleTest s).lpu = s.lpu ∧ (settleTest s).rrg = s.rrg ∧
    (settleTest s).pin = s.pin ∧ (settleTest s).tables = s.tables ∧ (settleTest s).shu = s.shu ∧
    (settleTest s).tpc = s.tpc ∧ (settleTest s).hdc = s.hdc ∧ (settleTest s).csu = s.csu ∧
    (settleTest s).tbc = s.tbc ∧ (settleTest s).alc = s.alc ∧ (settleTest s).out = s.out ∧
    (settleTest s).nextUid = s.nextUid ∧ (settleTest s).resets = s.resets ∧ (settleTest s).csq.base = s.csq.base ∧
    (settleTest s).csq.window = s.csq.window ∧ (settleTest s).csq.abandoned = s.csq.abandoned ∧
    (settleTest s).csq.replies = s.csq.replies ∧ (settleTest s).csq.unusable = s.csq.unusable ∧
    (settleTest s).csq.marks = s.csq.marks ∧ (settleTest s).csq.ring = s.csq.ring ∧
    (settleTest s).csq.fireLoad = s.csq.fireLoad ∧ (settleTest s).csq.stepTimer = s.csq.stepTimer ∧
    (settleTest s).csq.exchange = s.csq.exchange ∧ (settleTest s).csq.commands = s.csq.commands := by
  unfold settleTest
  (repeat' split) <;> simp

@[simp] theorem purgeTest_frame (s : State) :
    (purgeTest s).pending = s.pending ∧ (purgeTest s).lpu = s.lpu ∧ (purgeTest s).rrg = s.rrg ∧
    (purgeTest s).pin = s.pin ∧ (purgeTest s).tables = s.tables ∧ (purgeTest s).shu = s.shu ∧
    (purgeTest s).tpc = s.tpc ∧ (purgeTest s).hdc = s.hdc ∧ (purgeTest s).csu = s.csu ∧ (purgeTest s).tbc = s.tbc ∧
    (purgeTest s).alc = s.alc ∧ (purgeTest s).out = s.out ∧ (purgeTest s).nextUid = s.nextUid ∧
    (purgeTest s).resets = s.resets ∧ (purgeTest s).csq.base = s.csq.base ∧
    (purgeTest s).csq.window = s.csq.window ∧ (purgeTest s).csq.abandoned = s.csq.abandoned ∧
    (purgeTest s).csq.replies = s.csq.replies ∧ (purgeTest s).csq.unusable = s.csq.unusable ∧
    (purgeTest s).csq.marks = s.csq.marks ∧ (purgeTest s).csq.ring = s.csq.ring ∧
    (purgeTest s).csq.fireLoad = s.csq.fireLoad ∧ (purgeTest s).csq.cycle = s.csq.cycle ∧
    (purgeTest s).csq.stepTimer = s.csq.stepTimer ∧ (purgeTest s).csq.exchange = s.csq.exchange ∧
    (purgeTest s).csq.commands = s.csq.commands := by
  unfold purgeTest
  (repeat' split) <;> simp

@[simp] theorem setClip_frame (p : Nat) (c : ClipState) (s : State) :
    (setClip p c s).pending = s.pending ∧ (setClip p c s).lpu = s.lpu ∧ (setClip p c s).rrg = s.rrg ∧
    (setClip p c s).pin = s.pin ∧ (setClip p c s).tables = s.tables ∧ (setClip p c s).shu = s.shu ∧
    (setClip p c s).tpc = s.tpc ∧ (setClip p c s).hdc = s.hdc ∧ (setClip p c s).csu = s.csu ∧
    (setClip p c s).tbc = s.tbc ∧ (setClip p c s).alc = s.alc ∧ (setClip p c s).out = s.out ∧
    (setClip p c s).nextUid = s.nextUid ∧ (setClip p c s).resets = s.resets ∧
    (setClip p c s).csq.base = s.csq.base ∧ (setClip p c s).csq.window = s.csq.window ∧
    (setClip p c s).csq.abandoned = s.csq.abandoned ∧ (setClip p c s).csq.replies = s.csq.replies ∧
    (setClip p c s).csq.unusable = s.csq.unusable ∧ (setClip p c s).csq.marks = s.csq.marks ∧
    (setClip p c s).csq.fireLoad = s.csq.fireLoad ∧ (setClip p c s).csq.seq = s.csq.seq ∧
    (setClip p c s).csq.cycle = s.csq.cycle ∧ (setClip p c s).csq.stepTimer = s.csq.stepTimer ∧
    (setClip p c s).csq.exchange = s.csq.exchange ∧ (setClip p c s).csq.commands = s.csq.commands := by
  unfold setClip
  simp

@[simp] theorem fireLoadDown_frame (d : Nat) (s : State) :
    (fireLoadDown d s).pending = s.pending ∧ (fireLoadDown d s).lpu = s.lpu ∧ (fireLoadDown d s).rrg = s.rrg ∧
    (fireLoadDown d s).pin = s.pin ∧ (fireLoadDown d s).tables = s.tables ∧ (fireLoadDown d s).shu = s.shu ∧
    (fireLoadDown d s).tpc = s.tpc ∧ (fireLoadDown d s).hdc = s.hdc ∧ (fireLoadDown d s).csu = s.csu ∧
    (fireLoadDown d s).tbc = s.tbc ∧ (fireLoadDown d s).alc = s.alc ∧ (fireLoadDown d s).out = s.out ∧
    (fireLoadDown d s).nextUid = s.nextUid ∧ (fireLoadDown d s).resets = s.resets ∧
    (fireLoadDown d s).csq.base = s.csq.base ∧ (fireLoadDown d s).csq.window = s.csq.window ∧
    (fireLoadDown d s).csq.abandoned = s.csq.abandoned ∧ (fireLoadDown d s).csq.replies = s.csq.replies ∧
    (fireLoadDown d s).csq.unusable = s.csq.unusable ∧ (fireLoadDown d s).csq.marks = s.csq.marks ∧
    (fireLoadDown d s).csq.ring = s.csq.ring ∧ (fireLoadDown d s).csq.seq = s.csq.seq ∧
    (fireLoadDown d s).csq.cycle = s.csq.cycle ∧ (fireLoadDown d s).csq.stepTimer = s.csq.stepTimer ∧
    (fireLoadDown d s).csq.exchange = s.csq.exchange ∧ (fireLoadDown d s).csq.commands = s.csq.commands := by
  unfold fireLoadDown
  simp

@[simp] theorem clearCommand_frame (station : Nat) (s : State) :
    (clearCommand station s).pending = s.pending ∧ (clearCommand station s).lpu = s.lpu ∧
    (clearCommand station s).rrg = s.rrg ∧ (clearCommand station s).pin = s.pin ∧
    (clearCommand station s).tables = s.tables ∧ (clearCommand station s).shu = s.shu ∧
    (clearCommand station s).tpc = s.tpc ∧ (clearCommand station s).hdc = s.hdc ∧
    (clearCommand station s).csu = s.csu ∧ (clearCommand station s).tbc = s.tbc ∧
    (clearCommand station s).alc = s.alc ∧ (clearCommand station s).out = s.out ∧
    (clearCommand station s).nextUid = s.nextUid ∧ (clearCommand station s).resets = s.resets ∧
    (clearCommand station s).csq.base = s.csq.base ∧ (clearCommand station s).csq.window = s.csq.window ∧
    (clearCommand station s).csq.abandoned = s.csq.abandoned ∧
    (clearCommand station s).csq.replies = s.csq.replies ∧ (clearCommand station s).csq.unusable = s.csq.unusable ∧
    (clearCommand station s).csq.marks = s.csq.marks ∧ (clearCommand station s).csq.ring = s.csq.ring ∧
    (clearCommand station s).csq.fireLoad = s.csq.fireLoad ∧ (clearCommand station s).csq.seq = s.csq.seq ∧
    (clearCommand station s).csq.cycle = s.csq.cycle ∧ (clearCommand station s).csq.stepTimer = s.csq.stepTimer ∧
    (clearCommand station s).csq.exchange = s.csq.exchange := by
  unfold clearCommand
  simp

@[simp] theorem emptiedTest_frame (s : State) :
    (emptiedTest s).pending = s.pending ∧ (emptiedTest s).lpu = s.lpu ∧ (emptiedTest s).rrg = s.rrg ∧
    (emptiedTest s).pin = s.pin ∧ (emptiedTest s).tables = s.tables ∧ (emptiedTest s).shu = s.shu ∧
    (emptiedTest s).tpc = s.tpc ∧ (emptiedTest s).hdc = s.hdc ∧ (emptiedTest s).csu = s.csu ∧
    (emptiedTest s).tbc = s.tbc ∧ (emptiedTest s).alc = s.alc ∧ (emptiedTest s).out = s.out ∧
    (emptiedTest s).nextUid = s.nextUid ∧ (emptiedTest s).resets = s.resets ∧
    (emptiedTest s).csq.base = s.csq.base ∧ (emptiedTest s).csq.window = s.csq.window ∧
    (emptiedTest s).csq.abandoned = s.csq.abandoned ∧ (emptiedTest s).csq.replies = s.csq.replies ∧
    (emptiedTest s).csq.unusable = s.csq.unusable ∧ (emptiedTest s).csq.marks = s.csq.marks ∧
    (emptiedTest s).csq.ring = s.csq.ring ∧ (emptiedTest s).csq.fireLoad = s.csq.fireLoad ∧
    (emptiedTest s).csq.stepTimer = s.csq.stepTimer ∧ (emptiedTest s).csq.commands = s.csq.commands := by
  unfold emptiedTest
  (repeat' split) <;> simp

@[simp] theorem unbook_frame (station clip : Nat) (s : State) :
    (unbook station clip s).pending = s.pending ∧ (unbook station clip s).lpu = s.lpu ∧
    (unbook station clip s).rrg = s.rrg ∧ (unbook station clip s).pin = s.pin ∧
    (unbook station clip s).tables = s.tables ∧ (unbook station clip s).shu = s.shu ∧
    (unbook station clip s).tpc = s.tpc ∧ (unbook station clip s).hdc = s.hdc ∧
    (unbook station clip s).csu = s.csu ∧ (unbook station clip s).tbc = s.tbc ∧
    (unbook station clip s).alc = s.alc ∧ (unbook station clip s).out = s.out ∧
    (unbook station clip s).nextUid = s.nextUid ∧ (unbook station clip s).resets = s.resets ∧
    (unbook station clip s).csq.base = s.csq.base ∧ (unbook station clip s).csq.window = s.csq.window ∧
    (unbook station clip s).csq.abandoned = s.csq.abandoned ∧ (unbook station clip s).csq.replies = s.csq.replies ∧
    (unbook station clip s).csq.unusable = s.csq.unusable ∧ (unbook station clip s).csq.marks = s.csq.marks ∧
    (unbook station clip s).csq.ring = s.csq.ring ∧ (unbook station clip s).csq.stepTimer = s.csq.stepTimer := by
  unfold unbook
  simp only []
  (repeat' split) <;> simp

@[simp] theorem releaseClip_frame (w : WindowEntry) (s : State) :
    (releaseClip w s).pending = s.pending ∧ (releaseClip w s).lpu = s.lpu ∧ (releaseClip w s).rrg = s.rrg ∧
    (releaseClip w s).pin = s.pin ∧ (releaseClip w s).tables = s.tables ∧ (releaseClip w s).shu = s.shu ∧
    (releaseClip w s).tpc = s.tpc ∧ (releaseClip w s).hdc = s.hdc ∧ (releaseClip w s).csu = s.csu ∧
    (releaseClip w s).tbc = s.tbc ∧ (releaseClip w s).alc = s.alc ∧ (releaseClip w s).out = s.out ∧
    (releaseClip w s).nextUid = s.nextUid ∧ (releaseClip w s).resets = s.resets ∧
    (releaseClip w s).csq.base = s.csq.base ∧ (releaseClip w s).csq.window = s.csq.window ∧
    (releaseClip w s).csq.abandoned = s.csq.abandoned ∧ (releaseClip w s).csq.replies = s.csq.replies ∧
    (releaseClip w s).csq.unusable = s.csq.unusable ∧ (releaseClip w s).csq.marks = s.csq.marks ∧
    (releaseClip w s).csq.stepTimer = s.csq.stepTimer := by
  unfold releaseClip
  (repeat' split) <;> simp

@[simp] theorem unwindFrom_frame (first : Nat) (s : State) :
    (unwindFrom first s).pending = s.pending ∧ (unwindFrom first s).lpu = s.lpu ∧
    (unwindFrom first s).rrg = s.rrg ∧ (unwindFrom first s).pin = s.pin ∧ (unwindFrom first s).tables = s.tables ∧
    (unwindFrom first s).shu = s.shu ∧ (unwindFrom first s).tpc = s.tpc ∧ (unwindFrom first s).hdc = s.hdc ∧
    (unwindFrom first s).csu = s.csu ∧ (unwindFrom first s).tbc = s.tbc ∧ (unwindFrom first s).alc = s.alc ∧
    (unwindFrom first s).out = s.out ∧ (unwindFrom first s).nextUid = s.nextUid ∧
    (unwindFrom first s).resets = s.resets := by
  have h : ∀ (l : List WindowEntry) (t : State), (l.foldl (fun t w => releaseClip w t) t) =
      { t with csq := (l.foldl (fun t w => releaseClip w t) t).csq } := by
    intro l
    induction l with
    | nil => intro t; rfl
    | cons w l ih =>
      intro t
      rw [List.foldl_cons, ih]
      have hw : releaseClip w t = { t with csq := (releaseClip w t).csq } := by
        cases hq : releaseClip w t
        have := releaseClip_frame w t
        rw [hq] at this
        simp_all
      rw [hw]
  simp only [unwindFrom]
  refine ⟨?_, ?_, ?_, ?_, ?_, ?_, ?_, ?_, ?_, ?_, ?_, ?_, ?_, ?_⟩ <;> (simp only [State.updCsq]; rw [h])

/-- Removing a TEST command changes the ring and the commands alone. -/
theorem removeTest_shape (c : SlotCommand) (n : Nat) (s : State) : ∃ r k,
    removeTest c n s = { s with csq := { s.csq with ring := r, commands := k } } := by
  unfold removeTest
  split
  · exact ⟨_, _, rfl⟩
  · exact ⟨s.csq.ring, s.csq.commands, rfl⟩

@[simp] theorem removeTests_frame (s : State) :
    (removeTests s).pending = s.pending ∧ (removeTests s).lpu = s.lpu ∧ (removeTests s).rrg = s.rrg ∧
    (removeTests s).pin = s.pin ∧ (removeTests s).tables = s.tables ∧ (removeTests s).shu = s.shu ∧
    (removeTests s).tpc = s.tpc ∧ (removeTests s).hdc = s.hdc ∧ (removeTests s).csu = s.csu ∧
    (removeTests s).tbc = s.tbc ∧ (removeTests s).alc = s.alc ∧ (removeTests s).out = s.out ∧
    (removeTests s).nextUid = s.nextUid ∧ (removeTests s).resets = s.resets ∧
    (removeTests s).csq.base = s.csq.base ∧ (removeTests s).csq.window = s.csq.window ∧
    (removeTests s).csq.fireLoad = s.csq.fireLoad ∧ (removeTests s).csq.abandoned = s.csq.abandoned ∧
    (removeTests s).csq.replies = s.csq.replies ∧ (removeTests s).csq.unusable = s.csq.unusable ∧
    (removeTests s).csq.marks = s.csq.marks ∧ (removeTests s).csq.stepTimer = s.csq.stepTimer := by
  have h : ∀ (l : List Nat) (t : State), ∃ r c,
      (l.foldl (fun t n => removeTest (s.csq.commands.getD (n - 1) .none) n t) t) =
      { t with csq := { t.csq with ring := r, commands := c } } := by
    intro l
    induction l with
    | nil => intro t; exact ⟨t.csq.ring, t.csq.commands, rfl⟩
    | cons n l ih =>
      intro t
      obtain ⟨r', c', e'⟩ := removeTest_shape (s.csq.commands.getD (n - 1) .none) n t
      obtain ⟨r, c, e⟩ := ih (removeTest (s.csq.commands.getD (n - 1) .none) n t)
      exact ⟨r, c, by rw [List.foldl_cons, e, e']⟩
  unfold removeTests
  split
  · obtain ⟨r, c, e⟩ := h (List.range' 1 Config.stationCount) s
    rw [e]
    simp
  · simp
  · simp

@[simp] theorem closeSweep_frame (r : SweepResult) (s : State) :
    (closeSweep r s).pending = s.pending ∧ (closeSweep r s).lpu = s.lpu ∧ (closeSweep r s).rrg = s.rrg ∧
    (closeSweep r s).pin = s.pin ∧ (closeSweep r s).tables = s.tables ∧ (closeSweep r s).tpc = s.tpc ∧
    (closeSweep r s).hdc = s.hdc ∧ (closeSweep r s).csu = s.csu ∧ (closeSweep r s).tbc = s.tbc ∧
    (closeSweep r s).alc = s.alc ∧ (closeSweep r s).out = s.out ∧ (closeSweep r s).nextUid = s.nextUid ∧
    (closeSweep r s).resets = s.resets ∧ (closeSweep r s).shu.records = s.shu.records ∧
    (closeSweep r s).shu.subst = s.shu.subst ∧ (closeSweep r s).csq.base = s.csq.base ∧
    (closeSweep r s).csq.window = s.csq.window ∧ (closeSweep r s).csq.fireLoad = s.csq.fireLoad ∧
    (closeSweep r s).csq.abandoned = s.csq.abandoned ∧ (closeSweep r s).csq.replies = s.csq.replies ∧
    (closeSweep r s).csq.unusable = s.csq.unusable ∧ (closeSweep r s).csq.marks = s.csq.marks ∧
    (closeSweep r s).csq.stepTimer = s.csq.stepTimer := by
  unfold closeSweep
  simp

@[simp] theorem resumeStep_frame (s : State) :
    (resumeStep s).pending = s.pending ∧ (resumeStep s).lpu = s.lpu ∧ (resumeStep s).rrg = s.rrg ∧
    (resumeStep s).pin = s.pin ∧ (resumeStep s).tables = s.tables ∧ (resumeStep s).shu = s.shu ∧
    (resumeStep s).tpc = s.tpc ∧ (resumeStep s).hdc = s.hdc ∧ (resumeStep s).csu = s.csu ∧
    (resumeStep s).tbc = s.tbc ∧ (resumeStep s).alc = s.alc ∧ (resumeStep s).nextUid = s.nextUid ∧
    (resumeStep s).resets = s.resets ∧ (resumeStep s).csq.base = s.csq.base ∧
    (resumeStep s).csq.window = s.csq.window ∧ (resumeStep s).csq.abandoned = s.csq.abandoned ∧
    (resumeStep s).csq.replies = s.csq.replies ∧ (resumeStep s).csq.unusable = s.csq.unusable ∧
    (resumeStep s).csq.marks = s.csq.marks ∧ (resumeStep s).csq.ring = s.csq.ring ∧
    (resumeStep s).csq.fireLoad = s.csq.fireLoad ∧ (resumeStep s).csq.seq = s.csq.seq ∧
    (resumeStep s).csq.cycle = s.csq.cycle ∧ (resumeStep s).csq.exchange = s.csq.exchange ∧
    (resumeStep s).csq.commands = s.csq.commands := by
  unfold resumeStep
  (repeat' split) <;> simp

@[simp] theorem driveTransfer_frame (op : TransferOp) (c : LineCommand) (s : State) :
    (driveTransfer op c s).pending = s.pending ∧ (driveTransfer op c s).lpu = s.lpu ∧
    (driveTransfer op c s).rrg = s.rrg ∧ (driveTransfer op c s).pin = s.pin ∧
    (driveTransfer op c s).tables = s.tables ∧ (driveTransfer op c s).csq = s.csq ∧
    (driveTransfer op c s).shu = s.shu ∧ (driveTransfer op c s).tpc = s.tpc ∧ (driveTransfer op c s).hdc = s.hdc ∧
    (driveTransfer op c s).csu = s.csu ∧ (driveTransfer op c s).tbc = s.tbc ∧ (driveTransfer op c s).alc = s.alc ∧
    (driveTransfer op c s).nextUid = s.nextUid ∧ (driveTransfer op c s).resets = s.resets := by
  unfold driveTransfer
  (repeat' split) <;> simp

@[simp] theorem resumeTransfer_frame (s : State) :
    (resumeTransfer s).pending = s.pending ∧ (resumeTransfer s).lpu = s.lpu ∧ (resumeTransfer s).rrg = s.rrg ∧
    (resumeTransfer s).pin = s.pin ∧ (resumeTransfer s).tables = s.tables ∧ (resumeTransfer s).csq = s.csq ∧
    (resumeTransfer s).shu = s.shu ∧ (resumeTransfer s).hdc = s.hdc ∧ (resumeTransfer s).csu = s.csu ∧
    (resumeTransfer s).tbc = s.tbc ∧ (resumeTransfer s).alc = s.alc ∧ (resumeTransfer s).nextUid = s.nextUid ∧
    (resumeTransfer s).resets = s.resets ∧ (resumeTransfer s).tpc.tape = s.tpc.tape ∧
    (resumeTransfer s).tpc.verified = s.tpc.verified ∧ (resumeTransfer s).tpc.reel = s.tpc.reel ∧
    (resumeTransfer s).tpc.rejectGate = s.tpc.rejectGate ∧ (resumeTransfer s).tpc.taped = s.tpc.taped ∧
    (resumeTransfer s).tpc.tension = s.tpc.tension ∧ (resumeTransfer s).tpc.marks = s.tpc.marks := by
  unfold resumeTransfer
  (repeat' split) <;> simp

@[simp] theorem markRestarts_frame (s : State) :
    (markRestarts s).pending = s.pending ∧ (markRestarts s).lpu = s.lpu ∧ (markRestarts s).rrg = s.rrg ∧
    (markRestarts s).pin = s.pin ∧ (markRestarts s).tables = s.tables ∧ (markRestarts s).csq = s.csq ∧
    (markRestarts s).shu = s.shu ∧ (markRestarts s).hdc = s.hdc ∧ (markRestarts s).csu = s.csu ∧
    (markRestarts s).alc = s.alc ∧ (markRestarts s).out = s.out ∧ (markRestarts s).nextUid = s.nextUid ∧
    (markRestarts s).resets = s.resets ∧ (markRestarts s).tpc.tape = s.tpc.tape ∧
    (markRestarts s).tpc.verified = s.tpc.verified ∧ (markRestarts s).tpc.reel = s.tpc.reel ∧
    (markRestarts s).tpc.rejectGate = s.tpc.rejectGate ∧ (markRestarts s).tpc.taped = s.tpc.taped ∧
    (markRestarts s).tpc.tension = s.tpc.tension ∧ (markRestarts s).tpc.marks = s.tpc.marks ∧
    (markRestarts s).tbc.pattern = s.tbc.pattern ∧ (markRestarts s).tbc.panel = s.tbc.panel ∧
    (markRestarts s).tbc.current = s.tbc.current ∧ (markRestarts s).tbc.loadWanted = s.tbc.loadWanted ∧
    (markRestarts s).tbc.handlerTimer = s.tbc.handlerTimer ∧ (markRestarts s).tbc.handler = s.tbc.handler ∧
    (markRestarts s).tbc.images = s.tbc.images ∧ (markRestarts s).tbc.cursor = s.tbc.cursor ∧
    (markRestarts s).tbc.move = s.tbc.move ∧ (markRestarts s).tbc.moveTimer = s.tbc.moveTimer ∧
    (markRestarts s).tbc.inPosition = s.tbc.inPosition ∧ (markRestarts s).tbc.limits = s.tbc.limits ∧
    (markRestarts s).tpc.transfer = s.tpc.transfer ∧ (markRestarts s).tpc.timer = s.tpc.timer := by
  unfold markRestarts
  simp only []
  (repeat' split) <;> simp

@[simp] theorem clearRestarts_frame (s : State) :
    (clearRestarts s).pending = s.pending ∧ (clearRestarts s).lpu = s.lpu ∧ (clearRestarts s).rrg = s.rrg ∧
    (clearRestarts s).pin = s.pin ∧ (clearRestarts s).tables = s.tables ∧ (clearRestarts s).csq = s.csq ∧
    (clearRestarts s).shu = s.shu ∧ (clearRestarts s).hdc = s.hdc ∧ (clearRestarts s).csu = s.csu ∧
    (clearRestarts s).alc = s.alc ∧ (clearRestarts s).out = s.out ∧ (clearRestarts s).nextUid = s.nextUid ∧
    (clearRestarts s).resets = s.resets ∧ (clearRestarts s).tpc.tape = s.tpc.tape ∧
    (clearRestarts s).tpc.verified = s.tpc.verified ∧ (clearRestarts s).tpc.reel = s.tpc.reel ∧
    (clearRestarts s).tpc.rejectGate = s.tpc.rejectGate ∧ (clearRestarts s).tpc.taped = s.tpc.taped ∧
    (clearRestarts s).tpc.tension = s.tpc.tension ∧ (clearRestarts s).tpc.marks = s.tpc.marks ∧
    (clearRestarts s).tbc.pattern = s.tbc.pattern ∧ (clearRestarts s).tbc.panel = s.tbc.panel ∧
    (clearRestarts s).tbc.current = s.tbc.current ∧ (clearRestarts s).tbc.loadWanted = s.tbc.loadWanted ∧
    (clearRestarts s).tbc.handlerTimer = s.tbc.handlerTimer ∧ (clearRestarts s).tbc.handler = s.tbc.handler ∧
    (clearRestarts s).tbc.images = s.tbc.images ∧ (clearRestarts s).tbc.cursor = s.tbc.cursor ∧
    (clearRestarts s).tbc.move = s.tbc.move ∧ (clearRestarts s).tbc.moveTimer = s.tbc.moveTimer ∧
    (clearRestarts s).tbc.inPosition = s.tbc.inPosition ∧ (clearRestarts s).tbc.limits = s.tbc.limits ∧
    (clearRestarts s).tpc.transfer = s.tpc.transfer ∧ (clearRestarts s).tpc.timer = s.tpc.timer := by
  unfold clearRestarts
  simp

@[simp] theorem levelTold_frame (old : Level) (s : State) :
    (levelTold old s).pending = s.pending ∧ (levelTold old s).lpu = s.lpu ∧ (levelTold old s).rrg = s.rrg ∧
    (levelTold old s).pin = s.pin ∧ (levelTold old s).tables = s.tables ∧ (levelTold old s).shu = s.shu ∧
    (levelTold old s).hdc = s.hdc ∧ (levelTold old s).csu = s.csu ∧ (levelTold old s).alc = s.alc ∧
    (levelTold old s).nextUid = s.nextUid ∧ (levelTold old s).resets = s.resets ∧
    (levelTold old s).tpc.tape = s.tpc.tape ∧ (levelTold old s).tpc.verified = s.tpc.verified ∧
    (levelTold old s).tpc.reel = s.tpc.reel ∧ (levelTold old s).tpc.rejectGate = s.tpc.rejectGate ∧
    (levelTold old s).tpc.taped = s.tpc.taped ∧ (levelTold old s).tpc.tension = s.tpc.tension ∧
    (levelTold old s).tpc.marks = s.tpc.marks ∧ (levelTold old s).tbc.pattern = s.tbc.pattern ∧
    (levelTold old s).tbc.panel = s.tbc.panel ∧ (levelTold old s).tbc.current = s.tbc.current ∧
    (levelTold old s).tbc.loadWanted = s.tbc.loadWanted ∧ (levelTold old s).tbc.handlerTimer = s.tbc.handlerTimer ∧
    (levelTold old s).tbc.handler = s.tbc.handler ∧ (levelTold old s).tbc.images = s.tbc.images ∧
    (levelTold old s).tbc.cursor = s.tbc.cursor ∧ (levelTold old s).tbc.move = s.tbc.move ∧
    (levelTold old s).tbc.moveTimer = s.tbc.moveTimer ∧ (levelTold old s).tbc.inPosition = s.tbc.inPosition ∧
    (levelTold old s).tbc.limits = s.tbc.limits ∧ (levelTold old s).csq.base = s.csq.base ∧
    (levelTold old s).csq.window = s.csq.window ∧ (levelTold old s).csq.abandoned = s.csq.abandoned ∧
    (levelTold old s).csq.replies = s.csq.replies ∧ (levelTold old s).csq.unusable = s.csq.unusable ∧
    (levelTold old s).csq.marks = s.csq.marks ∧ (levelTold old s).csq.ring = s.csq.ring ∧
    (levelTold old s).csq.fireLoad = s.csq.fireLoad ∧ (levelTold old s).csq.cycle = s.csq.cycle ∧
    (levelTold old s).csq.exchange = s.csq.exchange ∧ (levelTold old s).csq.commands = s.csq.commands := by
  unfold levelTold
  (repeat' split) <;> simp

@[simp] theorem recompute_frame (s : State) :
    (recompute s).pending = s.pending ∧ (recompute s).lpu = s.lpu ∧ (recompute s).rrg = s.rrg ∧
    (recompute s).pin = s.pin ∧ (recompute s).tables = s.tables ∧ (recompute s).shu = s.shu ∧
    (recompute s).hdc = s.hdc ∧ (recompute s).csu = s.csu ∧ (recompute s).nextUid = s.nextUid ∧
    (recompute s).resets = s.resets ∧ (recompute s).tpc.tape = s.tpc.tape ∧
    (recompute s).tpc.verified = s.tpc.verified ∧ (recompute s).tpc.reel = s.tpc.reel ∧
    (recompute s).tpc.rejectGate = s.tpc.rejectGate ∧ (recompute s).tpc.taped = s.tpc.taped ∧
    (recompute s).tpc.tension = s.tpc.tension ∧ (recompute s).tpc.marks = s.tpc.marks ∧
    (recompute s).tbc.pattern = s.tbc.pattern ∧ (recompute s).tbc.panel = s.tbc.panel ∧
    (recompute s).tbc.current = s.tbc.current ∧ (recompute s).tbc.loadWanted = s.tbc.loadWanted ∧
    (recompute s).tbc.handlerTimer = s.tbc.handlerTimer ∧ (recompute s).tbc.handler = s.tbc.handler ∧
    (recompute s).tbc.images = s.tbc.images ∧ (recompute s).tbc.cursor = s.tbc.cursor ∧
    (recompute s).tbc.move = s.tbc.move ∧ (recompute s).tbc.moveTimer = s.tbc.moveTimer ∧
    (recompute s).tbc.inPosition = s.tbc.inPosition ∧ (recompute s).tbc.limits = s.tbc.limits ∧
    (recompute s).csq.base = s.csq.base ∧ (recompute s).csq.window = s.csq.window ∧
    (recompute s).csq.abandoned = s.csq.abandoned ∧ (recompute s).csq.replies = s.csq.replies ∧
    (recompute s).csq.unusable = s.csq.unusable ∧ (recompute s).csq.marks = s.csq.marks ∧
    (recompute s).alc.ms = s.alc.ms ∧ (recompute s).alc.map = s.alc.map ∧ (recompute s).alc.estop = s.alc.estop ∧
    (recompute s).csq.ring = s.csq.ring ∧ (recompute s).csq.fireLoad = s.csq.fireLoad ∧
    (recompute s).csq.cycle = s.csq.cycle ∧ (recompute s).csq.exchange = s.csq.exchange ∧
    (recompute s).csq.commands = s.csq.commands ∧ (recompute s).alc.requested = s.alc.requested ∧
    (recompute s).alc.stopCh = s.alc.stopCh ∧ (recompute s).alc.holdCh = s.alc.holdCh ∧
    (recompute s).alc.warnCh = s.alc.warnCh ∧ (recompute s).alc.noteCh = s.alc.noteCh ∧
    (recompute s).alc.nextSeq = s.alc.nextSeq ∧ (recompute s).alc.horn = s.alc.horn := by
  unfold recompute
  simp only []
  (repeat' split) <;> simp

@[simp] theorem postQuiet_frame (k : AlarmKind) (subject : Option Nat) (s : State) :
    (postQuiet k subject s).pending = s.pending ∧ (postQuiet k subject s).rrg = s.rrg ∧
    (postQuiet k subject s).pin = s.pin ∧ (postQuiet k subject s).tables = s.tables ∧
    (postQuiet k subject s).shu = s.shu ∧ (postQuiet k subject s).hdc = s.hdc ∧
    (postQuiet k subject s).csu = s.csu ∧ (postQuiet k subject s).nextUid = s.nextUid ∧
    (postQuiet k subject s).resets = s.resets ∧ (postQuiet k subject s).tpc.tape = s.tpc.tape ∧
    (postQuiet k subject s).tpc.verified = s.tpc.verified ∧ (postQuiet k subject s).tpc.reel = s.tpc.reel ∧
    (postQuiet k subject s).tpc.rejectGate = s.tpc.rejectGate ∧ (postQuiet k subject s).tpc.taped = s.tpc.taped ∧
    (postQuiet k subject s).tpc.tension = s.tpc.tension ∧ (postQuiet k subject s).tpc.marks = s.tpc.marks ∧
    (postQuiet k subject s).tbc.pattern = s.tbc.pattern ∧ (postQuiet k subject s).tbc.panel = s.tbc.panel ∧
    (postQuiet k subject s).tbc.current = s.tbc.current ∧
    (postQuiet k subject s).tbc.loadWanted = s.tbc.loadWanted ∧
    (postQuiet k subject s).tbc.handlerTimer = s.tbc.handlerTimer ∧
    (postQuiet k subject s).tbc.handler = s.tbc.handler ∧ (postQuiet k subject s).tbc.images = s.tbc.images ∧
    (postQuiet k subject s).tbc.cursor = s.tbc.cursor ∧ (postQuiet k subject s).tbc.move = s.tbc.move ∧
    (postQuiet k subject s).tbc.moveTimer = s.tbc.moveTimer ∧
    (postQuiet k subject s).tbc.inPosition = s.tbc.inPosition ∧ (postQuiet k subject s).tbc.limits = s.tbc.limits ∧
    (postQuiet k subject s).csq.base = s.csq.base ∧ (postQuiet k subject s).csq.window = s.csq.window ∧
    (postQuiet k subject s).csq.abandoned = s.csq.abandoned ∧ (postQuiet k subject s).csq.replies = s.csq.replies ∧
    (postQuiet k subject s).csq.unusable = s.csq.unusable ∧ (postQuiet k subject s).csq.marks = s.csq.marks ∧
    (postQuiet k subject s).alc.ms = s.alc.ms ∧ (postQuiet k subject s).alc.map = s.alc.map ∧
    (postQuiet k subject s).alc.estop = s.alc.estop ∧ (postQuiet k subject s).lpu.addressPins = s.lpu.addressPins ∧
    (postQuiet k subject s).lpu.address = s.lpu.address ∧ (postQuiet k subject s).lpu.rxUp = s.lpu.rxUp ∧
    (postQuiet k subject s).lpu.rxDown = s.lpu.rxDown ∧
    (postQuiet k subject s).lpu.downForward = s.lpu.downForward ∧
    (postQuiet k subject s).lpu.upForward = s.lpu.upForward ∧ (postQuiet k subject s).lpu.errUp = s.lpu.errUp ∧
    (postQuiet k subject s).lpu.errDown = s.lpu.errDown ∧ (postQuiet k subject s).lpu.dropDown = s.lpu.dropDown ∧
    (postQuiet k subject s).lpu.dropUp = s.lpu.dropUp ∧
    (postQuiet k subject s).lpu.requestDrops = s.lpu.requestDrops ∧
    (postQuiet k subject s).lpu.windowStart = s.lpu.windowStart ∧
    (postQuiet k subject s).lpu.windowCount = s.lpu.windowCount ∧
    (postQuiet k subject s).lpu.resetPending = s.lpu.resetPending := by
  unfold postQuiet postWith postIn
  simp only
  (repeat' split) <;> simp

@[simp] theorem abortSweep_frame (s : State) :
    (abortSweep s).pending = s.pending ∧ (abortSweep s).rrg = s.rrg ∧ (abortSweep s).pin = s.pin ∧
    (abortSweep s).tables = s.tables ∧ (abortSweep s).hdc = s.hdc ∧ (abortSweep s).csu = s.csu ∧
    (abortSweep s).nextUid = s.nextUid ∧ (abortSweep s).resets = s.resets ∧ (abortSweep s).tpc.tape = s.tpc.tape ∧
    (abortSweep s).tpc.verified = s.tpc.verified ∧ (abortSweep s).tpc.reel = s.tpc.reel ∧
    (abortSweep s).tpc.rejectGate = s.tpc.rejectGate ∧ (abortSweep s).tpc.taped = s.tpc.taped ∧
    (abortSweep s).tpc.tension = s.tpc.tension ∧ (abortSweep s).tpc.marks = s.tpc.marks ∧
    (abortSweep s).tbc.pattern = s.tbc.pattern ∧ (abortSweep s).tbc.panel = s.tbc.panel ∧
    (abortSweep s).tbc.current = s.tbc.current ∧ (abortSweep s).tbc.loadWanted = s.tbc.loadWanted ∧
    (abortSweep s).tbc.handlerTimer = s.tbc.handlerTimer ∧ (abortSweep s).tbc.handler = s.tbc.handler ∧
    (abortSweep s).tbc.images = s.tbc.images ∧ (abortSweep s).tbc.cursor = s.tbc.cursor ∧
    (abortSweep s).tbc.move = s.tbc.move ∧ (abortSweep s).tbc.moveTimer = s.tbc.moveTimer ∧
    (abortSweep s).tbc.inPosition = s.tbc.inPosition ∧ (abortSweep s).tbc.limits = s.tbc.limits ∧
    (abortSweep s).alc.ms = s.alc.ms ∧ (abortSweep s).alc.map = s.alc.map ∧
    (abortSweep s).alc.estop = s.alc.estop ∧ (abortSweep s).shu.records = s.shu.records ∧
    (abortSweep s).shu.subst = s.shu.subst ∧ (abortSweep s).lpu.addressPins = s.lpu.addressPins ∧
    (abortSweep s).lpu.address = s.lpu.address ∧ (abortSweep s).lpu.rxUp = s.lpu.rxUp ∧
    (abortSweep s).lpu.rxDown = s.lpu.rxDown ∧ (abortSweep s).lpu.downForward = s.lpu.downForward ∧
    (abortSweep s).lpu.upForward = s.lpu.upForward ∧ (abortSweep s).lpu.errUp = s.lpu.errUp ∧
    (abortSweep s).lpu.errDown = s.lpu.errDown ∧ (abortSweep s).lpu.dropDown = s.lpu.dropDown ∧
    (abortSweep s).lpu.dropUp = s.lpu.dropUp ∧ (abortSweep s).lpu.requestDrops = s.lpu.requestDrops ∧
    (abortSweep s).lpu.windowStart = s.lpu.windowStart ∧ (abortSweep s).lpu.windowCount = s.lpu.windowCount ∧
    (abortSweep s).lpu.resetPending = s.lpu.resetPending ∧ (abortSweep s).csq.window = s.csq.window ∧
    (abortSweep s).csq.base = s.csq.base ∧ (abortSweep s).csq.unusable = s.csq.unusable ∧
    (abortSweep s).csq.marks = s.csq.marks := by
  unfold abortSweep
  (repeat' split) <;> simp

@[simp] theorem post_frame (k : AlarmKind) (subject : Option Nat) (s : State) :
    (post k subject s).pending = s.pending ∧ (post k subject s).rrg = s.rrg ∧ (post k subject s).pin = s.pin ∧
    (post k subject s).tables = s.tables ∧ (post k subject s).hdc = s.hdc ∧ (post k subject s).csu = s.csu ∧
    (post k subject s).nextUid = s.nextUid ∧ (post k subject s).resets = s.resets ∧
    (post k subject s).tpc.tape = s.tpc.tape ∧ (post k subject s).tpc.verified = s.tpc.verified ∧
    (post k subject s).tpc.reel = s.tpc.reel ∧ (post k subject s).tpc.rejectGate = s.tpc.rejectGate ∧
    (post k subject s).tpc.taped = s.tpc.taped ∧ (post k subject s).tpc.tension = s.tpc.tension ∧
    (post k subject s).tpc.marks = s.tpc.marks ∧ (post k subject s).tbc.pattern = s.tbc.pattern ∧
    (post k subject s).tbc.panel = s.tbc.panel ∧ (post k subject s).tbc.current = s.tbc.current ∧
    (post k subject s).tbc.loadWanted = s.tbc.loadWanted ∧
    (post k subject s).tbc.handlerTimer = s.tbc.handlerTimer ∧ (post k subject s).tbc.handler = s.tbc.handler ∧
    (post k subject s).tbc.images = s.tbc.images ∧ (post k subject s).tbc.cursor = s.tbc.cursor ∧
    (post k subject s).tbc.move = s.tbc.move ∧ (post k subject s).tbc.moveTimer = s.tbc.moveTimer ∧
    (post k subject s).tbc.inPosition = s.tbc.inPosition ∧ (post k subject s).tbc.limits = s.tbc.limits ∧
    (post k subject s).alc.ms = s.alc.ms ∧ (post k subject s).alc.map = s.alc.map ∧
    (post k subject s).alc.estop = s.alc.estop ∧ (post k subject s).shu.records = s.shu.records ∧
    (post k subject s).shu.subst = s.shu.subst ∧ (post k subject s).lpu.addressPins = s.lpu.addressPins ∧
    (post k subject s).lpu.address = s.lpu.address ∧ (post k subject s).lpu.rxUp = s.lpu.rxUp ∧
    (post k subject s).lpu.rxDown = s.lpu.rxDown ∧ (post k subject s).lpu.downForward = s.lpu.downForward ∧
    (post k subject s).lpu.upForward = s.lpu.upForward ∧ (post k subject s).lpu.errUp = s.lpu.errUp ∧
    (post k subject s).lpu.errDown = s.lpu.errDown ∧ (post k subject s).lpu.dropDown = s.lpu.dropDown ∧
    (post k subject s).lpu.dropUp = s.lpu.dropUp ∧ (post k subject s).lpu.requestDrops = s.lpu.requestDrops ∧
    (post k subject s).lpu.windowStart = s.lpu.windowStart ∧
    (post k subject s).lpu.windowCount = s.lpu.windowCount ∧
    (post k subject s).lpu.resetPending = s.lpu.resetPending ∧ (post k subject s).csq.window = s.csq.window ∧
    (post k subject s).csq.base = s.csq.base ∧ (post k subject s).csq.unusable = s.csq.unusable ∧
    (post k subject s).csq.marks = s.csq.marks := by
  unfold post postWith postIn
  simp only
  (repeat' split) <;> simp

@[simp] theorem postClinchFault_frame (c : ChannelId) (step : Nat) (s : State) :
    (postClinchFault c step s).pending = s.pending ∧ (postClinchFault c step s).rrg = s.rrg ∧
    (postClinchFault c step s).pin = s.pin ∧ (postClinchFault c step s).tables = s.tables ∧
    (postClinchFault c step s).hdc = s.hdc ∧ (postClinchFault c step s).csu = s.csu ∧
    (postClinchFault c step s).nextUid = s.nextUid ∧ (postClinchFault c step s).resets = s.resets ∧
    (postClinchFault c step s).tpc.tape = s.tpc.tape ∧ (postClinchFault c step s).tpc.verified = s.tpc.verified ∧
    (postClinchFault c step s).tpc.reel = s.tpc.reel ∧
    (postClinchFault c step s).tpc.rejectGate = s.tpc.rejectGate ∧
    (postClinchFault c step s).tpc.taped = s.tpc.taped ∧ (postClinchFault c step s).tpc.tension = s.tpc.tension ∧
    (postClinchFault c step s).tpc.marks = s.tpc.marks ∧ (postClinchFault c step s).tbc.pattern = s.tbc.pattern ∧
    (postClinchFault c step s).tbc.panel = s.tbc.panel ∧ (postClinchFault c step s).tbc.current = s.tbc.current ∧
    (postClinchFault c step s).tbc.loadWanted = s.tbc.loadWanted ∧
    (postClinchFault c step s).tbc.handlerTimer = s.tbc.handlerTimer ∧
    (postClinchFault c step s).tbc.handler = s.tbc.handler ∧ (postClinchFault c step s).tbc.images = s.tbc.images ∧
    (postClinchFault c step s).tbc.cursor = s.tbc.cursor ∧ (postClinchFault c step s).tbc.move = s.tbc.move ∧
    (postClinchFault c step s).tbc.moveTimer = s.tbc.moveTimer ∧
    (postClinchFault c step s).tbc.inPosition = s.tbc.inPosition ∧
    (postClinchFault c step s).tbc.limits = s.tbc.limits ∧ (postClinchFault c step s).alc.ms = s.alc.ms ∧
    (postClinchFault c step s).alc.map = s.alc.map ∧ (postClinchFault c step s).alc.estop = s.alc.estop ∧
    (postClinchFault c step s).shu.records = s.shu.records ∧ (postClinchFault c step s).shu.subst = s.shu.subst ∧
    (postClinchFault c step s).lpu.addressPins = s.lpu.addressPins ∧
    (postClinchFault c step s).lpu.address = s.lpu.address ∧ (postClinchFault c step s).lpu.rxUp = s.lpu.rxUp ∧
    (postClinchFault c step s).lpu.rxDown = s.lpu.rxDown ∧
    (postClinchFault c step s).lpu.downForward = s.lpu.downForward ∧
    (postClinchFault c step s).lpu.upForward = s.lpu.upForward ∧
    (postClinchFault c step s).lpu.errUp = s.lpu.errUp ∧ (postClinchFault c step s).lpu.errDown = s.lpu.errDown ∧
    (postClinchFault c step s).lpu.dropDown = s.lpu.dropDown ∧
    (postClinchFault c step s).lpu.dropUp = s.lpu.dropUp ∧
    (postClinchFault c step s).lpu.requestDrops = s.lpu.requestDrops ∧
    (postClinchFault c step s).lpu.windowStart = s.lpu.windowStart ∧
    (postClinchFault c step s).lpu.windowCount = s.lpu.windowCount ∧
    (postClinchFault c step s).lpu.resetPending = s.lpu.resetPending ∧
    (postClinchFault c step s).csq.window = s.csq.window ∧ (postClinchFault c step s).csq.base = s.csq.base ∧
    (postClinchFault c step s).csq.unusable = s.csq.unusable ∧ (postClinchFault c step s).csq.marks = s.csq.marks := by
  unfold postClinchFault postIn
  simp only
  (repeat' split) <;> simp

@[simp] theorem withdraw_frame (uid : Nat) (s : State) :
    (withdraw uid s).pending = s.pending ∧ (withdraw uid s).lpu = s.lpu ∧ (withdraw uid s).rrg = s.rrg ∧
    (withdraw uid s).pin = s.pin ∧ (withdraw uid s).tables = s.tables ∧ (withdraw uid s).csq = s.csq ∧
    (withdraw uid s).shu = s.shu ∧ (withdraw uid s).tpc = s.tpc ∧ (withdraw uid s).hdc = s.hdc ∧
    (withdraw uid s).csu = s.csu ∧ (withdraw uid s).alc = s.alc ∧ (withdraw uid s).out = s.out ∧
    (withdraw uid s).nextUid = s.nextUid ∧ (withdraw uid s).resets = s.resets ∧
    (withdraw uid s).tbc.pattern = s.tbc.pattern ∧ (withdraw uid s).tbc.panel = s.tbc.panel ∧
    (withdraw uid s).tbc.current = s.tbc.current ∧ (withdraw uid s).tbc.loadWanted = s.tbc.loadWanted ∧
    (withdraw uid s).tbc.handlerTimer = s.tbc.handlerTimer ∧ (withdraw uid s).tbc.handler = s.tbc.handler ∧
    (withdraw uid s).tbc.images = s.tbc.images ∧ (withdraw uid s).tbc.cursor = s.tbc.cursor ∧
    (withdraw uid s).tbc.move = s.tbc.move ∧ (withdraw uid s).tbc.moveTimer = s.tbc.moveTimer ∧
    (withdraw uid s).tbc.limits = s.tbc.limits ∧ (withdraw uid s).tbc.restartDue = s.tbc.restartDue := by
  unfold withdraw
  simp

@[simp] theorem joinTape_frame (e : TapeEntry) (s : State) :
    (joinTape e s).pending = s.pending ∧ (joinTape e s).lpu = s.lpu ∧ (joinTape e s).rrg = s.rrg ∧
    (joinTape e s).pin = s.pin ∧ (joinTape e s).tables = s.tables ∧ (joinTape e s).shu = s.shu ∧
    (joinTape e s).hdc = s.hdc ∧ (joinTape e s).csu = s.csu ∧ (joinTape e s).tbc = s.tbc ∧
    (joinTape e s).alc = s.alc ∧ (joinTape e s).out = s.out ∧ (joinTape e s).nextUid = s.nextUid ∧
    (joinTape e s).resets = s.resets ∧ (joinTape e s).tpc.verified = s.tpc.verified ∧
    (joinTape e s).tpc.reel = s.tpc.reel ∧ (joinTape e s).tpc.rejectGate = s.tpc.rejectGate ∧
    (joinTape e s).tpc.taped = s.tpc.taped ∧ (joinTape e s).tpc.tension = s.tpc.tension ∧
    (joinTape e s).tpc.marks = s.tpc.marks ∧ (joinTape e s).tpc.transfer = s.tpc.transfer ∧
    (joinTape e s).tpc.timer = s.tpc.timer ∧ (joinTape e s).tpc.restartDue = s.tpc.restartDue ∧
    (joinTape e s).csq.base = s.csq.base ∧ (joinTape e s).csq.window = s.csq.window ∧
    (joinTape e s).csq.abandoned = s.csq.abandoned ∧ (joinTape e s).csq.replies = s.csq.replies ∧
    (joinTape e s).csq.unusable = s.csq.unusable ∧ (joinTape e s).csq.marks = s.csq.marks := by
  unfold joinTape
  simp

@[simp] theorem leaveFront_frame (s : State) :
    (leaveFront s).pending = s.pending ∧ (leaveFront s).lpu = s.lpu ∧ (leaveFront s).rrg = s.rrg ∧
    (leaveFront s).pin = s.pin ∧ (leaveFront s).tables = s.tables ∧ (leaveFront s).shu = s.shu ∧
    (leaveFront s).hdc = s.hdc ∧ (leaveFront s).csu = s.csu ∧ (leaveFront s).alc = s.alc ∧
    (leaveFront s).out = s.out ∧ (leaveFront s).nextUid = s.nextUid ∧ (leaveFront s).resets = s.resets ∧
    (leaveFront s).tpc.verified = s.tpc.verified ∧ (leaveFront s).tpc.reel = s.tpc.reel ∧
    (leaveFront s).tpc.rejectGate = s.tpc.rejectGate ∧ (leaveFront s).tpc.taped = s.tpc.taped ∧
    (leaveFront s).tpc.tension = s.tpc.tension ∧ (leaveFront s).tpc.marks = s.tpc.marks ∧
    (leaveFront s).tpc.transfer = s.tpc.transfer ∧ (leaveFront s).tpc.timer = s.tpc.timer ∧
    (leaveFront s).tpc.restartDue = s.tpc.restartDue ∧ (leaveFront s).csq.base = s.csq.base ∧
    (leaveFront s).csq.window = s.csq.window ∧ (leaveFront s).csq.abandoned = s.csq.abandoned ∧
    (leaveFront s).csq.replies = s.csq.replies ∧ (leaveFront s).csq.unusable = s.csq.unusable ∧
    (leaveFront s).csq.marks = s.csq.marks := by
  unfold leaveFront
  (repeat' split) <;> simp

@[simp] theorem discardFront_frame (s : State) :
    (discardFront s).pending = s.pending ∧ (discardFront s).lpu = s.lpu ∧ (discardFront s).rrg = s.rrg ∧
    (discardFront s).pin = s.pin ∧ (discardFront s).tables = s.tables ∧ (discardFront s).csq = s.csq ∧
    (discardFront s).shu = s.shu ∧ (discardFront s).hdc = s.hdc ∧ (discardFront s).csu = s.csu ∧
    (discardFront s).alc = s.alc ∧ (discardFront s).out = s.out ∧ (discardFront s).nextUid = s.nextUid ∧
    (discardFront s).resets = s.resets ∧ (discardFront s).tpc.verified = s.tpc.verified ∧
    (discardFront s).tpc.reel = s.tpc.reel ∧ (discardFront s).tpc.rejectGate = s.tpc.rejectGate ∧
    (discardFront s).tpc.taped = s.tpc.taped ∧ (discardFront s).tpc.tension = s.tpc.tension ∧
    (discardFront s).tpc.marks = s.tpc.marks ∧ (discardFront s).tpc.transfer = s.tpc.transfer ∧
    (discardFront s).tpc.timer = s.tpc.timer ∧ (discardFront s).tpc.restartDue = s.tpc.restartDue := by
  unfold discardFront
  (repeat' split) <;> simp

@[simp] theorem retestFront_frame (s : State) :
    (retestFront s).pending = s.pending ∧ (retestFront s).lpu = s.lpu ∧ (retestFront s).rrg = s.rrg ∧
    (retestFront s).pin = s.pin ∧ (retestFront s).tables = s.tables ∧ (retestFront s).csq = s.csq ∧
    (retestFront s).shu = s.shu ∧ (retestFront s).hdc = s.hdc ∧ (retestFront s).csu = s.csu ∧
    (retestFront s).alc = s.alc ∧ (retestFront s).out = s.out ∧ (retestFront s).nextUid = s.nextUid ∧
    (retestFront s).resets = s.resets ∧ (retestFront s).tpc.verified = s.tpc.verified ∧
    (retestFront s).tpc.reel = s.tpc.reel ∧ (retestFront s).tpc.rejectGate = s.tpc.rejectGate ∧
    (retestFront s).tpc.taped = s.tpc.taped ∧ (retestFront s).tpc.tension = s.tpc.tension ∧
    (retestFront s).tpc.marks = s.tpc.marks ∧ (retestFront s).tpc.transfer = s.tpc.transfer ∧
    (retestFront s).tpc.timer = s.tpc.timer ∧ (retestFront s).tpc.restartDue = s.tpc.restartDue := by
  unfold retestFront
  (repeat' split) <;> simp

@[simp] theorem markImage_frame (n : Nat) (st : ImageState) (s : State) :
    (markImage n st s).pending = s.pending ∧ (markImage n st s).lpu = s.lpu ∧ (markImage n st s).rrg = s.rrg ∧
    (markImage n st s).tables = s.tables ∧ (markImage n st s).shu = s.shu ∧ (markImage n st s).csu = s.csu ∧
    (markImage n st s).alc = s.alc ∧ (markImage n st s).out = s.out ∧ (markImage n st s).nextUid = s.nextUid ∧
    (markImage n st s).resets = s.resets := by
  have h : ∀ (l : List TapeEntry) (t : State), (l.foldl (fun t e => withdraw e.entry.uid t) t) =
      { t with tbc := (l.foldl (fun t e => withdraw e.entry.uid t) t).tbc } := by
    intro l
    induction l with
    | nil => intro t; rfl
    | cons w l ih => intro t; rw [List.foldl_cons, ih]; rfl
  simp only [markImage]
  refine ⟨?_, ?_, ?_, ?_, ?_, ?_, ?_, ?_, ?_, ?_⟩ <;>
    (simp only [State.updPin, State.updCsq, State.updTpc, State.updHdc]; rw [h]; rfl)

@[simp] theorem rejectImage_frame (panel : Byte) (n : Nat) (s : State) :
    (rejectImage panel n s).pending = s.pending ∧ (rejectImage panel n s).rrg = s.rrg ∧
    (rejectImage panel n s).tables = s.tables ∧ (rejectImage panel n s).csu = s.csu ∧
    (rejectImage panel n s).nextUid = s.nextUid ∧ (rejectImage panel n s).resets = s.resets ∧
    (rejectImage panel n s).alc.ms = s.alc.ms ∧ (rejectImage panel n s).alc.map = s.alc.map ∧
    (rejectImage panel n s).alc.estop = s.alc.estop ∧ (rejectImage panel n s).shu.records = s.shu.records ∧
    (rejectImage panel n s).shu.subst = s.shu.subst ∧ (rejectImage panel n s).lpu.addressPins = s.lpu.addressPins ∧
    (rejectImage panel n s).lpu.address = s.lpu.address ∧ (rejectImage panel n s).lpu.rxUp = s.lpu.rxUp ∧
    (rejectImage panel n s).lpu.rxDown = s.lpu.rxDown ∧
    (rejectImage panel n s).lpu.downForward = s.lpu.downForward ∧
    (rejectImage panel n s).lpu.upForward = s.lpu.upForward ∧ (rejectImage panel n s).lpu.errUp = s.lpu.errUp ∧
    (rejectImage panel n s).lpu.errDown = s.lpu.errDown ∧ (rejectImage panel n s).lpu.dropDown = s.lpu.dropDown ∧
    (rejectImage panel n s).lpu.dropUp = s.lpu.dropUp ∧
    (rejectImage panel n s).lpu.requestDrops = s.lpu.requestDrops ∧
    (rejectImage panel n s).lpu.windowStart = s.lpu.windowStart ∧
    (rejectImage panel n s).lpu.windowCount = s.lpu.windowCount ∧
    (rejectImage panel n s).lpu.resetPending = s.lpu.resetPending := by
  unfold rejectImage
  (repeat' split) <;> simp

@[simp] theorem haltTable_frame (s : State) :
    (haltTable s).pending = s.pending ∧ (haltTable s).lpu = s.lpu ∧ (haltTable s).rrg = s.rrg ∧
    (haltTable s).pin = s.pin ∧ (haltTable s).tables = s.tables ∧ (haltTable s).csq = s.csq ∧
    (haltTable s).shu = s.shu ∧ (haltTable s).tpc = s.tpc ∧ (haltTable s).hdc = s.hdc ∧ (haltTable s).csu = s.csu ∧
    (haltTable s).alc = s.alc ∧ (haltTable s).nextUid = s.nextUid ∧ (haltTable s).resets = s.resets := by
  exact ⟨rfl, rfl, rfl, rfl, rfl, rfl, rfl, rfl, rfl, rfl, rfl, rfl, rfl⟩

end Sys2Proof.Machine
end

