-- ==== Sys2Proof/Laws/Intake.lean ====
section
/-! SUPPORT. What a take of the Placement Queue can do (R7 to R15). -/

namespace Sys2Proof.Machine

/-- An entry rejected at a take leaves PIN's queue alone. -/
theorem rejectAtTake_setQueue (p : Placement) (n : Nat) (q : List QueueRecord) (s : State) :
    rejectAtTake p n { s with pin := { s.pin with queue := q } } =
      { rejectAtTake p n s with pin := { (rejectAtTake p n s).pin with queue := q } } := rfl

theorem rejects_setQueue (p : Placement) (q : List QueueRecord) (ns : List Nat) (s : State) :
    ns.foldl (fun t n => rejectAtTake p n t) { s with pin := { s.pin with queue := q } } =
      { ns.foldl (fun t n => rejectAtTake p n t) s with
        pin := { (ns.foldl (fun t n => rejectAtTake p n t) s).pin with queue := q } } := by
  induction ns generalizing s with
  | nil => rfl
  | cons n ns ih => rw [List.foldl_cons, rejectAtTake_setQueue, ih, List.foldl_cons]

/-- R7: a take over a list of queue records does not read the queue that the state holds. -/
theorem takeFrom_setQueue (rs q : List QueueRecord) (s : State) :
    takeFrom rs { s with pin := { s.pin with queue := q } } = takeFrom rs s := by
  induction rs generalizing s with
  | nil => rfl
  | cons r rest ih =>
    cases r with
    | boundary =>
      unfold takeFrom
      rfl
    | placement p =>
      unfold takeFrom
      dsimp only [State.mode, imagesLeft]
      rw [rejects_setQueue]
      by_cases h : componentValid s.tables p.component = true
      · by_cases h1 : p.image = 0
        · simp only [h, h1, Bool.not_true, Bool.false_eq_true, if_false, ne_eq, not_true_eq_false]
          split
          · conv_rhs => rw [← ih]
            rfl
          · rfl
          · rfl
        · simp only [h, h1, Bool.not_true, Bool.false_eq_true, if_false, ne_eq, not_false_eq_true, if_true]
          by_cases h2 : knownBad s.tables.constants.mode s.tbc s.pin.takePanel p.image = true
          · simp only [h2, if_true]
            conv_rhs => rw [← ih]
            rfl
          · simp only [h2, Bool.false_eq_true, if_false]
            rfl
      · simp only [h, Bool.not_false, if_true]
        conv_rhs => rw [← ih]
        rfl

/-- R11, R15: entries rejected at a take: counted, and recorded one after another. -/
theorem rejects_eq (p : Placement) (ns : List Nat) (s : State) :
    ns.foldl (fun t n => rejectAtTake p n t) s = { s with
      pin := { s.pin with
        taken := s.pin.taken + BitVec.ofNat 32 ns.length
        rejected := s.pin.rejected + BitVec.ofNat 32 ns.length }
      rrg := ns.foldl (fun g n => g.write ⟨.rejected, p.step, s.pin.takePanel, n, p.component, 0, none⟩) s.rrg } := by
  induction ns generalizing s with
  | nil => simp
  | cons n ns ih =>
    rw [List.foldl_cons, ih]
    have h : ∀ x : Word32, x + 1 + BitVec.ofNat 32 ns.length = x + BitVec.ofNat 32 (n :: ns).length := by
      intro x; rw [List.length_cons, Nat.add_comm, BitVec.ofNat_add, ← BitVec.add_assoc]; rfl
    simp only [rejectAtTake, writeRecord, State.updPin, State.updRrg, h, List.foldl_cons]

end Sys2Proof.Machine
end

