-- ==== Sys2Proof/Laws/Levels.lean ====
section
/-! SUPPORT. What a recomputation of the level does (R147, R148), what the E-stop line halts, and the bounds that the
Record Ring's writes keep (R169). -/

namespace Sys2Proof.Machine

/-! ### The effective level -/

theorem lampsOf_idem (a : Alc) : lampsOf (lampsOf a) = lampsOf a := rfl

/-- The effective level does not depend on itself or on the lamps. -/
theorem effectiveOf_lampsOf (a : Alc) (l : Level) : effectiveOf (lampsOf { a with effective := l }) = effectiveOf a := rfl

/-- R147: the effective level in words. -/
theorem effectiveOf_eq (a : Alc) :
    effectiveOf a = if a.stopCh.entries ≠ [] ∨ a.estop = .asserted ∨ a.requested = .stop then .stop
      else if a.holdCh.entries ≠ [] ∨ a.requested = .hold then .hold else .run := by
  unfold effectiveOf Level.worst
  cases a.stopCh.entries <;> cases a.holdCh.entries <;> cases a.estop <;> cases a.requested <;> simp [Level.code]

/-- R147, R148: after a recomputation ALC's levels and lamps are those the inputs give, and nothing else of ALC has
changed. -/
theorem recompute_alc (s : State) :
    (recompute s).alc = lampsOf { s.alc with effective := effectiveOf s.alc } := by
  unfold recompute
  simp only [idleTest]
  split <;> split <;> simp [levelTold] <;> (repeat' split) <;> simp

theorem recompute_levels (s : State) : LevelInv (recompute s) := by
  unfold LevelInv
  rw [recompute_alc]
  exact ⟨rfl, rfl⟩

theorem levelInv_follows (s : State) (h : LevelInv s) : LevelsFollow s.alc := by
  obtain ⟨h1, h2⟩ := h
  have hr : s.alc.red = !s.alc.stopCh.entries.isEmpty := by rw [← h2]; rfl
  have ha : s.alc.amber = (!s.alc.holdCh.entries.isEmpty || !s.alc.warnCh.entries.isEmpty) := by rw [← h2]; rfl
  have hg : s.alc.green = (s.alc.effective == .run) := by rw [← h2]; rfl
  refine ⟨by rw [h1]; exact effectiveOf_eq s.alc, ?_, ?_, ?_⟩
  · rw [hr]; simp
  · rw [ha]; simp
  · rw [hg]; simp

/-- R147: a level other than STOP says that the line is RELEASED. -/
theorem effectiveOf_released (a : Alc) (h : effectiveOf a ≠ .stop) : a.estop = .released := by
  rw [effectiveOf_eq] at h
  cases he : a.estop
  · rfl
  · simp [he] at h

/-- R44: a step resumes when one is suspended, else nothing changes. -/
theorem resumeStep_spec (u : State) :
    (∃ n, u.csq.cycle = .step ∧ u.csq.stepTimer = .suspended n ∧ resumeStep u =
      { u with csq := { u.csq with stepTimer := .running n }, out := { u.out with chainDrive := .goOn } })
    ∨ ((u.csq.cycle ≠ .step ∨ ∀ n, u.csq.stepTimer ≠ .suspended n) ∧ resumeStep u = u) := by
  unfold resumeStep
  split
  · rename_i n h1 h2
    exact .inl ⟨n, h1, h2, by simp [State.updCsq, State.updOut, h2, Timer.resume]⟩
  · rename_i h
    refine .inr ⟨?_, rfl⟩
    by_cases hc : u.csq.cycle = .step
    · exact .inr (fun n hn => h n hc hn)
    · exact .inl hc

/-- R80: a transfer resumes when it is suspended, else nothing changes. -/
theorem resumeTransfer_spec (u : State) :
    (∃ op, u.tpc.transfer = some ⟨op, .suspended⟩ ∧ resumeTransfer u = { u with
      tpc := { u.tpc with transfer := some ⟨op, .running⟩, timer := u.tpc.timer.resume }
      out := { u.out with
        reTaper := if op = .tape then .goOn else u.out.reTaper, gate := if op = .dump then .goOn else u.out.gate } })
    ∨ (u.tpc.transfer.map Transfer.phase ≠ some .suspended ∧ resumeTransfer u = u) := by
  unfold resumeTransfer
  split
  · rename_i op h
    refine .inl ⟨op, h, ?_⟩
    cases op <;> rfl
  · rename_i h
    refine .inr ⟨?_, rfl⟩
    intro hp
    cases ht : u.tpc.transfer with
    | none => simp [ht] at hp
    | some x => obtain ⟨op, ph⟩ := x; simp [ht] at hp; exact h op (by rw [ht, hp])

/-- R79, R128: what is STALLED is marked (log 17). -/
theorem markRestarts_spec (u : State) : markRestarts u = { u with
    tpc := { u.tpc with
      restartDue := u.tpc.restartDue || decide (u.tpc.transfer.map Transfer.phase = some .stalled) }
    tbc := { u.tbc with
      restartDue := u.tbc.restartDue || decide (u.tbc.handler.map HandlerOperation.phase = some .stalled) } } := by
  unfold markRestarts
  rcases ht : u.tpc.transfer with _ | ⟨op, _ | _ | _ | _⟩ <;> rcases hh : u.tbc.handler with _ | ⟨op', _ | _ | _⟩ <;>
    simp [ht, hh, State.updTpc, State.updTbc] <;> simp [← ht, ← hh]

/-- R147: what a recomputation of the level is, by what becomes of the level. -/
theorem recompute_cases (s : State) :
    let s1 := s.updAlc (fun a => lampsOf { a with effective := effectiveOf a })
    (effectiveOf s.alc = s.alc.effective → recompute s = idleTest s1)
    ∧ (effectiveOf s.alc ≠ s.alc.effective → effectiveOf s.alc = .stop →
      recompute s = idleTest (clearRestarts (heldTest s1)))
    ∧ (effectiveOf s.alc ≠ .stop → s.alc.effective = .stop →
      recompute s = idleTest (markRestarts (resumeTransfer (resumeStep (heldTest s1)))))
    ∧ (effectiveOf s.alc ≠ .stop → s.alc.effective ≠ .stop → effectiveOf s.alc ≠ s.alc.effective →
      recompute s = idleTest (heldTest s1)) := by
  intro s1
  have e1 : s1.alc.effective = effectiveOf s.alc := rfl
  have e2 : s1.alc.estop = s.alc.estop := rfl
  have hrel := effectiveOf_released s.alc
  refine ⟨fun h => ?_, fun h h' => ?_, fun h h' => ?_, fun h h' h'' => ?_⟩
  · show idleTest (if s1.alc.effective = s.alc.effective then s1 else levelTold s.alc.effective s1) = _
    rw [e1, if_pos h]
  · show idleTest (if s1.alc.effective = s.alc.effective then s1 else levelTold s.alc.effective s1) = _
    rw [e1, if_neg h]
    unfold levelTold
    simp only [e1, h', if_true]
  · show idleTest (if s1.alc.effective = s.alc.effective then s1 else levelTold s.alc.effective s1) = _
    rw [e1, if_neg (by rw [h']; exact h)]
    unfold levelTold
    simp only [e1, h, h', e2, hrel h, if_true, if_false]
  · show idleTest (if s1.alc.effective = s.alc.effective then s1 else levelTold s.alc.effective s1) = _
    rw [e1, if_neg h'']
    unfold levelTold
    simp only [e1, h, h', if_false]

/-- R38: the test for IDLE, as one update. -/
theorem idleTest_seq (u : State) : idleTest u = { u with csq := { u.csq with
    seq := if (u.csq.seq = .running ∨ u.csq.seq = .held) ∧ u.alc.requested = .stop ∧ u.csq.window = [] ∧ u.csq.cycle = .rest
      then .idle else u.csq.seq } } := by
  unfold idleTest
  split <;> rfl

/-- R38, R39: the sequencer after a change of the level. -/
theorem sequencerTold_changed (s t : State) (h : t.alc.effective ≠ s.alc.effective) (x : SeqState)
    (hx : x = heldOf t.alc.effective (festoonFull s.tables s.tpc.tape) s.csq.seq)
    (ht : t.csq.seq = if (x = .running ∨ x = .held) ∧ t.alc.requested = .stop ∧ s.csq.window = [] ∧ s.csq.cycle = .rest
      then .idle else x) : SequencerTold s t := by
  unfold SequencerTold
  subst hx
  rw [if_neg h]
  exact ht

/-- R44, R79, R80, R128, R38, R39, R147: everything a recomputation of the level does beyond ALC. -/
theorem recompute_told (s : State) :
    LevelOnly s (recompute s) ∧ LevelTold s (recompute s) ∧ SequencerTold s (recompute s) := by
  obtain ⟨c1, c2, c3, c4⟩ := recompute_cases s
  by_cases h1 : effectiveOf s.alc = s.alc.effective
  · rw [c1 h1, idleTest_seq]
    refine ⟨rfl, ?_, ?_⟩
    · simp [LevelTold, State.updAlc, lampsOf, h1]
    · simp [SequencerTold, State.updAlc, lampsOf, h1]
  · by_cases h2 : effectiveOf s.alc = .stop
    · rw [c2 h1 h2, idleTest_seq]
      have h3 : s.alc.effective ≠ .stop := fun h => h1 (h2.trans h.symm)
      refine ⟨rfl, ?_, ?_⟩
      · simp [LevelTold, State.updAlc, State.updTpc, State.updTbc, State.updCsq, lampsOf, h2, h3, clearRestarts, heldTest]
      · exact sequencerTold_changed s _ h1 _ rfl rfl
    · by_cases h3 : s.alc.effective = .stop
      · rw [c3 h2 h3, idleTest_seq, markRestarts_spec]
        clear c1 c2 c3 c4
        rcases resumeStep_spec (heldTest (s.updAlc (fun a => lampsOf { a with effective := effectiveOf a })))
          with ⟨n, g1, g2, g3⟩ | ⟨g1, g3⟩ <;> rw [g3] <;>
        rcases resumeTransfer_spec _ with ⟨op, k1, k2⟩ | ⟨k1, k2⟩ <;> rw [k2] <;> clear g3 k2 <;>
        (simp only [heldTest, State.updAlc, State.updCsq, lampsOf] at k1 g1) <;>
        (try simp only [heldTest, State.updAlc, State.updCsq, lampsOf] at g2) <;>
        refine ⟨rfl, ?_, sequencerTold_changed s _ h1 _ rfl rfl⟩ <;>
        (unfold LevelTold; simp only [heldTest, State.updAlc, State.updCsq, lampsOf])
        · simp [h2, h3, g1, g2, k1]
          cases s.tpc.timer <;> rfl
        · simp [h2, h3, g1, g2, k1]
          exact fun op h => absurd (by rw [h]; rfl) k1
        · simp [h2, h3, g1, k1]
          exact ⟨fun n a b => g1.elim (absurd a) (fun g => absurd b (g n)), by cases s.tpc.timer <;> rfl⟩
        · simp [h2, h3, g1, k1]
          exact ⟨fun n a b => g1.elim (absurd a) (fun g => absurd b (g n)), fun op h => absurd (by rw [h]; rfl) k1⟩
      · rw [c4 h2 h3 h1, idleTest_seq]
        refine ⟨rfl, ?_, ?_⟩
        · simp [LevelTold, State.updAlc, State.updCsq, lampsOf, h2, h3, heldTest]
        · exact sequencerTold_changed s _ h1 _ rfl rfl
/-! ### What the blocks but the head do when the E-stop line is asserted (R44, R80, R128, R136) -/

theorem estopTable_halts (u : State) : HaltedByEstop u (estopTable u) := by
  unfold HaltedByEstop estopTable haltTable
  dsimp only [State.updTbc, State.updOut]
  split <;> rfl

theorem estopStep_shape (u : State) : ∃ t o,
    estopStep u = { u with csq := { u.csq with stepTimer := t }, out := o } := by
  unfold estopStep
  split
  · exact ⟨_, _, rfl⟩
  · exact ⟨u.csq.stepTimer, u.out, rfl⟩

theorem estopTransfer_shape (u : State) : ∃ x t o,
    estopTransfer u = { u with tpc := { u.tpc with transfer := x, timer := t }, out := o } := by
  unfold estopTransfer
  split
  · rename_i op _
    cases op <;> exact ⟨_, _, _, rfl⟩
  · exact ⟨u.tpc.transfer, u.tpc.timer, u.out, rfl⟩

/-! ### The Record Ring -/

theorem ringSize_cons (r : RingRecord) (rs : List RingRecord) : ringSize (r :: rs) = r.size + ringSize rs := by
  simp [ringSize]

theorem ringSize_append (a b : List RingRecord) : ringSize (a ++ b) = ringSize a + ringSize b := by
  simp [ringSize]

theorem RingRecord.size_le (r : RingRecord) : r.size ≤ 16 := by
  unfold RingRecord.size
  split <;> omega

/-- R169: what stands when room has been made is a tail of what stood, and leaves the room. -/
theorem ringRoom_spec (size : Nat) (h : size ≤ 16) (rs : List RingRecord) :
    (ringRoom size rs).1 = rs.drop (ringRoom size rs).2 ∧ (ringRoom size rs).2 ≤ rs.length
    ∧ ringSize (ringRoom size rs).1 + size ≤ 8192 := by
  induction rs with
  | nil => simp [ringRoom, ringSize]; omega
  | cons r rs ih =>
    unfold ringRoom
    split
    · obtain ⟨i1, i2, i3⟩ := ih
      refine ⟨?_, ?_, i3⟩
      · simp [← i1]
      · simp; exact i2
    · rename_i hn
      refine ⟨by simp, by simp, ?_⟩
      simp at hn ⊢
      exact hn

/-- R169, R170: a write keeps the ring's bytes within 8,192 and the count in transit within the records held. -/
theorem write_bounds (g : Rrg) (r : RingRecord) (h : g.inTransit ≤ g.records.length) :
    ringSize (g.write r).records ≤ 8192 ∧ (g.write r).inTransit ≤ (g.write r).records.length := by
  obtain ⟨h1, h2, h3⟩ := ringRoom_spec r.size r.size_le g.records
  constructor
  · show ringSize ((ringRoom r.size g.records).1 ++ [r]) ≤ 8192
    rw [ringSize_append]
    simpa [ringSize] using h3
  · show g.inTransit - (ringRoom r.size g.records).2 ≤ ((ringRoom r.size g.records).1 ++ [r]).length
    rw [h1]
    simp
    omega

end Sys2Proof.Machine
end

