-- ==== Sys2Proof/Laws/Requests.lean ====
section
/-! SUPPORT. The shape of every request: dropped, or its owner's act with one answer more. -/

namespace Sys2Proof.Machine

/-- R162: a request that is not dispatched is counted and does nothing else. -/
theorem request_dropped (kind tag : Byte) (act : Act) (s : State) (h : ¬ Takes s) :
    request kind tag act s = { s with lpu := { s.lpu with requestDrops := satInc 65535 s.lpu.requestDrops } } := by
  have : Config.bufferCapacity ≤ s.lpu.answers.length ∨ s.lpu.resetPending = true := by
    unfold Takes at h
    by_cases h1 : s.lpu.answers.length < 2
    · right; cases h2 : s.lpu.resetPending
      · exact absurd ⟨h1, h2⟩ h
      · rfl
    · left; exact Nat.le_of_not_lt h1
  simp [request, this, State.updLpu]

/-- Replacing the frame just queued is queueing the other frame. -/
theorem pushOwn_set (l : Lpu) (a b : OwnFrame) :
    { l.pushOwn a with answers := (l.pushOwn a).answers.set l.answers.length b } = l.pushOwn b := by
  unfold Lpu.pushOwn Lpu.choose
  cases l.sending <;> cases h : l.upForward <;> cases h2 : l.answers <;> cases l.lastServed <;> simp

/-- R162: a request taken, whose act leaves LPU alone, is the act's effect and one answer more. -/
theorem request_answered (kind tag : Byte) (act : Act) (s u : State) (code : ResultCode) (data : List Byte)
    (h : Takes s) (hk : kind ≠ 0x50#8 ∨ code ≠ .ok) (hu : u.lpu = s.lpu)
    (ha : act (s.updLpu (·.pushOwn (answerPlace tag))) = (u.updLpu (·.pushOwn (answerPlace tag)), code, data)) :
    request kind tag act s = answered kind tag code data u := by
  have hd : ¬ (Config.bufferCapacity ≤ s.lpu.answers.length ∨ s.lpu.resetPending = true) := by
    obtain ⟨h1, h2⟩ := h
    rw [h2]; simp; omega
  have hs : (kind == 0x50#8 && code == ResultCode.ok) = false := by
    rcases hk with hk | hk <;> simp [hk]
  rw [request, if_neg hd, ha]
  show u.updLpu (fun l => { l.pushOwn (answerPlace tag) with
      answers := (l.pushOwn (answerPlace tag)).answers.set s.lpu.answers.length
        (answerOf (l.pushOwn (answerPlace tag)) kind tag code data) }) = _
  rw [answered, ← hu, State.updLpu, State.updLpu]
  congr 1
  rw [pushOwn_set]
  simp [answerOf, hs, Lpu.sender]

end Sys2Proof.Machine
end

