-- ==== Sys2Proof/Tests/Slice0.lean ====
section
/-! SUPPORT. The author's own tests: ill-formed commands refused, worked examples of the spec, one step each on small
states, and for every statement with hypotheses states that meet them, clause by clause. -/

open Sys2Proof Sys2Proof.Machine

namespace Sys2Proof.Tests

set_option Elab.async false

/-! ### Small states -/

/-- The state after a command that answers a next state. -/
def after (c : Instr) (s : State) : State :=
  match exec c s with
  | .next t => t
  | _ => s

/-- Reset with one block put in place of its own. -/
def withPin (p : Pin) : State := { State.reset with pin := p }
def withCsq (q : Csq) : State := { State.reset with csq := q }
def withTpc (t : Tpc) : State := { State.reset with tpc := t }
def withHdc (h : Hdc) : State := { State.reset with hdc := h }
def withCsu (c : Csu) : State := { State.reset with csu := c }
def withTbc (b : Tbc) : State := { State.reset with tbc := b }
def withAlc (a : Alc) : State := { State.reset with alc := a }
def withLpu (l : Lpu) : State := { State.reset with lpu := l }

/-- An alarm controller at RUN, and the state with it. -/
def running : Alc := { Alc.reset with requested := .run, effective := .run, green := true }
def holding : Alc := { Alc.reset with requested := .hold, effective := .hold }

def entry (uid : Nat) (image : Nat) : Entry := ⟨uid, 812, 1, 10, 20, .deg0, image, 0⟩
def captured (profile : Nat) : Captured := ⟨5, 100, profile, .inward, false⟩
def tapeEntry (uid : Nat) : TapeEntry := ⟨entry uid 1, captured 0, false⟩
def windowEntry (uid : Nat) (st : EntryStatus) (clip : Option Nat) : WindowEntry :=
  ⟨entry uid 1, some (captured 0), 0, st, clip, false⟩

/-- Ch. 8, operation example: two rows of four. -/
def rows : Pattern :=
  { originX := 2000, originY := 3000, count := 8, pitchA := (5000, 0), pitchB := (-15000, 9000), pitchC := (0, 0),
    selectors := [.a, .a, .a, .b], badMark := some (4200, 300) }

/-- Ch. 7, worked cases: profile 4 and filter set 1. -/
def profile4 : Profile :=
  { filterSet := 1, windowLength := 8, emptyLevel := 300, contactLevel := 1000, peakMin := 2000, peakMax := 3000,
    indexMin := 2, indexMax := 5, areaMin := 8000, areaMax := 13000, contactMin := 3, policy := .hold,
    wearLevel := 3500 }
def filter1 : FilterSet := ⟨4096, 4096, 0, -4096, 0, false⟩

/-- The channel that a good sample window is measured from. -/
def goodWindow : SampleWindow :=
  { step := 812, panel := 6, image := 2, profileNo := 4, profile := profile4, filter := filter1,
    samples := [212, 210, 209, 213, 215, 611, 1411, 1803, 1611, 1011, 411, 219] }

/-! ### Well-formedness: one ill-formed term for each check -/

def longFrame : Frame := ⟨1, 0x20, 0, List.replicate 241 0, 0⟩

theorem test_ill_formed_upstream_frame : (Instr.upstreamFrameReceived longFrame).wellFormed = false := by decide +kernel
theorem test_ill_formed_downstream_frame : (Instr.downstreamFrameReceived longFrame).wellFormed = false := by decide +kernel
theorem test_ill_formed_length_error : (Instr.lengthError .upstream 240).wellFormed = false := by decide +kernel
theorem test_ill_formed_place : (Instr.place 0 (List.replicate 241 0)).wellFormed = false := by decide +kernel
theorem test_ill_formed_sweep : (Instr.sweep 0 (List.replicate 241 0)).wellFormed = false := by decide +kernel
theorem test_ill_formed_loads : ∀ b ∈ [List.replicate 237 (0 : Byte)],
    (Instr.tableLoadComponent 0 0 1 b).wellFormed = false ∧ (Instr.tableLoadSpan 0 0 1 b).wellFormed = false
    ∧ (Instr.tableLoadStationMap 0 0 1 b).wellFormed = false ∧ (Instr.tableLoadProfile 0 0 1 b).wellFormed = false
    ∧ (Instr.tableLoadFilterSet 0 0 1 b).wellFormed = false ∧ (Instr.tableLoadPanelPattern 0 0 1 b).wellFormed = false
    ∧ (Instr.tableLoadAlarmMap 0 0 1 b).wellFormed = false ∧ (Instr.tableLoadConstants 0 0 1 b).wellFormed = false := by
  decide +kernel
theorem test_ill_formed_reply_frame : (Instr.exchangeComplete (List.replicate 95 .dropped)).wellFormed = false := by
  decide +kernel
theorem test_well_formed_boundary : (Instr.place 0 (List.replicate 240 0)).wellFormed = true
    ∧ (Instr.lengthError .upstream 241).wellFormed = true
    ∧ (Instr.exchangeComplete (List.replicate 96 .dropped)).wellFormed = true := by decide +kernel

/-! ### Worked examples of the spec -/

/-- R158. -/
theorem test_crc_check_value :
    crc16 [0x31, 0x32, 0x33, 0x34, 0x35, 0x36, 0x37, 0x38, 0x39] = 0x29B1 := by decide +kernel

/-- R114. -/
theorem test_round13_halves : round13 20480 = 3 ∧ round13 (-20480) = -2 := by decide +kernel

/-- Ch. 8, two rows of four: origins and mark positions. -/
theorem test_two_rows_of_four :
    (List.range' 1 8).map rows.imageOrigin = [(2000, 3000), (7000, 3000), (12000, 3000), (17000, 3000), (2000, 12000),
      (7000, 12000), (12000, 12000), (17000, 12000)]
    ∧ rows.markPosition 8 = (21200, 12300) := by decide +kernel

/-- Ch. 7, a good clinch. -/
theorem test_good_clinch : measure goodWindow =
    { baseline := 211, saturated := false, peak := 2420, peakIndex := 4, area := 10273, contact := 4,
      release := some 6 } ∧ judge profile4 (measure goodWindow) = .good := by decide +kernel

/-- Ch. 1, a partly taken PLACE frame: a queue of 61, five records, the third refused. -/
theorem test_partly_taken_place :
    let s : State := { withTbc { Tbc.reset with pattern := some { rows with count := 4 } } with
      pin := { Pin.reset with queue := List.replicate 61 .boundary }
      tables := { Tables.reset with components := List.replicate 64 ⟨true, 1, 0, 0, 0, 1⟩ } }
    let p := fun (step : Word16) (c image : Nat) => placementBytes ⟨step, c, 0, 0, .deg0, image⟩
    (after (.place 7 (p 120 35 2 ++ p 121 35 0 ++ p 122 0 1 ++ p 123 40 3 ++ [2])) s).lpu.answers.map
      (fun a => a.frame.payload) = [[0x10, 6, 2, 1]] := by decide +kernel

/-- Ch. 10, draining the ring: 24 records fit at first, 23 after them. -/
theorem test_draining_the_ring :
    let short : RingRecord := ⟨.dumped, 1, 1, 1, 1, 1, none⟩
    let long : RingRecord := ⟨.inserted, 1, 1, 1, 1, 1, some ⟨.good, 1, 1, 1, 1⟩⟩
    let ring := List.replicate 20 short ++ List.replicate 10 long ++ List.replicate 20 short
    recordsThatFit 232 ring = 24 ∧ recordsThatFit 232 (ring.drop 24) = 23 := by decide +kernel

/-! ### One step each -/

/-- R41, R42: a purge step on the reset chain, sequencer and level aside. -/
theorem test_step_start_and_index_event :
    let s : State := { withAlc running with csq := { Csq.reset with ring := List.replicate 40 .unknown } }
    (after .chainStepStart s).csq.cycle = .step
    ∧ (after (.chainIndexEvent false) (after .chainStepStart s)).csq.ring =
        (List.replicate 40 .unknown).set 4 .empty
    ∧ (after (.chainIndexEvent false) (after .chainStepStart s)).tpc.transfer = some ⟨.dump, .running⟩ := by
  decide +kernel

/-- R3, R162: PLACE of a boundary is answered OK with 1 taken and 63 free. -/
theorem test_place_boundary : (after (.place 9 [2]) State.reset).lpu.answers.map (fun a => a.frame.payload) =
    [[0x10, 0, 1, 63]] := by decide +kernel

/-- R146, R155: RUN after reset is answered OK with levels RUN, RUN and starts nothing that purges. -/
theorem test_run_after_reset : (after (.run 1) State.reset).alc.effective = .run
    ∧ (after (.run 1) State.reset).alc.green = true ∧ (after (.run 1) State.reset).csq.seq = .purging := by
  decide +kernel

/-- R145, R143: the E-stop line asserted after reset. -/
theorem test_estop_after_reset :
    let t := after .estopAsserted State.reset
    t.alc.stopCh.entries.map AlarmEntry.kind = [.estop] ∧ t.alc.red = true ∧ t.alc.horn = true
    ∧ t.tbc.handler = some ⟨.release, .suspended⟩ ∧ t.lpu.answers.map (fun a => a.frame.kind) = [0x81] := by
  decide +kernel

/-- R102: homing ends with the axes at their reference positions. -/
theorem test_homing :
    let s := withHdc { Hdc.reset with head := .homing }
    (after .homeDone s).hdc.head = .idle ∧ (after .homeDone s).hdc.span = some 50
    ∧ (after .homeDone s).hdc.clear = true := by decide +kernel

/-- R128: the release after reset ends. -/
theorem test_released : (after .released State.reset).tbc.handler = none
    ∧ (after .released State.reset).tbc.panel = .empty := by decide +kernel

/-- R119: a LOW window with policy HOLD posts CLINCH FAULT to HOLD. -/
theorem test_clinch_fault :
    let s := { withAlc running with csu := { Csu.reset with
      window := some { goodWindow with samples := List.replicate 11 250 } } }
    (after (.forceSample 250) s).alc.holdCh.entries.map (fun e => (e.kind, e.subject)) = [(.clinchFault, some 812)]
    ∧ (after (.forceSample 250) s).alc.effective = .hold
    ∧ (after (.forceSample 250) s).csu.faults = 1 := by decide +kernel

/-- R157: a byte that is no lead is a framing error. -/
theorem test_framing_error : (after (.frameByteReceived .upstream 0x11) State.reset).lpu.errUp = ⟨0, 1, 0⟩ := by
  decide +kernel

/-- R2: the step of an empty queue idles, and the first command of the queue is run. -/
theorem test_queue_front : ∀ p ∈ [List.replicate 2 Instr.estopReleased],
    (match step { State.reset with pending := .holdButton :: p } with
      | .next t => t.pending
      | _ => []) = p := by decide +kernel

/-! ### Hypotheses met: steps, resets, the link -/

def own (e : Bool) : OwnFrame := ⟨mkFrame 0 0x80 0 [0x42, 0], e⟩

/-- The address 5 and one own frame being sent. -/
def linked : Lpu :=
  { Lpu.reset with address := some 5, answers := [own true], sending := some .own, lastServed := .own }

def frameFor (address kind : Byte) : Frame := mkFrame address kind 7 []

theorem test_witness_Takes : Takes State.reset ∧ Takes (withLpu linked) := by unfold Takes; decide +kernel

theorem test_witness_StepRunsFront : State.reset.pending = [] := rfl

theorem test_witness_OwnStepsNeedTheirConditions : (false, Instr.chainStepStart) ∈ ownSteps State.reset
    ∧ (false, Instr.phaseTimeout) ∈ ownSteps State.reset := by decide +kernel

theorem test_witness_ResetRequestThenSoftReset :
    let s := withLpu linked
    Takes s ∧ s.lpu.sending = some .own ∧ s.lpu.answers = [own true] ∧ (own true).endsInReset = true
    ∧ s.shu.sweep = none
    ∧ ({ s with shu := { s.shu with sweep := some ⟨1, 1, false, [], [], []⟩ } } : State).shu.sweep.isSome = true := by
  unfold Takes; decide +kernel

/-- Pins at the boundaries of R159. -/
theorem test_witness_PowerOnResetFromAnyState : addressOf 0 = none ∧ addressOf 1 = some 1 ∧ addressOf 30 = some 30
    ∧ addressOf 31 = none := by decide +kernel

theorem test_witness_ForwardedFrames :
    let f := frameFor 6 0x20
    let g := frameFor 5 0x81
    let s := withLpu linked
    let buffer := fun n => withLpu { linked with downForward := List.replicate n f, upForward := List.replicate n f }
    Frame.wellFormed f = true ∧ f.crc = crc16 (Frame.covered f) ∧ f.address ≠ 0
    ∧ s.lpu.address ≠ some f.address.toNat ∧ (buffer 1).lpu.downForward.length < 2
    ∧ 2 ≤ (buffer 2).lpu.downForward.length
    ∧ Frame.wellFormed g = true ∧ g.crc = crc16 (Frame.covered g) ∧ s.lpu.address = some g.address.toNat
    ∧ (g.kind = 0x80 ∨ g.kind = 0x81)
    ∧ (buffer 1).lpu.upForward.length < 2 ∧ (buffer 1).lpu.sending.isSome = true
    ∧ State.reset.lpu.upForward = [] ∧ State.reset.lpu.sending = none ∧ State.reset.lpu.answers = []
    ∧ 2 ≤ (buffer 2).lpu.upForward.length := by decide +kernel

/-- A broadcast ANSWER and a broadcast ALARM NOTICE, with room and with none. -/
theorem test_witness_ForwardedFrames_broadcast :
    let full := withLpu { linked with downForward := List.replicate 2 (frameFor 6 0x20) }
    ∀ k ∈ [(0x80 : Byte), 0x81], let f := frameFor 0 k
      Frame.wellFormed f = true ∧ f.crc = crc16 (Frame.covered f) ∧ f.address = 0 ∧ f.kind = k
      ∧ State.reset.lpu.downForward.length < 2 ∧ 2 ≤ full.lpu.downForward.length
      ∧ (after (.upstreamFrameReceived f) State.reset).lpu.downForward = [f]
      ∧ (after (.upstreamFrameReceived f) State.reset).lpu.answers = []
      ∧ (after (.upstreamFrameReceived f) full).lpu.dropDown = full.lpu.dropDown + 1 := by decide +kernel

theorem test_witness_ReceivedFrameRunsItsRequest :
    let s := withLpu linked
    let ok := fun (f : Frame) => Frame.wellFormed f = true ∧ f.crc = crc16 (Frame.covered f) ∧ f.kind ≠ 0x80
      ∧ f.kind ≠ 0x81 ∧ s.lpu.address = some f.address.toNat ∧ f.address ≠ 0
    ok (frameFor 5 0x20) ∧ requestRow 0x20 7 [] = some (.run 7)
    ∧ ok (frameFor 5 0x99) ∧ (0x99 : Byte) ∉ requestKinds
    ∧ ok (mkFrame 5 0x20 7 [1]) ∧ (0x20 : Byte) ∈ requestKinds ∧ requestRow 0x20 7 [1] = none
    ∧ (frameFor 0 0x20).address = 0 ∧ (frameFor 0 0x20).crc = crc16 (Frame.covered (frameFor 0 0x20)) := by
  decide +kernel

/-- Table names 0 and 14, the read-only tables 9 and 13 with bodies right and wrong, heads one byte short. -/
theorem test_witness_ReceivedFrameRunsItsRequest_tables :
    let s := withLpu linked
    let ok := fun (f : Frame) => decide (Frame.wellFormed f = true ∧ f.crc = crc16 (Frame.covered f) ∧ f.kind ≠ 0x80
      ∧ f.kind ≠ 0x81 ∧ s.lpu.address = some f.address.toNat ∧ f.address ≠ 0)
    let load := fun (payload : List Byte) => mkFrame 5 0x11 7 payload
    let read := fun (payload : List Byte) => mkFrame 5 0x12 7 payload
    ok (load [1, 0, 0]) ∧ (load [1, 0, 0]).payload.length < 4
    ∧ ok (load [0, 0, 0, 1]) ∧ (0 : Byte).toNat = 0 ∧ ok (load [14, 0, 0, 1]) ∧ 13 < (14 : Byte).toNat
    ∧ ok (load ([9, 0, 1, 1] ++ List.replicate 8 0)) ∧ ((9 : Byte).toNat, 8) ∈ [(9, 8), (13, 12)]
    ∧ (List.replicate 8 (0 : Byte)).length = (1 : Byte).toNat * 8
    ∧ ok (load [13, 0, 1, 1, 0]) ∧ ((13 : Byte).toNat, 12) ∈ [(9, 8), (13, 12)]
    ∧ ([0] : List Byte).length ≠ (1 : Byte).toNat * 12
    ∧ ok (read [1, 0, 0]) ∧ (read [1, 0, 0]).payload.length ≠ 4 ∧ ok (read [14, 0, 0, 1])
    ∧ (read [14, 0, 0, 1]).payload = [14, 0, 0, 1] := by decide +kernel

/-- A broadcast frame of an unknown kind while the answer queue is full and while a reset is pending. -/
theorem test_witness_ReceivedFrameRunsItsRequest_dropped :
    let f := frameFor 0 0x7F
    let full := withLpu { linked with answers := [own false, own false] }
    let resetting := withLpu { linked with answers := [], resetPending := true }
    Frame.wellFormed f = true ∧ f.crc = crc16 (Frame.covered f) ∧ f.kind ≠ 0x80 ∧ f.kind ≠ 0x81 ∧ f.address = 0
    ∧ f.kind ∉ requestKinds ∧ ¬ Takes full ∧ ¬ Takes resetting
    ∧ (after (.upstreamFrameReceived f) full).lpu.requestDrops = full.lpu.requestDrops + 1
    ∧ (after (.upstreamFrameReceived f) full).lpu.answers = full.lpu.answers := by unfold Takes; decide +kernel

/-- R163: at 999 ms the window counts on, at 1,000 ms it restarts; the other hypotheses of the statement in turn. -/
theorem test_witness_ReceiveErrors :
    let at' := fun (n : Nat) => { State.reset with alc := { Alc.reset with ms := BitVec.ofNat 32 n } }
    let bytes := [(5 : Byte), 0x20, 7]
    let wrong : Frame := { frameFor 5 0x20 with crc := 0x1234 }
    ¬ 1000 ≤ ((at' 999).alc.ms - (at' 999).lpu.windowStart).toNat
    ∧ 1000 ≤ ((at' 1000).alc.ms - (at' 1000).lpu.windowStart).toNat
    ∧ State.reset.lpu.rxUp = .hunting ∧ State.reset.lpu.rxDown = .hunting ∧ (0x11 : Byte) ≠ 0xA5
    ∧ (withLpu { linked with rxUp := .frame bytes 0, rxDown := .frame bytes 0 }).lpu.rxUp = .frame bytes 0
    ∧ bytes.length = 3 ∧ 240 < (241 : Byte).toNat
    ∧ Frame.wellFormed wrong = true ∧ wrong.crc ≠ crc16 (Frame.covered wrong)
    ∧ Frame.covered wrong ++ be16 wrong.crc.toNat = [5, 0x20, 7, 0, 0x12] ++ [0x34] := by decide +kernel

theorem test_witness_BytesInAndSendsEnded :
    State.reset.lpu.rxUp = .hunting ∧ State.reset.lpu.rxDown = .hunting
    ∧ ([1, 2] : List Byte).length < 3 ∧ (([1, 2, 3] : List Byte).length = 3 ∧ (240 : Byte).toNat ≤ 240)
    ∧ (let bytes := ([1, 2, 3, 0] : List Byte)
      bytes[3]? = some (0 : Byte) ∧ (0 : Byte).toNat ≤ 240 ∧ bytes.length + 1 < (0 : Byte).toNat + 6)
    ∧ (withLpu { linked with answers := [own false] }).lpu.sending = some .own
    ∧ (∀ a ∈ ([own false] : List OwnFrame).head?, a.endsInReset = false)
    ∧ (withLpu { linked with sending := some .forwarded, upForward := [frameFor 1 0x80] }).lpu.sending =
        some .forwarded := by decide +kernel

theorem test_witness_BytesOfAFrameAreTheFrame :
    Frame.wellFormed (mkFrame 5 0x10 1 (List.replicate 240 0)) = true ∧ State.reset.lpu.rxUp = .hunting
    ∧ State.reset.lpu.rxDown = .hunting := by decide +kernel

theorem test_witness_RequestsDropped :
    (kindOf (.status 1)).isSome = true ∧ ¬ Takes (withLpu { linked with answers := [own false, own false] })
    ∧ ¬ Takes (withLpu { linked with resetPending := true }) := by unfold Takes; decide +kernel

theorem test_witness_OneAnswerPerRequest :
    kindOf (.reset 3) = some 0x50 ∧ kindOf (.place 3 []) = some 0x10 ∧ Takes (withLpu linked) := by
  unfold Takes; decide +kernel

/-! ### Hypotheses met: intake and loaded tables -/

def queued (n : Nat) : Pin := { Pin.reset with queue := List.replicate n .boundary }
def loaded (n : Nat) (q : Pattern) : State :=
  { withPin (queued n) with
    tables := { Tables.reset with components := List.replicate 512 ⟨true, 1, 0, 0, 0, 1⟩ }
    tbc := { Tbc.reset with pattern := some q } }
def place1 (image : Nat) : Placement := ⟨1, 35, 0, 0, .deg0, image⟩

theorem test_witness_BoundaryNeedsRoomAlone :
    Takes (withPin (queued 63)) ∧ (withPin (queued 63)).pin.queue.length < 64
    ∧ 64 ≤ (withPin (queued 64)).pin.queue.length := by unfold Takes; decide +kernel

/-- Each check of R4 at the boundary: the component, the pattern, the image, the target, the room. -/
theorem test_witness_PlacementChecksInOrder :
    let s := loaded 63 rows
    let onTable := fun (q : Pattern) (n x y : Nat) =>
      0 ≤ (q.imageOrigin n).1 + (x : Int) ∧ (q.imageOrigin n).1 + (x : Int) ≤ 45000
        ∧ 0 ≤ (q.imageOrigin n).2 + (y : Int) ∧ (q.imageOrigin n).2 + (y : Int) ≤ 36000
    Takes s ∧ s.pin.queue.length ≤ 64 ∧ s.pin.queue.length < 64
    ∧ (loaded 64 rows).pin.queue.length = 64
    ∧ componentValid State.reset.tables 35 = false ∧ componentValid s.tables 35 = true
    ∧ State.reset.tbc.pattern = none ∧ s.tbc.pattern = some rows
    ∧ rows.count < (place1 9).image ∧ (place1 8).image ≤ rows.count
    ∧ (∀ n ∈ List.range' 1 8, onTable rows n 0 0) ∧ ¬ onTable rows 4 28001 0 ∧ onTable rows 4 28000 0 := by
  unfold Takes; decide +kernel

/-- R4 check 1: the types next to a placement's and a boundary's. -/
theorem test_witness_PlacementChecksInOrder_type : ∀ type ∈ [(0 : Byte), 3, 255], type ≠ 1 ∧ type ≠ 2
    ∧ (after (.place 9 (type :: (placementBytes (place1 1)).tail)) State.reset).lpu.answers.map
      (fun a => a.frame.payload) = [[0x10, 5, 0, 64]] := by decide +kernel

theorem test_witness_PlaceTakesUpToTheFirstRefused :
    Takes State.reset ∧ walkRecords [1, 0] = none
    ∧ walkRecords [] = some [] ∧ (walkRecords (List.replicate 25 2)).map List.length = some 25
    ∧ (walkRecords (List.replicate 24 2)).map List.length = some 24
    ∧ walkRecords [2] = some [.boundary] := by unfold Takes; decide +kernel

theorem test_witness_TakesFromTheQueue :
    let s := loaded 0 rows
    s.pin.queue = [] ∧ (withPin (queued 1)).pin.queue = [.boundary]
    ∧ (withPin (queued 1)).mode ≠ .sequenceOnly ∧ (withPin (queued 1)).pin.takePanel ≠ State.reset.tbc.current
    ∧ (withPin { queued 1 with takePanel := 0 }).pin.takePanel = State.reset.tbc.current
    ∧ ({ s with tables := { s.tables with constants := { s.tables.constants with mode := .sequenceOnly } } } :
        State).mode = .sequenceOnly
    ∧ ({ s with pin := { Pin.reset with queue := [.placement (place1 1)] } } : State).pin.queue =
        [.placement (place1 1)]
    ∧ componentValid s.tables (place1 1).component = true ∧ 1 ≤ (place1 1).image
    ∧ knownBad s.mode s.tbc s.pin.takePanel 1 = false := by decide +kernel

/-- An image-0 record with no image, one image and two images left; an image known bad; a component not valid. -/
theorem test_witness_TakesFromTheQueue_images :
    let s := fun (cursor : Option Nat) (bad : Nat) => { loaded 0 rows with
      pin := { Pin.reset with queue := [.placement (place1 0)], cursor := cursor, takePanel := 0 }
      tbc := { Tbc.reset with
        pattern := some rows, panel := .ready
        images := List.replicate (8 - bad) ⟨(0, 0), .good, 0, 0⟩ ++ List.replicate bad ⟨(0, 0), .bad, 0, 0⟩ } }
    let left := fun (s : State) => (List.range' (s.pin.cursor.getD 1) (imageCount s.tbc + 1 - s.pin.cursor.getD 1)).filter
      (fun n => !knownBad s.mode s.tbc s.pin.takePanel n)
    left (s (some 9) 0) = [] ∧ left (s none 8) = [] ∧ left (s (some 8) 0) = [8] ∧ left (s none 6) = [1, 2]
    ∧ (s none 0).pin.queue = .placement (place1 0) :: [] ∧ (place1 0).image = 0 ∧ 1 ≤ (place1 8).image
    ∧ componentValid (s none 0).tables (place1 0).component = true
    ∧ knownBad (s none 1).mode (s none 1).tbc (s none 1).pin.takePanel (place1 8).image = true
    ∧ componentValid State.reset.tables (place1 0).component = false := by decide +kernel

theorem test_witness_LoadsRefuseWrongForm :
    (([] : List Byte).length ≠ (1 : Byte).toNat * 6) ∧ ((List.replicate 6 (0 : Byte)).length = (1 : Byte).toNat * 6)
    ∧ ¬ (1 ≤ (1 : Byte).toNat ∧ 1 ≤ (0 : Word16).toNat ∧ (0 : Word16).toNat + (1 : Byte).toNat ≤ 512)
    ∧ (1 ≤ (1 : Byte).toNat ∧ 1 ≤ (511 : Word16).toNat ∧ (511 : Word16).toNat + (1 : Byte).toNat ≤ 512)
    ∧ ¬ ((512 : Word16).toNat + (1 : Byte).toNat ≤ 512)
    ∧ ((List.replicate 40 (1 : Byte))[29]? = some 1 ∧ (List.replicate 40 (1 : Byte)).length = 39 + (1 : Byte).toNat)
    ∧ Takes State.reset := by unfold Takes; decide +kernel

/-- R166: two panel pattern entries, of one and of two selectors, are of the right length for a count of 2 and not of 1 or 3. -/
theorem test_witness_LoadsRefuseWrongForm_patterns :
    let one : List Byte := List.replicate 29 0 ++ [1] ++ List.replicate 10 0
    let two : List Byte := List.replicate 29 0 ++ [2] ++ List.replicate 11 0
    let parts := [one, two]
    let code := fun (count : Byte) =>
      (after (.tableLoadPanelPattern 9 0 count parts.flatten) State.reset).lpu.answers.map (fun a => a.frame.payload.drop 1)
    parts.length = (2 : Byte).toNat ∧ one[29]? = some 1 ∧ one.length = 39 + (1 : Byte).toNat
    ∧ two[29]? = some 2 ∧ two.length = 39 + (2 : Byte).toNat ∧ ¬ ((0 : Word16) = 0 ∧ (2 : Byte) = 1)
    ∧ code 2 = [[4, 0, 0, 0]] ∧ code 1 = [[12]] ∧ code 3 = [[12]] := by decide +kernel

theorem test_witness_SpanAndComponentLoads :
    let s : State := { State.reset with
      tables := { Tables.reset with spans := List.replicate 16 (some 100) }
      csu := { Csu.reset with profiles := List.replicate 32 (some profile4) } }
    let e : ComponentEntry := ⟨true, 96, 15, 31, 1, 0⟩
    Takes s
    ∧ (∀ v ∈ [50, 260], 50 ≤ v ∧ v ≤ 260 ∧ v < 65536) ∧ (14 : Word16).toNat + [50, 260].length ≤ 16
    ∧ ([50, 49] : List Nat)[1]? = some 49 ∧ (49 < 50 ∨ 260 < 49)
    ∧ (511 : Word16).toNat + [e].length ≤ 512 ∧ 1 ≤ e.station ∧ e.station ≤ 96 ∧ e.spanCode ≤ 15 ∧ e.profile ≤ 31
    ∧ e.form ≤ 1 ∧ e.checkSkip ≤ 1 ∧ s.tables.spans[e.spanCode]? = some (some 100)
    ∧ s.csu.profiles[e.profile]? = some (some profile4) := by unfold Takes; decide +kernel

/-- The load is refused with the code and the index or place at fault, and nothing but LPU changes. -/
def refusedAt (c : Instr) (s : State) (code : ResultCode) (i : Nat) : Bool :=
  decide ((after c s).lpu.answers.map (fun a => a.frame.payload) = [[0x11, byte code.code, 0] ++ be16 i])
    && decide ({ after c s with lpu := s.lpu } = s)

/-- R18 check 5: a good entry, one at fault in each field, one with a valid byte of 2. -/
theorem test_witness_SpanAndComponentLoads_faults :
    let s : State := { State.reset with
      tables := { Tables.reset with spans := List.replicate 15 (some 100) ++ [none] }
      csu := { Csu.reset with profiles := List.replicate 31 (some profile4) ++ [none] } }
    let e : ComponentEntry := ⟨true, 96, 14, 30, 1, 0⟩
    let bad := [{ e with station := 0 }, { e with station := 97 }, { e with spanCode := 15 }, { e with spanCode := 16 },
      { e with profile := 31 }, { e with profile := 32 }, { e with form := 2 }, { e with checkSkip := 2 }]
    let body := fun (x : ComponentEntry) => [e].flatMap componentBytes ++ componentBytes x ++ [2, 0, 0, 0, 0, 0]
    Takes s ∧ (∀ x ∈ bad, (body x).length = (3 : Byte).toNat * 6 ∧ x.valid = true)
    ∧ s.tables.spans[15]? = some none ∧ s.csu.profiles[31]? = some none
    ∧ bad.all (fun x => refusedAt (.tableLoadComponent 1 509 3 (body x)) s .badValue 510) = true
    ∧ refusedAt (.tableLoadComponent 1 509 3 (body { e with valid := false, station := 200 })) s .badValue 511 = true := by
  unfold Takes; decide +kernel

theorem test_witness_ProfileFilterAndMapLoads :
    let p := profile4
    let f := filter1
    let m : MapEntry := ⟨.hold, true⟩
    Takes State.reset
    ∧ (p.filterSet ≤ 3 ∧ 8 ≤ p.windowLength ∧ p.windowLength ≤ 64 ∧ p.emptyLevel ≤ 32767 ∧ p.contactLevel ≤ 32767
      ∧ p.peakMin ≤ p.peakMax ∧ p.peakMax ≤ 32767 ∧ p.indexMin ≤ p.indexMax ∧ p.indexMax < p.windowLength
      ∧ p.areaMin ≤ p.areaMax ∧ p.areaMax ≤ 2097088 ∧ p.contactMin ≤ p.windowLength ∧ p.wearLevel ≤ 32767)
    ∧ (31 : Word16).toNat + [p].length ≤ 32
    ∧ (∀ v ∈ [f.b0, f.b1, f.b2, f.a1, f.a2], -32768 ≤ v ∧ v ≤ 32767) ∧ (3 : Word16).toNat + [f].length ≤ 4
    ∧ (21 : Word16).toNat + [m].length ≤ 22 ∧ (m.channel = .stop → m.suppress = false)
    ∧ (([⟨.stop, false⟩, m] : List MapEntry).head? = some ⟨.stop, false⟩) := by unfold Takes; decide +kernel

/-- R18 check 5: a profile at fault in each field after a good one, a policy byte of 3; map entries at fault. -/
theorem test_witness_ProfileFilterAndMapLoads_faults :
    let p := profile4
    let s := State.reset
    let bytes := fun (p : Profile) => profileBytes (some p)
    let bad := [{ p with filterSet := 4 }, { p with windowLength := 65 }, { p with emptyLevel := 32768 },
      { p with contactLevel := 32768 }, { p with peakMin := 3001 }, { p with peakMax := 32768 }, { p with indexMin := 6 },
      { p with indexMax := 8 }, { p with areaMin := 13001 }, { p with areaMax := 2097089 }, { p with contactMin := 9 },
      { p with wearLevel := 32768 }]
    let row := (bytes p).set 19 3
    let map := fun (first : Word16) (rows : List (Byte × Byte)) =>
      Instr.tableLoadAlarmMap 1 first (byte rows.length) (rows.flatMap (fun x => [x.1, x.2]))
    (30 : Word16).toNat + (2 : Byte).toNat ≤ 32 ∧ row.length = 22 ∧ row[19]? = some 3 ∧ 2 < (3 : Byte).toNat
    ∧ bad.all (fun x => refusedAt (.tableLoadProfile 1 30 2 (bytes p ++ bytes x)) s .badValue 31) = true
    ∧ refusedAt (.tableLoadProfile 1 30 2 (bytes p ++ row)) s .badValue 31 = true
    ∧ [(4, 0), (3, 2), (0, 1)].all (fun x => refusedAt (map 20 [(1, 1), x]) s .badValue 21) = true
    ∧ refusedAt (map 0 [(1, 0)]) s .badValue 0 = true ∧ refusedAt (map 0 [(0, 1)]) s .badValue 0 = true := by
  decide +kernel

theorem test_witness_StationMapLoads :
    let s := withCsq { Csq.reset with seq := .idle }
    let es : List StationMapEntry := [⟨4, 96⟩, ⟨127, 0⟩, ⟨0, 1⟩]
    Takes s ∧ s.csq.seq = .idle ∧ s.csq.window = [] ∧ State.reset.csq.seq ≠ .idle
    ∧ (1 : Word16).toNat + es.length ≤ 97
    ∧ (∀ e ∈ es, (e.drop = 0 ∨ (s.tables.constants.sensePos < e.drop ∧ e.drop < s.tables.constants.chainLength))
      ∧ e.spare ≤ 96)
    ∧ (((es ++ s.tables.stations.drop 3).map StationMapEntry.drop).filter (· != 0)).Nodup := by
  unfold Takes; decide +kernel

/-- R18 checks 5 and 6: an entry out of range after a good one; a drop position shared inside the load and outside it. -/
theorem test_witness_StationMapLoads_faults :
    let s := { withCsq { Csq.reset with seq := .idle } with
      tables := { Tables.reset with
        stations := [⟨10, 3⟩, ⟨11, 0⟩, ⟨12, 0⟩] ++ List.replicate 93 ⟨0, 0⟩ } }
    let load := fun (es : List StationMapEntry) =>
      Instr.tableLoadStationMap 1 5 (byte es.length) (es.flatMap (fun e => [byte e.drop, byte e.spare]))
    s.csq.seq = .idle ∧ s.csq.window = []
    ∧ [⟨3, 0⟩, ⟨128, 0⟩, ⟨30, 97⟩, ⟨30, 6⟩].all (fun x => refusedAt (load [⟨20, 0⟩, x]) s .badValue 6) = true
    ∧ refusedAt (load [⟨20, 0⟩, ⟨30, 0⟩, ⟨0, 0⟩, ⟨30, 0⟩]) s .badValue 6 = true
    ∧ refusedAt (load [⟨20, 0⟩, ⟨30, 0⟩, ⟨12, 0⟩]) s .badValue 7 = true
    ∧ refusedAt (load [⟨200, 0⟩]) State.reset .locked 0 = true := by
  decide +kernel

theorem test_witness_PatternLoads :
    let inRange := fun (d : Int × Int) => -45000 ≤ d.1 ∧ d.1 ≤ 45000 ∧ -36000 ≤ d.2 ∧ d.2 ≤ 36000
    let onTable := fun (d : Int × Int) => 0 ≤ d.1 ∧ d.1 ≤ 45000 ∧ 0 ≤ d.2 ∧ d.2 ≤ 36000
    Takes State.reset ∧ inRange rows.pitchA ∧ inRange rows.pitchB ∧ inRange rows.pitchC ∧ inRange (4200, 300)
    ∧ (∀ n ∈ List.range' 1 8, onTable (rows.imageOrigin n) ∧ onTable (rows.markPosition n))
    ∧ State.reset.tbc.panel = .empty ∧ State.reset.pin.queue = [] ∧ State.reset.csq.window = []
    ∧ State.reset.tpc.tape = []
    ∧ (withTbc { Tbc.reset with panel := .ready }).tbc.panel ≠ .empty
    ∧ (withCsq { Csq.reset with window := [windowEntry 0 .unassigned none] }).csq.window ≠ []
    ∧ QueueRecord.placement (place1 1) ∈ (withPin { Pin.reset with queue := [.placement (place1 1)] }).pin.queue := by
  unfold Takes; decide +kernel

/-- R18 checks 4 to 6 in order: each place of R123 at fault, image 4 outside travel by its origin and by its mark. -/
theorem test_witness_PatternLoads_faults :
    let r : RawPattern :=
      ⟨2000, 3000, 8, (5000, 0), (-15000, 9000), (0, 0), [0, 0, 0, 1], 1, (4200, 300)⟩
    let load := fun (r : RawPattern) => Instr.tableLoadPanelPattern 1 0 1 (be16 r.originX ++ be16 r.originY
      ++ [byte r.count] ++ pairBytes r.pitchA ++ pairBytes r.pitchB ++ pairBytes r.pitchC ++ [byte r.selectors.length]
      ++ r.selectors ++ [byte r.markPresent] ++ pairBytes r.mark)
    let bad : List (Nat × RawPattern) :=
      [(1, { r with originX := 45001 }), (1, { r with originY := 36001, count := 0 }), (2, { r with count := 0 }),
       (2, { r with count := 17 }), (3, { r with pitchA := (45001, 0) }), (4, { r with pitchB := (-2147483648, 0) }),
       (5, { r with pitchC := (0, -36001) }), (6, { r with selectors := [] }), (6, { r with selectors := [3] }),
       (6, { r with selectors := List.replicate 9 0 }), (7, { r with markPresent := 2 }), (7, { r with mark := (45001, 0) })]
    let ready := withTbc { Tbc.reset with panel := .ready }
    bad.all (fun x => refusedAt (load x.2) State.reset .badValue x.1) = true
    ∧ bad.all (fun x => refusedAt (load x.2) ready .busy 0) = true
    ∧ load r = .tableLoadPanelPattern 1 0 1 (patternOut (some rows))
    ∧ refusedAt (load { r with originX := 30001 }) State.reset .offTable 4 = true
    ∧ refusedAt (load { r with originX := 25801 }) State.reset .offTable 4 = true
    ∧ (after (load { r with originX := 25800 }) State.reset).tbc.pattern = some { rows with originX := 25800 } := by
  decide +kernel

/-- A part at rest: the sequencer and the head IDLE, the panel EMPTY. -/
def rested : State := { withCsq { Csq.reset with seq := .idle } with hdc := { Hdc.reset with head := .idle } }

theorem test_witness_ConstantsLoads :
    let k := MachineConstants.default
    Takes rested ∧ ConstantsInRange k ∧ ConstantsInRange { k with chainLength := 40, sensePos := 7 }
    ∧ (∀ e ∈ rested.tables.stations, e.drop = 0) ∧ rested.tpc.tape.length ≤ k.festoon
    ∧ (rested.csq.seq = .idle ∧ rested.hdc.head = .idle ∧ rested.tbc.panel = .empty)
    ∧ State.reset.csq.seq ≠ .idle ∧ { k with fireLimit := 7 } ≠ k
    ∧ ({ k with stepTimeout := 50 } : MachineConstants).mode = rested.tables.constants.mode := by
  unfold Takes ConstantsInRange; decide +kernel

/-- R28: the record with one place changed. -/
def constantsWith (place value : Nat) : Instr :=
  let at' := fun (p : Nat) => if p = place then value else MachineConstants.default.places.getD (p - 1) 0
  .tableLoadConstants 1 0 1 ([1, 2, 3, 4, 5, 6].map (fun i => byte (at' i))
    ++ [7, 8, 9, 10, 11, 12].flatMap (fun i => be16 (at' i)) ++ [byte (at' 13), byte (at' 14)])

/-- R18 checks 4 to 6: each place above its range at rest, and BUSY before that where it may not change; the cross checks. -/
theorem test_witness_ConstantsLoads_faults :
    let above := [129, 8, 17, 8, 8, 49, 2001, 2001, 1001, 3001, 10001, 501, 10, 3]
    let places := List.range' 1 14
    let mapped := fun (d : Nat) => { rested with tables := { Tables.reset with stations := [⟨8, 0⟩, ⟨d, 0⟩, ⟨120, 0⟩] } }
    let taped := { rested with tpc := { Tpc.reset with tape := (List.range 5).map tapeEntry } }
    places.all (fun i => refusedAt (constantsWith i (above.getD (i - 1) 0)) rested .badValue i) = true
    ∧ places.all (fun i => refusedAt (constantsWith i (above.getD (i - 1) 0)) State.reset
        (if 7 ≤ i ∧ i ≤ 11 then .badValue else .busy) (if 7 ≤ i ∧ i ≤ 11 then i else 0)) = true
    ∧ refusedAt (constantsWith 2 7) (mapped 7) .badValue 2 = true
    ∧ refusedAt (constantsWith 1 120) (mapped 9) .badValue 1 = true
    ∧ refusedAt (constantsWith 6 4) taped .badValue 6 = true ∧ refusedAt (constantsWith 14 2) taped .busy 0 = true := by
  decide +kernel

/-- R31: a record that changes the mode, with an UNKNOWN clip on the chain and with none, and with another L. -/
theorem test_witness_ConstantsLoads_mode :
    let only := { rested with
      tables := { Tables.reset with constants := { MachineConstants.default with mode := .insertOnly } }
      tpc := { Tpc.reset with verified := true }, pin := { Pin.reset with ask := true } }
    let clean := { only with csq := { only.csq with ring := List.replicate 128 .empty } }
    let k := MachineConstants.default
    let load := fun (k : MachineConstants) (s : State) => after (.tableLoadConstants 1 0 1 (constantsBytes k)) s
    k.mode ≠ only.tables.constants.mode ∧ .unknown ∈ only.csq.ring ∧ .unknown ∉ clean.csq.ring
    ∧ (load k only).csq.seq = .purging ∧ (load k clean).csq.seq = .idle ∧ (load k clean).mode = .sequenceInsert
    ∧ (load k only).tpc.verified = false ∧ (load k only).pin.ask = false
    ∧ (load { k with chainLength := 64 } clean).csq.seq = .purging
    ∧ (load { k with mode := .insertOnly, chainLength := 64 } clean).csq.seq = .idle := by decide +kernel

theorem test_witness_ModeRequest :
    Takes rested ∧ 2 < (3 : Byte).toNat ∧ (2 : Byte).toNat = Mode.insertOnly.code
    ∧ (0 : Byte).toNat = rested.mode.code ∧ Mode.insertOnly ≠ rested.mode
    ∧ (rested.csq.seq = .idle ∧ rested.hdc.head = .idle ∧ rested.tbc.panel = .empty ∧ rested.pin.queue = []
      ∧ rested.csq.window = [] ∧ rested.tpc.tape = []) ∧ State.reset.csq.seq ≠ .idle := by
  unfold Takes; decide +kernel

/-- Index and length boundaries of the reads: 39 COMPONENT entries fill an answer, 40 do not fit. -/
theorem test_witness_TableReads :
    Takes State.reset ∧ (1 ≤ (39 : Byte).toNat ∧ (0 : Word16).toNat + (39 : Byte).toNat ≤ 512)
    ∧ 4 + 0 + (((State.reset.tables.components.drop 0).take 39).flatMap componentBytes).length ≤ 238
    ∧ 238 < 4 + 0 + (((State.reset.tables.components.drop 0).take 40).flatMap componentBytes).length
    ∧ ¬ ((512 : Word16).toNat + (1 : Byte).toNat ≤ 512) ∧ State.reset.tbc.images = [] := by
  unfold Takes; decide +kernel

/-! ### Hypotheses met: alarms and run level -/

def alarm (n : Nat) (k : AlarmKind) (c : ChannelId) : AlarmEntry := ⟨BitVec.ofNat 16 n, k, none, c, 0, 0, 0⟩

/-- `n` entries of CHAIN JAM in the STOP channel, of different subjects. -/
def stopped (n : Nat) : Alc :=
  { Alc.reset with
    stopCh := ⟨(List.range n).map (fun i => { alarm i .chainJam .stop with subject := some i }), 0, 0⟩, red := true }

theorem test_witness_PostsAreTakenByTheMap :
    let quiet : Alc := { Alc.reset with map := Alc.reset.map.set 21 ⟨.note, true⟩ }
    ((withAlc quiet).alc.mapOf .linkErrors).suppress = true
    ∧ (State.reset.alc.mapOf .chainJam).suppress = false
    ∧ (∃ e ∈ (stopped 1).stopCh.entries, e.kind = .chainJam ∧ e.subject = some 0)
    ∧ (¬ ∃ e ∈ (stopped 8).stopCh.entries, e.kind = .chainJam ∧ e.subject = none)
    ∧ 8 ≤ (stopped 8).stopCh.entries.length ∧ (stopped 7).stopCh.entries.length < 8
    ∧ (withAlc (stopped 7)).shu.sweep = none := by decide +kernel

theorem test_witness_RunLevels :
    let busy := { withAlc running with csq := { Csq.reset with seq := .running, window := [windowEntry 0 .loaded none] } }
    let held := withCsq { Csq.reset with seq := .held, window := [windowEntry 0 .loaded none] }
    Takes State.reset ∧ (State.reset.alc.stopCh.entries = [] ∧ State.reset.alc.estop = .released)
    ∧ ¬ ((stopped 1).stopCh.entries = []) ∧ rested.csq.seq = .idle ∧ rested.mode ≠ .insertOnly
    ∧ State.reset.csq.seq = .purging
    ∧ Takes busy ∧ busy.csq.window ≠ [] ∧ busy.csq.seq = .running ∧ busy.alc.effective ≠ .stop
    ∧ Takes held ∧ held.csq.window ≠ [] ∧ held.csq.seq = .held ∧ held.alc.effective = .stop
    ∧ held.alc.stopCh.entries = [] ∧ held.alc.estop = .released
    ∧ ¬ (held.mode = .sequenceInsert ∧ held.tables.constants.festoon ≤ held.tpc.tape.length)
    ∧ (let full := { held with tpc := { Tpc.reset with tape := (List.range 32).map tapeEntry } }
      full.mode = .sequenceInsert ∧ full.tables.constants.festoon ≤ full.tpc.tape.length)
    ∧ (withCsq { Csq.reset with seq := .running }).csq.window = []
    ∧ (withCsq { Csq.reset with seq := .running }).csq.cycle = .rest := by unfold Takes; decide +kernel

/-- R44, R80, log 17: the level leaves STOP, the line released, with a suspended step and a suspended or STALLED transfer. -/
theorem test_witness_RunLevels_told :
    let s := fun (t : Option Transfer) (h : HandlerPhase) => { State.reset with
      csq := { Csq.reset with cycle := .step, stepTimer := .suspended 5 }
      tpc := { Tpc.reset with transfer := t, timer := .suspended 6 }
      tbc := { Tbc.reset with handler := some ⟨.release, h⟩ } }
    let going := after (.run 1) (s (some ⟨.dump, .suspended⟩) .suspended)
    let due := after .resumeButton (s (some ⟨.tape, .stalled⟩) .stalled)
    let stops := after (.stop 1) { due with alc := running }
    (s none .running).alc.effective = .stop ∧ going.alc.effective ≠ .stop ∧ stops.alc.effective = .stop
    ∧ going.csq.stepTimer = .running 5 ∧ going.out.chainDrive = .goOn
    ∧ going.tpc.transfer = some ⟨.dump, .running⟩ ∧ going.tpc.timer = .running 6 ∧ going.out.gate = .goOn
    ∧ going.tpc.restartDue = false ∧ going.tbc.restartDue = false
    ∧ due.tpc.transfer = some ⟨.tape, .stalled⟩ ∧ due.tpc.restartDue = true ∧ due.tbc.restartDue = true
    ∧ stops.tpc.restartDue = false ∧ stops.tbc.restartDue = false := by decide +kernel

theorem test_witness_AlarmsReadAndCleared :
    let e := alarm 3 .headJam .stop
    let b := alarm 4 .tapeBreak .stop
    let s := withAlc { stopped 0 with stopCh := ⟨[e, b], 0, 0⟩ }
    Takes s ∧ 3 < (4 : Byte).toNat ∧ (3 : Byte).toNat = ChannelId.note.code ∧ (0 : Byte).toNat = ChannelId.stop.code
    ∧ (∀ x ∈ (s.alc.channel .stop).entries, x.seq ≠ 9)
    ∧ (s.alc.channel .stop).entries = [] ++ e :: [b] ∧ (s.alc.channel .stop).entries = [e] ++ b :: []
    ∧ clearable s e = true ∧ s.alc.estop = .released
    ∧ clearable { s with tpc := { Tpc.reset with tension := .broken } } b = false
    ∧ (∀ d ∈ [ChannelId.stop, .hold, .warn, .note], d.code < ChannelId.stop.code → (s.alc.channel d).entries = [])
    ∧ (∀ c ∈ [ChannelId.stop, .hold, .warn, .note], (State.reset.alc.channel c).entries = [])
    ∧ (let t := withAlc { stopped 0 with stopCh := ⟨[e], 0, 0⟩, estop := .asserted }
      t.alc.stopCh.entries = e :: [] ∧ t.alc.estop = .asserted ∧ e.kind ≠ .estop ∧ clearable t e = true
      ∧ t.alc.mapOf .estop = ⟨.stop, false⟩ ∧ t.shu.sweep = none) := by unfold Takes; decide +kernel

/-- R145, R152: a STOP entry cleared by request under an asserted line, from a full channel and alone; the count is log 20's. -/
theorem test_witness_AlarmsReadAndCleared_request :
    let s := fun (n : Nat) => withAlc { stopped n with estop := .asserted, nextSeq := 77 }
    let chk := fun (n i : Nat) => decide (
      (after (.alarmClear 9 0 0) { s n with alc := { (s n).alc with stopCh := ⟨(List.range n).map
        (fun j => { alarm ((j + n - i) % n) .chainJam .stop with subject := some j }), 0, 0⟩ } }).lpu.answers.map
          (fun a => a.frame.payload.take 3) = [[0x41, 0, byte n], [0, 77, 0]])
    Takes (s 8) ∧ (s 8).alc.stopCh.entries.length = 7 + 1
    ∧ (∀ x ∈ (s 8).alc.stopCh.entries, x.kind ≠ .estop ∧ clearable (s 8) x = true)
    ∧ (s 8).alc.mapOf .estop = ⟨.stop, false⟩ ∧ (s 8).shu.sweep = none
    ∧ chk 8 0 = true ∧ chk 8 7 = true ∧ chk 1 0 = true := by unfold Takes; decide +kernel

/-- R145, R152: a STOP entry cleared under an asserted line while an ESTOP entry stands: nothing is posted again. -/
theorem test_witness_AlarmsReadAndCleared_estop :
    let e := alarm 3 .headJam .stop
    let x := alarm 4 .estop .stop
    let s := withAlc { stopped 0 with stopCh := ⟨[e, x], 0, 0⟩, estop := .asserted, nextSeq := 5 }
    Takes s ∧ s.alc.stopCh.entries = [] ++ e :: [x] ∧ s.alc.estop = .asserted ∧ clearable s e = true
    ∧ (∃ y ∈ [x], y.kind = .estop) ∧ (after .clearButton s).alc.stopCh.entries = [x]
    ∧ (after (.alarmClear 9 0 3) s).alc.stopCh.entries = [x] ∧ (after (.alarmClear 9 0 3) s).alc.nextSeq = 5 := by
  unfold Takes; decide +kernel

/-- A step, a taping and a handler operation in flight, with the E-stop line released. -/
def moving : State :=
  { withAlc running with
    csq := { Csq.reset with cycle := .step, stepTimer := .running 5 }
    tpc := { Tpc.reset with transfer := some ⟨.tape, .running⟩, timer := .running 6 } }

theorem test_witness_EstopLine :
    EstopInv moving ∧ moving.alc.estop = .released ∧ moving.alc.mapOf .estop = ⟨.stop, false⟩
    ∧ moving.alc.stopCh.entries.length < 8 ∧ moving.csq.cycle = .step ∧ moving.csq.stepTimer = .running 5
    ∧ moving.tpc.transfer = some ⟨.tape, .running⟩ ∧ moving.tpc.timer = .running 6
    ∧ moving.tbc.handler = some ⟨.release, .running⟩ ∧ moving.tbc.handlerTimer = .running 3000
    ∧ (withAlc { Alc.reset with estop := .asserted }).alc.estop = .asserted := by
  unfold EstopInv LevelInv StoppedByEstop; decide +kernel

/-- R44, R80: the requested level RUN kept under an asserted line whose alarm is gone; the release lets the step go on. -/
theorem test_witness_EstopLine_release :
    let s := { moving with
      alc := { running with estop := .asserted, effective := .stop, green := false }
      csq := { moving.csq with stepTimer := .suspended 5 } }
    (after .estopReleased s).alc.effective = .run ∧ (after .estopReleased s).csq.stepTimer = .running 5
    ∧ (after .estopReleased s).out.chainDrive = .goOn := by decide +kernel

theorem test_witness_TimeAndSensors :
    State.reset.tpc.tension = .normal ∧ (withTpc { Tpc.reset with tension := .broken }).tpc.tension = .broken
    ∧ State.reset.tbc.limits = .released
    ∧ (withTbc { Tbc.reset with limits := .active }).tbc.limits = .active := by decide +kernel

/-! ### Hypotheses met: stations, sweep, tape -/

/-- Stations 1, 2 and 3 fitted at 10, 11 and 12; 3 is the spare of 1. -/
def fittedTables : Tables :=
  { Tables.reset with stations := [⟨10, 3⟩, ⟨11, 0⟩, ⟨12, 0⟩] ++ List.replicate 93 ⟨0, 0⟩ }
def stationed (h : Shu) : State := { rested with tables := fittedTables, shu := h }

theorem test_witness_StationFlagsRequest :
    let s := stationed { Shu.reset with subst := [⟨1, 3, 0, 0⟩] }
    Takes s ∧ 96 < (97 : Byte).toNat ∧ (96 : Byte).toNat = 96
    ∧ s.shu.records[96 - 1]? = some ⟨true, false, false, false, false, 0, 0, 0⟩ ∧ s.shu.records.length = 96
    ∧ (∀ e ∈ s.shu.subst, e.failed ≤ 96 ∧ e.substitute ≤ 96) := by unfold Takes; decide +kernel

theorem test_witness_SweepRequests :
    let s := stationed Shu.reset
    let f : SweepFields := ⟨[1, 96], 0, 4, 1⟩
    let free := fun (s : State) => s.mode ≠ .insertOnly ∧ s.csq.seq = .idle ∧ s.csq.window = []
      ∧ noTestAboveSense s = true
    Takes s ∧ sweepFieldsOf [2] = none ∧ sweepFieldsOf [0, 2, 1, 96, 0, 4, 1] = some f
    ∧ (∀ n ∈ f.stations, 1 ≤ n ∧ n ≤ 96) ∧ ¬ (∀ n ∈ [0, 97], 1 ≤ n ∧ n ≤ 96)
    ∧ (f.groupSize ∈ [0, 1, 4, 8] ∧ 1 ≤ f.passes ∧ f.passes ≤ 4 ∧ f.variant ≤ 1 ∧ f.stations ≠ [])
    ∧ ¬ (2 ∈ [0, 1, 4, 8]) ∧ ¬ (5 ≤ 4)
    ∧ free s ∧ ¬ free State.reset ∧ (stopped 1).stopCh.entries ≠ [] ∧ s.alc.stopCh.entries = []
    ∧ (List.range' 1 96).filter (fun n => decide (n ∈ f.stations) && fitted s.tables n) = [1]
    ∧ (List.range' 1 96).filter (fun n => decide (n ∈ f.stations) && fitted rested.tables n) = []
    ∧ (stationed { Shu.reset with sweep := some ⟨1, 1, false, [], [], []⟩ }).shu.sweep.isSome = true
    ∧ s.shu.sweep = none ∧ s.shu.result = none
    ∧ (stationed { Shu.reset with result := some ⟨.done, 1, [], 0⟩ }).shu.result = some ⟨.done, 1, [], 0⟩ := by
  unfold Takes; decide +kernel

/-- R164: payloads of neither form: the lengths next to the right ones. -/
theorem test_witness_SweepRequests_lengths :
    1 < (2 : Byte).toNat ∧ sweepFieldsOf [0, 1, 5, 0, 1] = none ∧ sweepFieldsOf [0, 1, 5, 0, 1, 0, 0] = none
    ∧ (sweepFieldsOf [0, 1, 5, 0, 1, 0]).isSome = true ∧ sweepFieldsOf (1 :: List.replicate 14 0) = none
    ∧ sweepFieldsOf (1 :: List.replicate 16 0) = none ∧ (sweepFieldsOf (1 :: List.replicate 15 0)).isSome = true := by
  decide +kernel

theorem test_witness_MissesAndSubstitution :
    let s := stationed Shu.reset
    let full : Shu := { Shu.reset with subst := (List.range 8).map (fun i => ⟨50 + i, 60 + i, 0, 0⟩) }
    let r : StationRecord := ⟨true, false, false, false, false, 2, 2, 0⟩
    let near := stationed { Shu.reset with records := Shu.reset.records.set 0 r }
    let qualifies := fun (s : State) (sp : Nat) => sp ≠ 0 ∧ fitted s.tables sp = true ∧ usable s.tables s.shu sp = true
      ∧ ∀ e ∈ s.shu.subst, e.failed ≠ sp ∧ e.substitute ≠ sp
    (∃ e ∈ (stationed { Shu.reset with subst := [⟨1, 3, 0, 0⟩] }).shu.subst, e.failed = 1)
    ∧ (∀ e ∈ s.shu.subst, e.failed ≠ 1) ∧ (stationMapAt s.tables 1).spare = 3 ∧ qualifies s 3
    ∧ ¬ qualifies s (stationMapAt s.tables 2).spare ∧ s.shu.subst.length < 8
    ∧ qualifies (stationed full) 3 ∧ (∀ e ∈ full.subst, e.failed ≠ 1) ∧ 8 ≤ full.subst.length
    ∧ s.shu.records[1 - 1]? = some ⟨true, false, false, false, false, 0, 0, 0⟩
    ∧ satInc 7 0 < s.tables.constants.missLimit
    ∧ near.shu.records[1 - 1]? = some r ∧ r.jammed = false ∧ near.tables.constants.missLimit ≤ satInc 7 2
    ∧ usable near.tables near.shu 1 = true ∧ usable State.reset.tables near.shu 1 = false := by decide +kernel

theorem test_witness_SweepEnds :
    let w : Sweep := ⟨1, 1, false, [], [1], [⟨1, 1, 0, 1, true⟩]⟩
    let s := { stationed { Shu.reset with sweep := some w } with
      csq := { Csq.reset with seq := .sweeping, exchange := .waiting }, alc := stopped 7 }
    s.shu.sweep = some w ∧ w.withSubst = false ∧ w.waiting = []
    ∧ (∀ m ∈ w.members, m.fired = w.passes ∧ m.resolved = w.passes)
    ∧ ({ w with waiting := [2] } : Sweep).waiting ≠ []
    ∧ s.alc.mapOf .headJam = ⟨.stop, false⟩
    ∧ (∀ e ∈ s.alc.stopCh.entries, ¬ (e.kind = .headJam ∧ e.subject = none)) ∧ s.alc.stopCh.entries.length < 8
    ∧ s.csq.exchange = .waiting ∧ ExchangeState.complete ≠ .waiting := by decide +kernel

/-- R71: station 1 fails and has station 3 for a spare; with room for it the sweep is DONE, without it is OVER. -/
theorem test_witness_SweepEnds_substitution :
    let w : Sweep := ⟨1, 1, true, [], [1], [⟨1, 1, 0, 1, true⟩]⟩
    let s := fun (n : Nat) => { stationed { Shu.reset with
        sweep := some w, subst := (List.range n).map (fun i => ⟨50 + i, 60 + i, 0, 0⟩) } with
      alc := { running with map := running.map.set AlarmKind.sweepDone.code ⟨.note, false⟩ } }
    let outcome := fun (s : State) => (sweepTest s).shu.result.map (fun r => (r.outcome, r.substitutions))
    (s 8).shu.sweep = some w ∧ w.withSubst = true ∧ w.waiting = []
    ∧ (∀ m ∈ w.members, m.fired = w.passes ∧ m.resolved = w.passes)
    ∧ outcome (s 7) = some (.done, 1) ∧ outcome (s 8) = some (.over, 0)
    ∧ (s 7).alc.mapOf .stationJam = ⟨.warn, false⟩ ∧ (s 7).alc.mapOf .sweepDone = ⟨.note, false⟩
    ∧ (s 7).alc.warnCh.entries.length + 1 ≤ 8 ∧ (recordAt (s 7).shu 1).jammed = false := by decide +kernel

/-- R69, R72, R51: a pass still to be resolved ends nothing; an abort with TESTs waiting, alone and beside a FIRE, and in flight. -/
theorem test_witness_SweepEnds_aborted :
    let w : Sweep := ⟨1, 1, false, [], [1], [⟨1, 1, 0, 0, false⟩]⟩
    let s := fun (x : ExchangeState) (c : SlotCommand) => { stationed { Shu.reset with sweep := some w } with
      csq := { Csq.reset with
        seq := .sweeping, cycle := .settle, exchange := x, ring := (List.replicate 40 ClipState.empty).set 10 (.test 1)
        commands := ((List.replicate 96 SlotCommand.none).set 0 (.test 10 true)).set 1 c } }
    let ended := fun (x : ExchangeState) (c : SlotCommand) => (post .headJam none (s x c)).csq
    (s .waiting .none).shu.sweep = some w ∧ ⟨1, 1, 0, 0, false⟩ ∈ w.members ∧ ¬ (0 = w.passes)
    ∧ (sweepTest (s .waiting .none)).shu = (s .waiting .none).shu
    ∧ (s .waiting .none).csq.commands.length = 96 ∧ (s .waiting .none).alc.mapOf .sweepDone = ⟨.note, false⟩
    ∧ (s .waiting .none).alc.noteCh.entries.length < 8
    ∧ (ended .waiting .none).exchange = .complete ∧ (ended .waiting .none).cycle = .rest
    ∧ (ended .waiting .none).ring = List.replicate 40 .empty
    ∧ (ended .waiting (.fire 0)).exchange = .waiting ∧ (ended .waiting (.fire 0)).commands.take 2 = [.none, .fire 0]
    ∧ (ended .inFlight .none).commands.head? = some (.test 10 false)
    ∧ clipAt (ended .inFlight .none) 10 = .test 1 ∧ (ended .complete .none).seq = .idle := by decide +kernel

theorem test_witness_TapeClearRequest :
    let s := { rested with tpc := { Tpc.reset with tape := [tapeEntry 0], transfer := some ⟨.tape, .waitTape⟩ } }
    let asks := fun (s : State) => s.mode = .insertOnly ∧ s.tpc.tape = [] ∧ s.tpc.verified = true ∧ s.pin.ask = false
    let only := { rested with
      tables := { rested.tables with constants := { MachineConstants.default with mode := .insertOnly } }
      tpc := { Tpc.reset with verified := true } }
    Takes s ∧ (s.hdc.head = .idle ∧ s.tpc.transfer = some ⟨.tape, .waitTape⟩)
    ∧ (HeadState.cut ≠ .idle ∧ HeadState.cut ≠ .fault)
    ∧ ((withTpc { Tpc.reset with transfer := some ⟨.tape, .running⟩ }).tpc.transfer = some ⟨.tape, .running⟩
      ∧ TransferPhase.running ≠ .waitTape)
    ∧ asks only ∧ ¬ asks s
    ∧ (take only).2 = none
    ∧ (take { only with
        tables := { only.tables with components := (loaded 0 rows).tables.components }
        pin := { Pin.reset with queue := [.placement (place1 1)] } }).2.isSome = true
    ∧ (take (withPin { queued 1 with ask := true })).2 = none
    ∧ (take { only with
        tables := { only.tables with components := (loaded 0 rows).tables.components }
        pin := { Pin.reset with queue := [.placement (place1 1)], ask := true } }).2.isSome = true := by
  unfold Takes; decide +kernel

theorem test_witness_StatusRecordsAndPanelLoad :
    let s := loaded 0 rows
    Takes s ∧ s.tbc.panel = .empty ∧ s.tbc.pattern.isSome = true ∧ s.mode ≠ .sequenceOnly
    ∧ State.reset.tbc.pattern = none ∧ (withTbc { Tbc.reset with panel := .ready }).tbc.panel ≠ .empty := by
  unfold Takes; decide +kernel

/-! ### Hypotheses met: the chain and the taper -/

/-- A chain of 40 places, RUNNING, with one window entry. -/
def chain (w : WindowEntry) (ring : List ClipState) (cycle : ChainCycle) : State :=
  { withAlc running with
    tables := { (loaded 0 rows).tables with
      stations := fittedTables.stations, constants := { MachineConstants.default with chainLength := 40 } }
    csq := { Csq.reset with
      ring := ring, fireLoad := List.replicate 40 0, window := [w], seq := .running, cycle := cycle } }

def empties : List ClipState := List.replicate 40 .empty

theorem test_witness_ChainStepsStartAndTimeOut :
    let s := chain (windowEntry 0 .unassigned none) empties .rest
    let e := { s with csq := { s.csq with cycle := .step, stepTimer := .running 0, exchange := .waiting } }
    (s.csq.cycle = .rest ∧ s.alc.effective ≠ .stop ∧ s.csq.seq ∈ [.running, .sweeping, .purging]
      ∧ ¬ (s.mode = .sequenceInsert ∧ s.tables.constants.festoon ≤ s.tpc.tape.length) ∧ s.alc.estop = .released)
    ∧ (e.csq.cycle = .step ∧ e.csq.stepTimer = .running 0 ∧ e.shu.sweep = none
      ∧ e.alc.mapOf .chainJam = ⟨.stop, false⟩ ∧ e.alc.stopCh.entries.length < 8
      ∧ (∀ a ∈ e.alc.stopCh.entries, ¬ (a.kind = .chainJam ∧ a.subject = none))
      ∧ e.csq.seq = .running ∧ e.alc.effective ≠ .stop)
    ∧ e.csq.exchange = .waiting := by decide +kernel

theorem test_witness_ClipSenseAndAssignment :
    let w := windowEntry 0 .loaded (some 3)
    let u := windowEntry 0 .unassigned none
    let at3 := fun (c : ClipState) => chain w (empties.set 3 c) .settle
    let s := chain u empties .settle
    let h : Shu := { Shu.reset with subst := [⟨1, 3, 0, 0⟩] }
    (clipAt (at3 .reject).csq 3 = .reject ∧ clipAt s.csq 3 = .empty ∧ clipAt (at3 .unknown).csq 3 = .unknown
      ∧ clipAt (at3 (.test 2)).csq 3 = .test 2 ∧ s.tables.constants.sensePos = 3)
    ∧ (clipAt (at3 .loaded).csq 3 = .loaded ∧ entryAt (at3 .loaded).csq 3 = some w
      ∧ w.captured = some (captured 0) ∧ 1 ≤ (captured 0).station)
    ∧ (s.csq.window = [] ++ u :: [] ∧ u.status = .unassigned
      ∧ componentValid s.tables 1 = true ∧ (componentAt s.tables 1).station = 1
      ∧ resolveStation s.tables s.shu 1 = some 1 ∧ s.csq.fireLoad[39 - dropPosition s.tables 1]? = some 0
      ∧ 0 < s.tables.constants.fireLimit)
    ∧ (resolveStation State.reset.tables s.shu 1 = none ∧ componentValid State.reset.tables 1 = false
      ∧ s.pin.queue = [])
    ∧ ((({ s.csq with fireLoad := List.replicate 40 6 } : Csq).fireLoad[29]? = some 6)
      ∧ s.tables.constants.fireLimit ≤ 6)
    ∧ (∀ v ∈ (at3 .loaded).csq.window, v.status ≠ .unassigned)
    ∧ h.subst = [] ++ ⟨1, 3, 0, 0⟩ :: [] ∧ fitted s.tables 3 = true ∧ (recordAt h 3).enabled = true
    ∧ (recordAt h 3).jammed = false ∧ (recordAt h 3).empty = false ∧ ¬ (fitted State.reset.tables 3 = true) := by
  decide +kernel

/-- R69: a TEST clip sensed with two drops awaiting sense, present and absent, and with none. -/
theorem test_witness_ClipSenseAndAssignment_test :
    let s := fun (awaiting : Nat) =>
      { chain (windowEntry 0 .unassigned none) (empties.set 3 (.test 1)) .settle with
        shu := { Shu.reset with sweep := some ⟨1, 2, false, [], [1], [⟨1, 2, awaiting, 0, false⟩, ⟨2, 2, 1, 0, false⟩]⟩ } }
    let members := fun (t : State) => (t.shu.sweep.map Sweep.members).getD []
    clipAt (s 2).csq 3 = .test 1
    ∧ members (clipSense true (s 2)) = [⟨1, 2, 1, 1, false⟩, ⟨2, 2, 1, 0, false⟩]
    ∧ members (clipSense false (s 2)) = [⟨1, 2, 1, 1, true⟩, ⟨2, 2, 1, 0, false⟩]
    ∧ members (clipSense false (s 0)) = members (s 0) := by decide +kernel

/-- R47: the first candidate is no longer valid and another follows it in the window, or in the Placement Queue. -/
theorem test_witness_ClipSenseAndAssignment_next :
    let bad := windowEntry 0 .unassigned none
    let first : WindowEntry := { bad with entry := { bad.entry with component := 0 } }
    let c := chain first empties .settle
    let next := windowEntry 1 .unassigned none
    let two := { c with csq := { c.csq with window := [first, next] } }
    let queued := { c with pin := { c.pin with queue := [.placement { place1 1 with component := 1 }] } }
    componentValid c.tables 0 = false ∧ two.csq.window = [] ++ first :: [next] ∧ first.status = .unassigned
    ∧ (two.csq.window.map (·.entry.uid)).Nodup
    ∧ (assignEntering two).csq.window.map WindowEntry.status = [.reserved] ∧ (assignEntering two).pin.rejected = 1
    ∧ (assignEntering queued).csq.window.map WindowEntry.status = [.reserved] := by decide +kernel

theorem test_witness_IndexEvents :
    let quiet := fun (c : ClipState) (zero : ClipState) (t : Option Transfer) =>
      { chain (windowEntry 0 .loaded (some 3)) (((empties.set 4 c).set 1 zero).set 39 .unknown) .step with
        csq := { (chain (windowEntry 0 .loaded none) (((empties.set 4 c).set 1 zero).set 39 .unknown) .step).csq with
          window := [], seq := .purging }
        tpc := { Tpc.reset with transfer := t } }
    let moved := fun (s : State) => { s.csq with base := (s.csq.base + 1) % s.csq.ring.length }
    let w := windowEntry 0 .loaded (some 0)
    let s := { chain w (empties.set 0 .loaded) .settle with tpc := { Tpc.reset with verified := true } }
    (quiet .empty .empty none).csq.cycle = .step ∧ s.csq.cycle = .settle
    ∧ (withCsq { Csq.reset with abandoned := true }).csq.cycle = .rest
    ∧ clipAt (moved (quiet .empty .empty none)) 3 = .empty ∧ clipAt (moved (quiet .reject .reject none)) 3 = .reject
    ∧ (quiet .empty .empty none).csq.window = [] ∧ (quiet .empty .empty none).csq.seq = .purging
    ∧ .unknown ∈ (quiet .empty .empty none).csq.ring ∧ clipAt (moved (quiet .empty .empty none)) 0 = .empty
    ∧ (quiet .empty .empty none).tpc.transfer = none
    ∧ clipAt (moved (quiet .reject .reject none)) 0 = .reject ∧ (quiet .reject .reject none).alc.estop = .released
    ∧ s.csq.window = [w] ∧ clipAt s.csq 0 = .loaded ∧ w.status = .loaded ∧ w.clip = some 0
    ∧ s.tpc.verified = true ∧ s.alc.estop = .released := by decide +kernel

/-- The whole event that starts a taping: the LOADED clip of the only entry comes from 1 to 0. -/
theorem test_witness_IndexEvents_taping :
    let w := windowEntry 0 .loaded (some 1)
    let s := { chain w (empties.set 1 .loaded) .step with tpc := { Tpc.reset with verified := true } }
    let moved := { s.csq with base := (s.csq.base + 1) % s.csq.ring.length }
    s.csq.cycle = .step ∧ clipAt moved s.tables.constants.sensePos = .empty ∧ s.csq.seq = .running
    ∧ s.csq.window = [w] ∧ w.status = .loaded ∧ w.clip = some 1 ∧ clipAt moved 0 = .loaded ∧ s.pin.queue = []
    ∧ s.tpc.verified = true ∧ s.alc.estop = .released
    ∧ (after (.chainIndexEvent false) s).tpc.transfer = some ⟨.tape, .running⟩ := by decide +kernel

/-- R75, R80: a LOADED clip on tape of either state and a TEST clip, the line released and asserted. -/
theorem test_witness_IndexEvents_handOver :
    let s := fun (c : ClipState) (verified : Bool) (e : LineState) =>
      { chain (windowEntry 0 .loaded (some 0)) (empties.set 0 c) .settle with
        tpc := { Tpc.reset with verified := verified }, alc := { Alc.reset with estop := e } }
    let t := fun (c : ClipState) (verified : Bool) (e : LineState) =>
      ((handOver (s c verified e)).tpc.transfer, (handOver (s c verified e)).tpc.timer)
    clipAt (s .loaded true .asserted).csq 0 = .loaded ∧ (s .loaded false .released).tpc.verified = false
    ∧ clipAt (s (.test 4) true .released).csq 0 = .test 4 ∧ clipAt (s .unknown true .released).csq 0 = .unknown
    ∧ clipAt (s .empty true .released).csq 0 = .empty
    ∧ t .loaded true .asserted = (some ⟨.tape, .suspended⟩, .suspended 300)
    ∧ t .loaded false .asserted = (some ⟨.tape, .waitTape⟩, .stopped)
    ∧ t (.test 4) false .asserted = (some ⟨.dump, .suspended⟩, .suspended 300)
    ∧ t .reject false .released = (some ⟨.dump, .running⟩, .running 300) := by decide +kernel

/-- Station 1 drops at 10 for the RESERVED entry 0. -/
def booked (cycle : ChainCycle) : State :=
  let w : WindowEntry := { windowEntry 0 .reserved (some 10) with captured := some ⟨1, 100, 0, .inward, false⟩ }
  chain w (empties.set 10 .reserved) cycle

theorem test_witness_ExchangeIsBuilt :
    (booked .settle).csq.seq ≠ .sweeping ∧ (buildExchange (booked .settle)).csq.commands[0]? = some (.fire 0)
    ∧ (buildExchange (booked .settle)).csq.exchange = .inFlight := by decide +kernel

/-- Two stations of a group due for their last pass, a third waiting; and the same without an EMPTY clip. -/
theorem test_witness_ExchangeIsBuilt_sweeping :
    let w : Sweep := ⟨2, 1, false, [3], [1, 2], [⟨1, 0, 0, 0, false⟩, ⟨2, 0, 0, 0, false⟩]⟩
    let s := fun (ring : List ClipState) =>
      let c := chain (windowEntry 0 .unassigned none) ring .settle
      { c with shu := { Shu.reset with sweep := some w }, csq := { c.csq with window := [], seq := .sweeping } }
    (s empties).csq.seq = .sweeping ∧ (s empties).shu.sweep = some w ∧ (s empties).csq.window = []
    ∧ (buildExchange (s empties)).csq.commands.take 3 = [.test 10 true, .test 11 true, .none]
    ∧ (buildExchange (s empties)).shu.sweep.map Sweep.current = some [3]
    ∧ (buildExchange (s (List.replicate 40 .reject))).csq.exchange = .complete := by decide +kernel

theorem test_witness_ExchangeCompletes :
    let b := booked .settle
    let s := { b with csq := { b.csq with
      exchange := .inFlight, commands := (List.replicate 96 SlotCommand.none).set 0 (.fire 0) } }
    s.csq.exchange = .inFlight ∧ s.csq.commands = (List.replicate 96 SlotCommand.none).set (1 - 1) (.fire 0)
    ∧ s.shu.sweep = none ∧ (entryAt s.csq (dropPosition s.tables 1)).map (·.entry.uid) = some 0
    ∧ (entryAt s.csq (dropPosition s.tables 1)).map WindowEntry.status = some .reserved
    ∧ clipAt s.csq (dropPosition s.tables 1) = .reserved ∧ State.reset.csq.exchange ≠ .inFlight
    ∧ entryAt ({ s.csq with window := [] }) (dropPosition s.tables 1) = none
    ∧ (let t := { s with csq := { s.csq with commands := (List.replicate 96 SlotCommand.none).set 95 (.fire 0) } }
      t.csq.commands = (List.replicate 96 SlotCommand.none).set (96 - 1) (.fire 0)) := by decide +kernel

/-- R53: the clip built as TEST is emptied by a NO_PART reply, also after a load has moved the station's drop position. -/
theorem test_reply_of_an_aborted_sweep :
    let c := chain (windowEntry 0 .unassigned none) (empties.set 20 (.test 1)) .settle
    let s := { c with csq := { c.csq with
      window := [], seq := .idle, exchange := .inFlight
      commands := (List.replicate 96 SlotCommand.none).set 0 (.test 20 false) } }
    dropPosition s.tables 1 = 10 ∧ clipAt s.csq 20 = .test 1
    ∧ clipAt (after (.exchangeComplete ([.noPart] ++ List.replicate 95 .unfilled)) s).csq 20 = .empty
    ∧ clipAt (after (.exchangeComplete ([.dropped] ++ List.replicate 95 .unfilled)) s).csq 20 = .test 1 := by
  decide +kernel

/-- R72: a STOP alarm ends the sweep with its TEST reply outstanding; the clip is no more above SP, a new sweep of the same
station is running when the reply comes: the reply counts in the fires and judges nothing. -/
theorem test_reply_of_a_former_sweep_judges_nothing :
    let w : Sweep := ⟨1, 1, false, [], [1], [⟨1, 1, 0, 0, false⟩]⟩
    let c := chain (windowEntry 0 .unassigned none) (empties.set 5 (.test 1)) .settle
    let running := { c with
      shu := { c.shu with sweep := some w }
      csq := { c.csq with
        window := [], seq := .sweeping, exchange := .inFlight
        commands := (List.replicate 96 SlotCommand.none).set 0 (.test 5 true) } }
    let ended := post .taperJam none running
    let cleared := { ended with
      alc := Alc.reset, lpu := Lpu.reset
      tables := { ended.tables with constants := { ended.tables.constants with sensePos := 6 } } }
    let again := after (.sweep 7 [0, 1, 1, 1, 1, 0]) cleared
    let t := after (.exchangeComplete ([.noPart] ++ List.replicate 95 .unfilled)) again
    ended.shu.sweep = none ∧ ended.csq.commands.head? = some (.test 5 false)
    ∧ again.shu.sweep.map Sweep.members = some [⟨1, 0, 0, 0, false⟩] ∧ again.csq.exchange = .inFlight
    ∧ t.shu.sweep = again.shu.sweep ∧ (recordAt t.shu 1).fires = (recordAt again.shu 1).fires + 1 := by
  decide +kernel

/-- The slots of the statement: a RESERVED clip and one that is not, a TEST clip and one that is not. -/
theorem test_witness_ExchangeCompletes_slots :
    let s := booked .settle
    let t := chain (windowEntry 0 .unassigned none) (empties.set 20 (.test 1)) .settle
    (∃ w ∈ s.csq.window, entryAt s.csq (dropPosition s.tables 1) = some w ∧ w.entry.uid = 0 ∧ w.status = .reserved)
    ∧ clipAt s.csq (dropPosition s.tables 1) = .reserved ∧ entryAt s.csq (dropPosition s.tables 2) = none
    ∧ clipAt t.csq 20 = .test 1 ∧ clipAt t.csq 21 ≠ .test 1
    ∧ (recordAt s.shu 1).empty = false ∧ usable s.tables s.shu 1 = true ∧ usable s.tables s.shu 4 = false
    ∧ (recordAt { s.shu with records := [⟨true, false, true, false, false, 0, 0, 0⟩] } 1).empty = true := by
  decide +kernel

theorem test_witness_MissCascade :
    let w : WindowEntry := { windowEntry 0 .reserved (some 11) with captured := some ⟨1, 100, 0, .inward, false⟩ }
    let s := fun (c : ClipState) => chain w (empties.set 11 c) .settle
    (s .reserved).csq.window = [] ++ w :: [] ∧ ((s .reserved).csq.window.map (·.entry.uid)).Nodup
    ∧ satInc 7 w.tries ≤ (s .reserved).tables.constants.retryLimit
    ∧ (s .reserved).tables.constants.retryLimit < satInc 7 2
    ∧ (s .reserved).alc.mapOf .placementRetry = ⟨.stop, false⟩ ∧ (s .reserved).alc.stopCh.entries.length < 8
    ∧ w.status = .reserved ∧ w.clip = some 11 ∧ clipAt (s .empty).csq 11 = .empty
    ∧ clipAt (s .loaded).csq 11 = .loaded ∧ clipAt (s .reserved).csq 11 = .reserved
    ∧ 1 ≤ 11 - dropPosition (s .reserved).tables 1 := by decide +kernel

/-- R35, R51: a clip at its drop position (d = 0), its exchange not built, past, IN FLIGHT and WAITING with its command alone
and with another; and a window with entries before and after the missed one. -/
theorem test_witness_MissCascade_bookings :
    let s := fun (x : ExchangeState) (c : List SlotCommand) =>
      { booked .settle with csq := { (booked .settle).csq with exchange := x, commands := c } }
    let alone := (List.replicate 96 SlotCommand.none).set 0 (.fire 0)
    let three := [windowEntry 3 .loaded (some 5), windowEntry 4 .reserved (some 12), windowEntry 5 .unassigned none]
    10 - dropPosition (booked .settle).tables 1 = 0 ∧ clipAt (booked .settle).csq 10 = .reserved
    ∧ (booked .settle).csq.window.map WindowEntry.clip = [some 10] ∧ (booked .settle).csq.exchange = .none
    ∧ (s .complete alone).csq.exchange = .complete ∧ (s .inFlight alone).csq.exchange = .inFlight
    ∧ (s .waiting alone).csq.exchange = .waiting ∧ (∀ x ∈ alone.set 0 .none, x = .none)
    ∧ (∃ x ∈ (alone.set 5 (.fire 9)).set 0 .none, x ≠ .none)
    ∧ three = [windowEntry 3 .loaded (some 5)] ++ windowEntry 4 .reserved (some 12) :: [windowEntry 5 .unassigned none]
    ∧ (∀ v ∈ [windowEntry 3 .loaded (some 5)], v.entry.uid ∉ [4, 5]) ∧ (windowEntry 4 .reserved (some 12)).entry.uid ∈ [4, 5]
    ∧ (three.map (·.entry.uid)).Nodup ∧ (windowEntry 5 .unassigned none).clip = none
    ∧ clipAt (booked .settle).csq 9 = .empty := by decide +kernel

theorem test_witness_NoticesAreTaken :
    let m : MarkNotice := ⟨0, 1⟩
    let w : WindowEntry := { windowEntry 0 .reserved (some 11) with captured := some ⟨1, 100, 0, .inward, false⟩ }
    let other : WindowEntry := { windowEntry 1 .loaded (some 12) with entry := { entry 1 1 with panel := 9 } }
    let s := { chain w (empties.set 11 .reserved) .settle with
      csq := { (chain w (empties.set 11 .reserved) .settle).csq with unusable := [1], marks := [m] } }
    let two := { s with csq := { s.csq with
      window := [other, windowEntry 0 .loaded (some 5)], ring := empties.set 5 .loaded } }
    let h := withHdc { Hdc.reset with
      head := .waitTable, marks := [m], cycle := some (newCycle .insert (some (tapeEntry 0))) }
    s.csq.unusable = 1 :: [] ∧ s.csq.window = [] ++ w :: [] ∧ w.status = .reserved
    ∧ w.captured.map Captured.station = some 1 ∧ (s.csq.window.map (·.entry.uid)).Nodup ∧ w.clip = some 11
    ∧ clipAt s.csq 11 = .reserved ∧ 1 ≤ 11 - dropPosition s.tables 1
    ∧ ¬ (other.status = .reserved ∧ other.captured.map Captured.station = some 1)
    ∧ (withPin { Pin.reset with marks := [m] }).pin.marks = m :: []
    ∧ two.csq.marks = m :: [] ∧ two.csq.window ≠ [] ∧ ¬ (other.entry.panel = m.panel ∧ other.entry.image = m.image)
    ∧ two.csq.window = [other] ++ windowEntry 0 .loaded (some 5) :: [] ∧ [other] ++ ([] : List WindowEntry) ≠ []
    ∧ (two.csq.window.map (·.entry.uid)).Nodup ∧ ((entry 0 1).panel = m.panel ∧ (entry 0 1).image = m.image)
    ∧ (windowEntry 0 .taping none).status = .taping ∧ clipAt two.csq 5 = .loaded
    ∧ (withTpc { Tpc.reset with marks := [m], tape := [tapeEntry 0] }).tpc.marks = m :: []
    ∧ h.hdc.marks = m :: [] ∧ h.hdc.head = .waitTable
    ∧ h.hdc.cycle = some (newCycle .insert (some (tapeEntry 0)))
    ∧ (newCycle .insert (some (tapeEntry 0))).entry = some (tapeEntry 0)
    ∧ (withHdc { Hdc.reset with marks := [m] }).hdc.head ≠ .waitTable := by decide +kernel

/-- R37: a RESERVED entry of the marked image among others, its clip a step ahead of its drop position and at it. -/
theorem test_witness_NoticesAreTaken_reserved :
    let other : WindowEntry := { windowEntry 1 .loaded (some 12) with entry := { entry 1 1 with panel := 9 } }
    let w := fun (p : Nat) => { windowEntry 0 .reserved (some p) with captured := some ⟨1, 100, 0, .inward, false⟩ }
    let s := fun (p : Nat) (x : ExchangeState) =>
      let c := chain (w p) (empties.set p .reserved) .settle
      { c with csq := { c.csq with window := [other, w p], marks := [⟨0, 1⟩], exchange := x } }
    (s 11 .none).csq.marks = ⟨0, 1⟩ :: [] ∧ (s 11 .none).csq.window = [other] ++ w 11 :: []
    ∧ ((s 11 .none).csq.window.map (·.entry.uid)).Nodup ∧ ¬ (other.entry.panel = 0 ∧ other.entry.image = 1)
    ∧ ((w 11).entry.panel = 0 ∧ (w 11).entry.image = 1) ∧ (w 11).status = .reserved
    ∧ (w 11).captured = some ⟨1, 100, 0, .inward, false⟩ ∧ clipAt (s 11 .none).csq 11 = .reserved
    ∧ 1 ≤ 11 - dropPosition (s 11 .none).tables 1 ∧ 10 - dropPosition (s 10 .none).tables 1 = 0
    ∧ clipAt (s 10 .waiting).csq 10 = .reserved ∧ (s 10 .waiting).csq.exchange = .waiting
    ∧ (s 10 .inFlight).csq.exchange = .inFlight ∧ (s 10 .complete).csq.exchange = .complete := by decide +kernel

/-- R37, R38: a marking notice that names three of four entries, one of them TAPING; one that empties the window at requested
STOP, in REST and with the end of a waiting exchange. -/
theorem test_witness_NoticesAreTaken_several :
    let at' := fun (n : Nat) (x : ExchangeState) (cycle : ChainCycle) (window : List WindowEntry) =>
      let c := chain (windowEntry 0 .loaded none) (empties.set n .reserved) cycle
      { c with
        alc := Alc.reset
        csq := { c.csq with
          marks := [⟨0, 1⟩], exchange := x, window := window, seq := .held
          commands := (List.replicate 96 SlotCommand.none).set 0 (.fire 1) } }
    let w : WindowEntry := { windowEntry 1 .reserved (some 10) with captured := some ⟨1, 100, 0, .inward, false⟩ }
    let other : WindowEntry := { windowEntry 3 .unassigned none with entry := entry 3 2 }
    let s := at' 10 .none .settle [windowEntry 0 .taping (some 0), w, windowEntry 2 .loaded (some 5), other]
    let t := after .markingNoticeCsq s
    s.csq.marks = ⟨0, 1⟩ :: [] ∧ (s.csq.window.map (·.entry.uid)).Nodup
    ∧ t.csq.window.map (·.entry.uid) = [0, 3] ∧ t.csq.window.map WindowEntry.discard = [true, false]
    ∧ t.pin.rejected = 2 ∧ t.rrg.records.length = 2 ∧ t.csq.seq = .held
    ∧ (after .markingNoticeCsq (at' 10 .none .rest [w])).csq.seq = .idle
    ∧ (after .markingNoticeCsq (at' 10 .waiting .settle [w])).csq.seq = .idle
    ∧ (after .markingNoticeCsq (at' 10 .inFlight .settle [w])).csq.seq = .held := by decide +kernel

theorem test_witness_TaperEvents :
    let w := windowEntry 0 .taping none
    let s := fun (t : Transfer) (timer : Timer) => { chain w empties .settle with
      tpc := { Tpc.reset with transfer := some t, timer := timer, restartDue := true } }
    let only := fun (s : State) => { s with
      tables := { s.tables with constants := { s.tables.constants with mode := .sequenceOnly } } }
    let t := s ⟨.tape, .suspended⟩ .stopped
    t.tpc.transfer = some ⟨.tape, .suspended⟩ ∧ TransferPhase.suspended ≠ .waitTape ∧ t.csq.window = w :: []
    ∧ w.captured = some (captured 0) ∧ t.alc.requested ≠ .stop ∧ t.csq.seq ≠ .purging ∧ t.mode ≠ .sequenceOnly
    ∧ (only t).mode = .sequenceOnly ∧ State.reset.tpc.transfer = none
    ∧ (s ⟨.tape, .waitTape⟩ .stopped).tpc.transfer = some ⟨.tape, .waitTape⟩
    ∧ (s ⟨.dump, .stalled⟩ .stopped).tpc.transfer = some ⟨.dump, .stalled⟩
    ∧ (s ⟨.dump, .running⟩ (.running 0)).tpc.transfer = some ⟨.dump, .running⟩
    ∧ (s ⟨.dump, .running⟩ (.running 0)).tpc.timer = .running 0
    ∧ (s ⟨.dump, .stalled⟩ .stopped).tpc.restartDue = true
    ∧ (s ⟨.dump, .stalled⟩ .stopped).alc.effective ≠ .stop := by decide +kernel

/-- R38, R40: the taped event of the last entry and a dump event with an empty window at requested STOP; a taped event that ends
a purge. -/
theorem test_witness_TaperEvents_idle :
    let s := fun (op : TransferOp) (seq : SeqState) (window : List WindowEntry) =>
      let c := chain (windowEntry 0 .taping (some 0)) (empties.set 0 .unknown) .settle
      { c with
        alc := Alc.reset, csq := { c.csq with seq := seq, window := window, exchange := .complete }
        tpc := { Tpc.reset with transfer := some ⟨op, .running⟩ } }
    (s .tape .held []).alc.requested = .stop
    ∧ (after .tapedEvent (s .tape .held [windowEntry 0 .taping (some 0)])).csq.seq = .idle
    ∧ (after .tapedEvent (s .tape .held [windowEntry 0 .taping (some 0), windowEntry 1 .unassigned none])).csq.seq = .held
    ∧ (after .tapedEvent (s .tape .purging [windowEntry 0 .taping (some 0)])).csq.seq = .idle
    ∧ (after .dumpEvent (s .dump .held [])).csq.seq = .idle
    ∧ (after .dumpEvent (s .dump .purging [])).csq.seq = .idle := by decide +kernel

/-! ### Hypotheses met: the head, the clinch signature, the table -/

/-- The head IDLE at RUN, the tape VERIFIED with one entry, panel 0 READY. -/
def headReady (e : TapeEntry) : State :=
  { withAlc running with
    hdc := { Hdc.reset with head := .idle, clear := true, span := some 50, rotate := some .deg0 }
    tpc := { Tpc.reset with tape := [e], verified := true }
    tbc := { Tbc.reset with panel := .ready, handler := none, pattern := some rows, cursor := none
                            images := List.replicate 8 ⟨(0, 0), .good, 0, 0⟩ } }

theorem test_witness_HeadStarts :
    let e := tapeEntry 0
    let s := headReady e
    let only := { s with
      tables := { s.tables with constants := { s.tables.constants with mode := .insertOnly } }
      hdc := { s.hdc with skip := true } }
    let held := { s with alc := holding }
    s.tpc.tape = e :: [] ∧ (s.hdc.head = .idle ∧ s.alc.effective = .run ∧ s.tpc.verified = true)
    ∧ s.hdc.skip = false ∧ e.discard = false ∧ e.entry.panel = s.tbc.current ∧ s.tbc.panel = .ready
    ∧ imageState s.tbc e.entry.image = .good ∧ s.hdc.span ≠ some e.captured.span
    ∧ s.hdc.rotate = some e.entry.orientation
    ∧ ({ s.hdc with span := some 100 } : Hdc).span = some e.captured.span
    ∧ ({ e with discard := true } : TapeEntry).discard = true
    ∧ (only.mode = .insertOnly ∧ only.hdc.skip = true ∧ only.alc.effective = .run)
    ∧ (State.reset.hdc.head = .fault ∧ (withAlc running).alc.effective = .run)
    ∧ (held.hdc.head = .idle ∧ held.alc.effective ≠ .run ∧ held.mode = .sequenceInsert ∧ held.tpc.tape = e :: [])
    ∧ ({ only with alc := holding } : State).alc.effective ≠ .run := by decide +kernel

/-- The head in a state of the cycle `c`. -/
def cycling (h : HeadState) (c : HeadCycle) : State :=
  let s := headReady (tapeEntry 0)
  { s with hdc := { s.hdc with head := h, cycle := some c, timer := .running 0 } }

theorem test_witness_HeadPhases :
    let e := tapeEntry 0
    let c := newCycle .insert (some e)
    let d := { c with spanDue := true, rotateDue := true }
    let s := cycling .form c
    let skips : TapeEntry := { e with captured := { captured 0 with checkSkip := true } }
    let u := { Csu.reset with profiles := List.replicate 32 (some profile4) }
    ((cycling .setup d).hdc.head = .setup ∧ (cycling .setup d).hdc.cycle = some d ∧ d.entry = some e
      ∧ d.spanDue = true ∧ d.rotateDue = true ∧ c.spanDue = false ∧ c.rotateDue = false)
    ∧ (cycling .cut c).hdc.head = .cut
    ∧ (s.hdc.head = .form ∧ s.hdc.cycle = some c ∧ c.kind = .insert ∧ c.entry = some e)
    ∧ (newCycle .freeDump none).kind ≠ .insert
    ∧ imageState s.tbc e.entry.image = .good
    ∧ imageState { s.tbc with images := [⟨(0, 0), .bad, 0, 0⟩] } e.entry.image ≠ .good
    ∧ (e.entry.panel = s.tbc.current ∧ s.tbc.panel = .ready)
    ∧ ({ s.tbc with inPosition := .entry 0 } : Tbc).inPosition = .entry e.entry.uid ∧ s.tbc.inPosition = .none
    ∧ (cycling .drive c).hdc.head = .drive ∧ skips.captured.checkSkip = true ∧ e.captured.checkSkip = false
    ∧ u.profiles[e.captured.profile]? = some (some profile4)
    ∧ u.filters[profile4.filterSet]? = some ⟨8192, 0, 0, 0, 0, true⟩
    ∧ (cycling .clinch c).hdc.head = .clinch ∧ (cycling .clinch c).csu.window = none
    ∧ (withCsu { Csu.reset with window := some goodWindow }).csu.window = some goodWindow
    ∧ (cycling .eject c).hdc.head = .eject ∧ (cycling .homing c).hdc.head = .homing := by decide +kernel

theorem test_witness_HeadUp :
    let e := tapeEntry 0
    let s := fun (k : CycleKind) (o : Option TapeEntry) => cycling .retract (newCycle k o)
    (s .insert (some e)).hdc.head = .retract ∧ (s .insert (some e)).hdc.cycle = some (newCycle .insert (some e))
    ∧ (newCycle .freeDump none).kind = .freeDump ∧ (newCycle .insert (some e)).entry = some e
    ∧ (s .insert (some e)).tpc.tape = e :: [] ∧ (newCycle .dump (some e)).kind = .dump
    ∧ (newCycle .insert (some e)).kind = .insert ∧ e.entry.panel = (s .insert (some e)).tbc.current
    ∧ ({ e.entry with panel := 1 } : Entry).panel ≠ (s .insert (some e)).tbc.current := by decide +kernel

theorem test_witness_HeadAborts :
    let e := tapeEntry 0
    let c := newCycle .insert (some e)
    let f := newCycle .freeDump none
    (cycling .setup c).hdc.timer = .running 0 ∧ (cycling .setup c).hdc.head = .setup
    ∧ (cycling .drive c).hdc.cycle = some c ∧ c.entry = some e ∧ c.kind ≠ .freeDump
    ∧ (cycling .drive c).tpc.tape = e :: []
    ∧ ((cycling .drive c).hdc.head, c.kind, RecordOutcome.aborted) ∈
        [(HeadState.drive, CycleKind.insert, RecordOutcome.aborted)]
    ∧ (cycling .cut f).hdc.cycle = some f ∧ f.kind = .freeDump
    ∧ (cycling .cut f).hdc.head ∈ [.cut, .form, .eject, .retract]
    ∧ (cycling .homing c).hdc.head = .homing := by decide +kernel

/-- SETUP out of time with the front entry's image GOOD and known bad; room in the STOP channel; RETRACT with a verdict. -/
theorem test_witness_HeadAborts_alarms :
    let e := tapeEntry 0
    let c := { newCycle .insert (some e) with spanDue := true, verdict := some .good, features := some ⟨3, 2, 1, 4⟩ }
    let s := cycling .setup c
    let bad := { s with tbc := { s.tbc with images := List.replicate 8 ⟨(0, 0), .bad, 0, 0⟩ } }
    s.hdc.timer = .running 0 ∧ s.hdc.head = .setup ∧ s.hdc.cycle = some c ∧ s.tpc.tape = e :: []
    ∧ knownBad s.mode s.tbc e.entry.panel e.entry.image = false
    ∧ bad.tpc.tape = e :: [] ∧ knownBad bad.mode bad.tbc e.entry.panel e.entry.image = true
    ∧ s.alc.mapOf .spanFault = ⟨.stop, false⟩ ∧ s.alc.mapOf .headJam = ⟨.stop, false⟩
    ∧ s.alc.stopCh.entries.length < 8 ∧ s.alc.stopCh.entries = []
    ∧ signatureOf c = some ⟨.good, 3, 2, 1, 4⟩
    ∧ ((cycling .retract c).hdc.head, c.kind, RecordOutcome.inserted) =
        (HeadState.retract, CycleKind.insert, RecordOutcome.inserted) := by decide +kernel

/-- The line asserted in WAIT_TABLE, in CLINCH with a window open, in SETUP and in HOMING. -/
theorem test_witness_HeadAborts_estop :
    let e := tapeEntry 0
    let c := { newCycle .insert (some e) with spanDue := true }
    let s := fun (h : HeadState) => { cycling h c with csu := { Csu.reset with window := some goodWindow } }
    let t := fun (h : HeadState) => after .estopAsserted (s h)
    (s .waitTable).alc.estop = .released ∧ (s .waitTable).hdc.cycle = some c ∧ c.entry = some e
    ∧ (s .waitTable).tpc.tape = e :: [] ∧ c.kind = .insert
    ∧ (t .waitTable).rrg.records.map RingRecord.outcome = [.aborted] ∧ (t .waitTable).hdc.aborted = 1
    ∧ ((t .waitTable).tbc.images[0]?).map ImageRecord.faults = some 1 ∧ (t .waitTable).tpc.tape = []
    ∧ (t .clinch).csu.window = none ∧ (t .clinch).csu.last = none ∧ (t .clinch).hdc.head = .fault
    ∧ (t .setup).hdc.span = none ∧ (t .setup).hdc.rotate = some .deg0 ∧ (t .setup).tpc.tape = [e]
    ∧ (t .homing).hdc.span = none ∧ (t .homing).hdc.clear = false
    ∧ (headReady e).hdc.head = .idle ∧ (withHdc { Hdc.reset with head := .fault }).hdc.head = .fault := by decide +kernel

theorem test_witness_SignatureArithmetic :
    filter1.bypass = false ∧ ({ filter1 with bypass := true } : FilterSet).bypass = true
    ∧ 5 ≤ (goodWindow.samples.take 5).length ∧ 5 ≤ goodWindow.samples.length := by decide +kernel

/-- A window of 11 samples waits for its last one, of 12 has it; of 4 it is SENSOR. -/
theorem test_witness_SamplesAndVerdicts :
    let w := { goodWindow with samples := goodWindow.samples.take 11, panel := 0 }
    let s := { headReady (tapeEntry 0) with
      csu := { Csu.reset with window := some w, silence := .running 0 } }
    State.reset.csu.window = none ∧ s.csu.window = some w ∧ s.csu.silence = .running 0
    ∧ State.reset.csu.silence ≠ .running 0
    ∧ 4 + w.profile.windowLength ≤ (w.samples ++ [219]).length
    ∧ (w.samples.take 10 ++ [219]).length < 4 + w.profile.windowLength
    ∧ judge profile4 (measure goodWindow) = .good
    ∧ ((0 - 0 / 16 + (measure goodWindow).peak.toNat) / 16 ≤ profile4.wearLevel)
    ∧ (w.samples.take 4).length < 5 ∧ Verdict.sensor ≠ .good
    ∧ s.alc.stopCh.entries.length < 6 ∧ s.alc.holdCh.entries.length < 6 ∧ w.panel = s.tbc.current
    ∧ s.tbc.panel = .ready ∧ 1 ≤ w.image ∧ w.image ≤ s.tbc.images.length ∧ imageState s.tbc w.image = .good := by
  decide +kernel

/-- R118, R120: one fault below the repeat limit and at it, each with its alarms; a worn cutter. -/
theorem test_witness_SamplesAndVerdicts_alarms :
    let w := { goodWindow with samples := goodWindow.samples.take 4, panel := 0 }
    let s := fun (faults wear : Nat) (w : SampleWindow) => { headReady (tapeEntry 0) with
      csu := { Csu.reset with window := some w, faults := faults, wear := List.replicate 32 wear } }
    let kinds := fun (t : State) => (t.alc.stopCh.entries ++ t.alc.holdCh.entries ++ t.alc.warnCh.entries
      ++ t.alc.noteCh.entries).map AlarmEntry.kind
    (s 0 0 w).csu.faults + 1 < (s 0 0 w).tables.constants.repeatLimit
    ∧ (s 2 0 w).tables.constants.repeatLimit ≤ (s 2 0 w).csu.faults + 1
    ∧ kinds (closeWindow w (s 0 0 w)) = [.sensorSilent, .clinchFault]
    ∧ kinds (closeWindow w (s 2 0 w)) = [.clinchRepeat, .sensorSilent, .clinchFault]
    ∧ kinds (closeWindow goodWindow (s 0 60000 goodWindow)) = [.cutterWear] := by decide +kernel

theorem test_witness_PanelsAndHandler :
    let s := headReady (tapeEntry 0)
    let empty := { s with tbc := { s.tbc with panel := .empty, loadWanted := true } }
    let left := { s with tpc := { s.tpc with tape := [] } }
    let op := fun (o : HandlerOp) (p : HandlerPhase) (t : Timer) =>
      { s with tbc := { s.tbc with handler := some ⟨o, p⟩, handlerTimer := t, restartDue := true } }
    (empty.tbc.pattern = some rows ∧ empty.tbc.panel = .empty ∧ empty.tbc.handler = none ∧ empty.mode ≠ .sequenceOnly
      ∧ empty.tbc.loadWanted = true ∧ empty.alc.effective ≠ .stop ∧ empty.alc.estop = .released
      ∧ empty.hdc.clear = true)
    ∧ (left.tbc.panel = .ready ∧ left.pin.takePanel = left.tbc.current + 1 ∧ left.csq.window = []
      ∧ left.tpc.tape = [] ∧ left.tbc.handler = none)
    ∧ (op .load .stalled .stopped).tbc.handler = some ⟨.load, .stalled⟩
    ∧ rows.badMark = some (4200, 300) ∧ ({ rows with badMark := none } : Pattern).badMark = none
    ∧ (op .release .running (.running 0)).tbc.handler = some ⟨.release, .running⟩
    ∧ (op .release .running (.running 0)).tbc.handlerTimer = .running 0
    ∧ (op .load .suspended (.suspended 7)).tbc.handler = some ⟨.load, .suspended⟩
    ∧ (op .load .suspended (.suspended 7)).tbc.handlerTimer = .suspended 7
    ∧ (op .load .stalled .stopped).tbc.restartDue = true := by decide +kernel

theorem test_witness_TableMoves :
    let e := tapeEntry 0
    let s := headReady e
    let survey := { s with tbc := { s.tbc with panel := .survey, cursor := some 8 } }
    let other : TapeEntry := { tapeEntry 1 with discard := true }
    let two := { s with tpc := { s.tpc with tape := [other, e] } }
    let move := fun (k : MoveKind) => { s with tbc := { s.tbc with move := some ⟨k, 0, 0⟩, moveTimer := .running 0 } }
    (survey.tbc.pattern = some rows ∧ survey.tbc.cursor = some 8 ∧ survey.tbc.panel = .survey
      ∧ survey.tbc.move = none ∧ survey.tbc.inPosition ≠ .image 8 ∧ survey.alc.effective ≠ .stop
      ∧ survey.alc.estop = .released ∧ survey.hdc.clear = true)
    ∧ (two.tpc.tape = [other] ++ e :: [] ∧ other.discard = true ∧ e.entry.panel = two.tbc.current
      ∧ e.discard = false ∧ imageState two.tbc e.entry.image = .good ∧ two.tbc.panel = .ready
      ∧ two.tbc.inPosition ≠ .entry e.entry.uid ∧ two.alc.effective = .run)
    ∧ (move (.survey 8)).tbc.move = some ⟨.survey 8, 0, 0⟩ ∧ 8 ≤ (move (.survey 8)).tbc.images.length
    ∧ imageState (move (.survey 8)).tbc 8 = .good ∧ (move (.insert 0)).tbc.move = some ⟨.insert 0, 0, 0⟩
    ∧ (∃ x ∈ s.tpc.tape, x.entry.uid = 0 ∧ x.discard = false ∧ imageState s.tbc x.entry.image = .good)
    ∧ (¬ ∃ x ∈ s.tpc.tape, x.entry.uid = 9 ∧ x.discard = false ∧ imageState s.tbc x.entry.image = .good)
    ∧ s.hdc.head ≠ .waitTable
    ∧ (cycling .waitTable (newCycle .insert (some e))).hdc.head = .waitTable
    ∧ (move (.insert 0)).tbc.move.isSome = true ∧ (move (.insert 0)).tbc.moveTimer = .running 0 := by decide +kernel

/-- R129, R130: a mark present at an image that is GOOD and at one that is REJECTED already. -/
theorem test_witness_TableMoves_mark :
    let s := headReady (tapeEntry 0)
    let at' := fun (st : ImageState) => { s with tbc := { s.tbc with
      panel := .survey, move := some ⟨.survey 8, 0, 0⟩, moveTimer := .running 9
      images := s.tbc.images.modify 7 (fun r => { r with state := st }) } }
    let t := fun (st : ImageState) => after (.inPosition true) (at' st)
    (at' .good).tbc.move = some ⟨.survey 8, 0, 0⟩ ∧ imageState (at' .good).tbc 8 = .good
    ∧ imageState (at' .rejected).tbc 8 = .rejected
    ∧ imageState (t .good).tbc 8 = .bad ∧ imageState (t .rejected).tbc 8 = .rejected
    ∧ (t .good).csq.marks = [⟨s.tbc.current, 8⟩] ∧ (t .rejected).csq.marks = []
    ∧ (∀ st ∈ [ImageState.good, .rejected], (t st).tbc.inPosition = .image 8 ∧ (t st).tbc.panel = .ready
      ∧ (t st).alc.noteCh.entries.map (fun e => (e.kind, e.subject)) = [(.badImage, some 8)]) := by decide +kernel

/-! ### Hypotheses met: what every step keeps -/

theorem test_reset_keeps_levels : LevelInv State.reset ∧ ChainInv State.reset ∧ EstopInv State.reset := by
  unfold ChainInv EstopInv LevelInv ConstantsInRange StoppedByEstop; decide +kernel

theorem test_reset_keeps_bounds : BoundsInv State.reset ∧ IdentityInv State.reset ∧ Balance State.reset := by
  unfold BoundsInv IdentityInv Balance; decide +kernel

theorem test_witness_invariants :
    LevelInv State.reset ∧ ChannelInv State.reset ∧ BoundsInv State.reset ∧ ChainInv State.reset
    ∧ EstopInv State.reset ∧ AccountInv State.reset ∧ SignatureInv State.reset ∧ PanelInv State.reset
    ∧ step State.reset = .next State.reset := by
  refine ⟨test_reset_keeps_levels.1, ?_, test_reset_keeps_bounds.1, test_reset_keeps_levels.2.1,
    test_reset_keeps_levels.2.2, ⟨test_reset_keeps_bounds.2.2, test_reset_keeps_bounds.2.1, ?_, ?_, ?_⟩, ?_, ?_, rfl⟩
  · intro c; cases c <;> decide +kernel
  · intro c h; cases h
  · intro _; rfl
  · intro h; cases h
  · exact ⟨test_reset_keeps_levels.2.1.1, by decide +kernel, by decide +kernel, fun w h => by cases h⟩
  · exact ⟨by decide +kernel, by decide +kernel, by decide +kernel, by decide +kernel, fun m n h => by cases h⟩

end Sys2Proof.Tests
end

section
/-! PROOF. The state at reset (R17, R20, R23, R24, R28, R55, R74, R87, R105, R122, R137, R139, R155, R172). -/

open Sys2Proof Sys2Proof.Machine

/-- Settles O4: every value is read off `State.reset`. -/
theorem resetStateHoldsTheSpecsValues : Obligations.ResetStateHoldsTheSpecsValues := by
  unfold Obligations.ResetStateHoldsTheSpecsValues
  have hchannels : ∀ c, State.reset.alc.channel c = ⟨[], 0, 0⟩ := fun c => by cases c <;> rfl
  exact ⟨by decide +kernel, by decide +kernel, by decide +kernel, by decide +kernel, by decide +kernel,
    by decide +kernel, by decide +kernel, by decide +kernel, rfl, ⟨rfl, hchannels, by decide +kernel⟩,
    by decide +kernel, by decide +kernel⟩

namespace Sys2Proof.Machine

/-- No cycle, no window, no tape: every entry is accounted for at reset. -/
theorem accountInv_reset : AccountInv State.reset :=
  ⟨rfl, ⟨List.nodup_nil, fun _ h => absurd h List.not_mem_nil⟩, fun _ h => (nomatch h), fun _ => rfl, fun h => (nomatch h)⟩

theorem constantsInRange_default : ConstantsInRange MachineConstants.default := by
  unfold ConstantsInRange; decide

theorem estopInv_reset : EstopInv State.reset :=
  ⟨⟨rfl, rfl⟩, fun _ => rfl, .inr (.inl rfl), fun h => (nomatch h)⟩

theorem channelInv_reset : ChannelInv State.reset := by
  intro c
  cases c <;> exact ⟨Nat.zero_le _, fun _ h => (nomatch h), List.nodup_nil⟩

theorem panelInv_reset : PanelInv State.reset :=
  ⟨.inr rfl, fun _ => rfl, fun _ => .inl rfl, fun h => (nomatch h), fun _ _ h => (nomatch h)⟩

end Sys2Proof.Machine

/-- Settles O60: each invariant is read off `State.reset`. -/
theorem resetHoldsWhatStepsKeep : Obligations.ResetHoldsWhatStepsKeep := by
  have hbounds : BoundsInv State.reset := by unfold BoundsInv; decide
  have hchain : ChainInv State.reset := ⟨constantsInRange_default, rfl, rfl, by decide⟩
  have hsignature : SignatureInv State.reset :=
    ⟨constantsInRange_default, by decide, by decide, fun _ h => (nomatch h)⟩
  exact ⟨⟨rfl, rfl⟩, channelInv_reset, hbounds, hchain, estopInv_reset, accountInv_reset, hsignature, panelInv_reset⟩
end

section
/-! PROOF. What the kept invariants read of the state, and the steps that leave all of it as it is. -/

namespace Sys2Proof.Machine

/-! ### The view -/

/-- The numbers of the window entries, window first to last. -/
def windowIds (q : Csq) : List Nat := q.window.map (·.entry.uid)

/-- The numbers of the Tape List entries, front first. -/
def tapeIds (t : Tpc) : List Nat := t.tape.map (·.entry.uid)

/-- What CycleInv reads of a head cycle: its kind and the number of its entry. -/
def HeadCycle.ids (c : HeadCycle) : CycleKind × Option Nat := (c.kind, c.entry.map (·.entry.uid))

/-- The counters of the balance of section 10.5. -/
structure Counts where
  taken : Word32
  inserted : Word32
  dumped : Word32
  rejected : Word32
  lost : Word32
  aborted : Word32
  taped : Word32

/-- Everything that BoundsInv, ChainInv, AccountInv, SignatureInv and PanelInv read, but for the answer queue, the
Substitution Table, the sequencer state and the sweep, whose changes keep them for reasons of their own. -/
structure View where
  constants : MachineConstants
  ringLength : Nat
  loadLength : Nat
  base : Nat
  queue : List QueueRecord
  downForward : List Frame
  upForward : List Frame
  rrg : Rrg
  csuWear : List Nat
  csuFaults : Nat
  csuWindow : Option SampleWindow
  takePanel : Byte
  current : Byte
  panel : PanelState
  handler : Option HandlerOp
  move : Option Move
  windowIds : List Nat
  tapeIds : List Nat
  nextUid : Nat
  head : HeadState
  cycle : Option (CycleKind × Option Nat)
  counts : Counts

def view (s : State) : View :=
  { constants := s.tables.constants, ringLength := s.csq.ring.length, loadLength := s.csq.fireLoad.length,
    base := s.csq.base, queue := s.pin.queue, downForward := s.lpu.downForward, upForward := s.lpu.upForward,
    rrg := s.rrg, csuWear := s.csu.wear, csuFaults := s.csu.faults, csuWindow := s.csu.window,
    takePanel := s.pin.takePanel, current := s.tbc.current, panel := s.tbc.panel,
    handler := s.tbc.handler.map HandlerOperation.op, move := s.tbc.move, windowIds := windowIds s.csq,
    tapeIds := tapeIds s.tpc, nextUid := s.nextUid, head := s.hdc.head, cycle := s.hdc.cycle.map HeadCycle.ids,
    counts := ⟨s.pin.taken, s.hdc.inserted, s.hdc.dumped, s.pin.rejected, s.hdc.lost, s.hdc.aborted, s.tpc.taped⟩ }

/-- R38, R67: the window is empty but in RUNNING and HELD, and a sweep stands only in SWEEPING. -/
def SeqInv (s : State) : Prop :=
  (s.csq.seq ≠ .running ∧ s.csq.seq ≠ .held → s.csq.window = [])
    ∧ (s.shu.sweep.isSome = true → s.csq.seq = .sweeping)

/-! ### Steady changes -/

/-- `t` comes from `s` by work on the chain, the stations, the alarms and the lines alone: the view is the same, and the
bounds of the answer queue and the Substitution Table and the relation of sequencer, window and sweep are kept. -/
structure Steady (s t : State) : Prop where
  sameView : view t = view s
  answers : s.lpu.answers.length ≤ 2 → t.lpu.answers.length ≤ 2
  subst : s.shu.subst.length ≤ 8 → t.shu.subst.length ≤ 8
  seq : SeqInv s → SeqInv t

theorem Steady.refl (s : State) : Steady s s := ⟨rfl, id, id, id⟩

theorem Steady.trans {s t u : State} (h : Steady s t) (k : Steady t u) : Steady s u :=
  ⟨k.sameView.trans h.sameView, k.answers ∘ h.answers, k.subst ∘ h.subst, k.seq ∘ h.seq⟩

/-- The same as `Steady.trans`, the last change first. -/
theorem Steady.after {s t u : State} (k : Steady t u) (h : Steady s t) : Steady s u := h.trans k

/-- Steady changes one after another. -/
theorem Steady.foldl {α : Type} {f : State → α → State} (h : ∀ t a, Steady t (f t a)) (l : List α) (s : State) :
    Steady s (l.foldl f s) := by
  induction l generalizing s with
  | nil => exact .refl s
  | cons a l ih => exact (h s a).trans (ih _)

theorem windowIds_eq_nil (q : Csq) : windowIds q = [] ↔ q.window = [] := List.map_eq_nil_iff

/-- With the same numbers in the window, one window is empty when the other is. -/
theorem window_eq_nil_of_view {s t : State} (h : view t = view s) : t.csq.window = [] ↔ s.csq.window = [] := by
  have hw : windowIds t.csq = windowIds s.csq := congrArg View.windowIds h
  rw [← windowIds_eq_nil, ← windowIds_eq_nil, hw]

/-- A change of neither the view nor what `Steady` says beside it. -/
theorem Steady.of_eq {s t : State} (hv : view t = view s) (ha : t.lpu.answers = s.lpu.answers)
    (hh : t.shu = s.shu) (hq : t.csq.seq = s.csq.seq) : Steady s t where
  sameView := hv
  answers := by rw [ha]; exact id
  subst := by rw [hh]; exact id
  seq := fun ⟨h1, h2⟩ => ⟨by rw [hq, window_eq_nil_of_view hv]; exact h1, by rw [hq, hh]; exact h2⟩

end Sys2Proof.Machine
end

section
/-! PROOF. The operations that more than one command uses are steady (Sys2Proof/Machine/Operations). -/

namespace Sys2Proof.Machine

/-! ### Sequencer, chain cycle, clips -/

/-- R39: the test between RUNNING and HELD stays on its side. -/
theorem heldOf_side (l : Level) (full : Bool) (q : SeqState) :
    (heldOf l full q = .running ∨ heldOf l full q = .held) ↔ (q = .running ∨ q = .held) := by
  cases q
  case running => by_cases h : (l = .stop || full) = true <;> simp [heldOf, h]
  case held => by_cases h : (l != .stop && !full) = true <;> simp [heldOf, h]
  all_goals simp [heldOf]

theorem idleTest_steady (s : State) : Steady s (idleTest s) where
  sameView := by unfold idleTest; split <;> rfl
  answers := by simp
  subst := by simp
  seq := by
    intro ⟨h1, h2⟩
    unfold idleTest
    split
    case isFalse => exact ⟨h1, h2⟩
    case isTrue hidle =>
      obtain ⟨hseq, _, hwin, _⟩ := hidle
      refine ⟨fun _ => hwin, fun hs => ?_⟩
      have hsweep := h2 hs
      rcases hseq with h | h <;> rw [h] at hsweep <;> contradiction

theorem heldTest_steady (s : State) : Steady s (heldTest s) where
  sameView := rfl
  answers := by simp
  subst := by simp
  seq := by
    intro ⟨h1, h2⟩
    refine ⟨fun ⟨hr, hh⟩ => h1 ?_, fun hs => ?_⟩
    · have hside := heldOf_side s.alc.effective (festoonFull s.tables s.tpc.tape) s.csq.seq
      exact not_or.mp (fun h => (hside.mpr h).elim hr hh)
    · have hsweep : s.csq.seq = .sweeping := h2 hs
      show heldOf _ _ s.csq.seq = .sweeping
      rw [hsweep]; rfl

theorem settleTest_steady (s : State) : Steady s (settleTest s) := by
  unfold settleTest
  split
  · exact (idleTest_steady _).after (.of_eq rfl rfl rfl rfl)
  · exact .refl s

theorem SeqInv.leave {s : State} (h : SeqInv s) (h1 : s.csq.seq ≠ .running) (h2 : s.csq.seq ≠ .held) :
    s.csq.window = [] := h.1 ⟨h1, h2⟩

theorem SeqInv.no_sweep {s : State} (h : SeqInv s) (h1 : s.csq.seq ≠ .sweeping) : s.shu.sweep = none := by
  cases hs : s.shu.sweep with
  | none => rfl
  | some w => exact absurd (h.2 (by rw [hs]; rfl)) h1

theorem purgeTest_steady (s : State) : Steady s (purgeTest s) where
  sameView := by unfold purgeTest; split <;> rfl
  answers := by simp
  subst := by simp
  seq := by
    intro h
    unfold purgeTest
    split
    case isFalse => exact h
    case isTrue hp =>
      have hwin := h.leave (by rw [hp.1]; decide) (by rw [hp.1]; decide)
      have hno := h.no_sweep (by rw [hp.1]; decide)
      refine ⟨fun _ => hwin, fun hs => ?_⟩
      rw [updCsq_shu, hno] at hs
      contradiction

theorem setClip_steady (p : Nat) (c : ClipState) (s : State) : Steady s (setClip p c s) :=
  .of_eq (by simp [view, setClip, windowIds]) (by simp) (by simp) (by simp)

theorem fireLoadDown_steady (d : Nat) (s : State) : Steady s (fireLoadDown d s) :=
  .of_eq (by simp [view, fireLoadDown, windowIds]) (by simp) (by simp) (by simp)

theorem clearCommand_steady (n : Nat) (s : State) : Steady s (clearCommand n s) := .of_eq rfl rfl rfl rfl

theorem emptiedTest_steady (s : State) : Steady s (emptiedTest s) := by
  unfold emptiedTest
  split
  · exact (settleTest_steady _).after (.of_eq rfl rfl rfl rfl)
  · exact .refl s

theorem unbook_steady (station clip : Nat) (s : State) : Steady s (unbook station clip s) := by
  unfold unbook
  simp only []
  split
  · exact fireLoadDown_steady _ s
  · split
    · exact .refl s
    · exact ((fireLoadDown_steady 0 s).trans (clearCommand_steady _ _)).trans (emptiedTest_steady _)
    · exact fireLoadDown_steady 0 s
    · exact fireLoadDown_steady 0 s

theorem releaseClip_steady (w : WindowEntry) (s : State) : Steady s (releaseClip w s) := by
  unfold releaseClip
  split
  · exact .refl s
  · split
    · exact setClip_steady _ _ s
    · exact (setClip_steady _ _ s).trans (unbook_steady _ _ _)
    · exact .refl s

/-- A window whose entries keep their numbers. -/
theorem Steady.of_window {s : State} (f : Csq → Csq) (hr : (f s.csq).ring.length = s.csq.ring.length)
    (hl : (f s.csq).fireLoad.length = s.csq.fireLoad.length) (hb : (f s.csq).base = s.csq.base)
    (hw : windowIds (f s.csq) = windowIds s.csq) (hq : (f s.csq).seq = s.csq.seq) : Steady s (s.updCsq f) :=
  .of_eq (by simp [view, hr, hl, hb, hw]) rfl rfl hq

/-- Entries that keep their numbers, one by one. -/
theorem windowIds_map {l : List WindowEntry} {f : WindowEntry → WindowEntry}
    (h : ∀ w, (f w).entry = w.entry) : (l.map f).map (·.entry.uid) = l.map (·.entry.uid) := by
  simp [Function.comp_def, h]

theorem Steady.mapWindow (f : WindowEntry → WindowEntry) (h : ∀ w, (f w).entry = w.entry) (s : State) :
    Steady s (s.updCsq (fun q => { q with window := q.window.map f })) :=
  .of_window _ rfl rfl rfl (windowIds_map h) rfl

theorem unwindFrom_steady (first : Nat) (s : State) : Steady s (unwindFrom first s) := by
  unfold unwindFrom
  have hfold := Steady.foldl (f := fun t w => releaseClip w t) (fun t w => releaseClip_steady w t)
    ((s.csq.window.dropWhile (fun w => w.entry.uid != first)).filter WindowEntry.holds) s
  refine hfold.trans (.of_window _ rfl rfl rfl ?_ rfl)
  rw [show windowIds _ = windowIds s.csq from congrArg View.windowIds hfold.sameView]
  simp only [windowIds, List.map_append, List.map_map, Function.comp_def]
  rw [← List.map_append, List.takeWhile_append_dropWhile]

/-! ### Ending a sweep -/

theorem removeTest_steady (c : SlotCommand) (n : Nat) (s : State) : Steady s (removeTest c n s) := by
  unfold removeTest
  split
  · exact (setClip_steady _ _ s).trans (clearCommand_steady _ _)
  · exact .refl s

theorem removeTests_steady (s : State) : Steady s (removeTests s) := by
  unfold removeTests
  split
  · exact (Steady.foldl (f := fun t n => removeTest (s.csq.commands.getD (n - 1) .none) n t)
      (fun t n => removeTest_steady _ n t) _ s).trans (emptiedTest_steady _)
  · exact .of_eq rfl rfl rfl rfl
  · exact .refl s

/-- A running sweep ends: the sequencer was SWEEPING, so the window is empty. -/
theorem closeSweep_steady (r : SweepResult) (s : State) (h : s.shu.sweep.isSome = true) :
    Steady s (closeSweep r s) := by
  refine (removeTests_steady _).after ⟨rfl, id, id, fun ⟨h1, h2⟩ => ⟨fun _ => h1 ?_, fun hs => ?_⟩⟩
  · have hseq := h2 h
    rw [hseq]; decide
  · exact absurd hs (by simp)

/-! ### Telling the level, posting an alarm -/

theorem resumeStep_steady (s : State) : Steady s (resumeStep s) :=
  .of_eq (by simp [view, windowIds]) (by simp) (by simp) (by simp)

theorem driveTransfer_steady (op : TransferOp) (c : LineCommand) (s : State) : Steady s (driveTransfer op c s) :=
  .of_eq (by simp [view]) (by simp) (by simp) (by simp)

theorem resumeTransfer_steady (s : State) : Steady s (resumeTransfer s) :=
  .of_eq (by simp [view, tapeIds]) (by simp) (by simp) (by simp)

theorem markRestarts_steady (s : State) : Steady s (markRestarts s) :=
  .of_eq (by simp [view, tapeIds]) (by simp) (by simp) (by simp)

theorem clearRestarts_steady (s : State) : Steady s (clearRestarts s) := .of_eq rfl rfl rfl rfl

theorem levelTold_steady (old : Level) (s : State) : Steady s (levelTold old s) := by
  unfold levelTold
  refine (heldTest_steady s).trans ?_
  simp only []
  split
  · exact clearRestarts_steady _
  · split
    · split
      · exact ((resumeStep_steady _).trans (resumeTransfer_steady _)).trans (markRestarts_steady _)
      · exact markRestarts_steady _
    · exact .refl _

/-- ALC is none of what the invariants of this file read. -/
theorem Steady.updAlc (f : Alc → Alc) (s : State) : Steady s (s.updAlc f) := .of_eq rfl rfl rfl rfl

theorem Steady.updOut (f : Outputs → Outputs) (s : State) : Steady s (s.updOut f) := .of_eq rfl rfl rfl rfl

theorem recompute_steady (s : State) : Steady s (recompute s) := by
  unfold recompute
  refine .trans (.updAlc (fun a => lampsOf { a with effective := effectiveOf a }) s) (.trans ?_ (idleTest_steady _))
  split
  · exact .refl _
  · exact levelTold_steady _ _

/-- R162, R168: a notice joins the answer queue only while it has room. -/
theorem notice_answers_le (l : Lpu) (e : AlarmEntry) (h : l.answers.length ≤ 2) : (l.notice e).answers.length ≤ 2 := by
  unfold Lpu.notice
  split
  case isTrue hroom =>
    have := hroom.1
    simp at this ⊢
    omega
  case isFalse => exact h

theorem notice_steady (e : AlarmEntry) (s : State) : Steady s (s.updLpu (·.notice e)) where
  sameView := by simp [view]
  answers := notice_answers_le s.lpu e
  subst := id
  seq := id

theorem postIn_steady {onStop : State → State} (hstop : ∀ s, Steady s (onStop s)) (c : ChannelId) (k : AlarmKind)
    (subject : Option Nat) (s : State) : Steady s (postIn onStop c k subject s) := by
  unfold postIn
  split
  · exact .updAlc _ s
  · split
    · have happend := (notice_steady (newEntry s.alc c k subject) _).after
        (.updAlc (·.append c (newEntry s.alc c k subject)) s)
      refine (recompute_steady _).after (happend.trans ?_)
      split
      · exact hstop _
      · exact .refl _
    · exact .updAlc _ s

theorem postWith_steady {onStop : State → State} (hstop : ∀ s, Steady s (onStop s)) (k : AlarmKind)
    (subject : Option Nat) (s : State) : Steady s (postWith onStop k subject s) := by
  unfold postWith
  simp only []
  split
  · exact .updAlc _ s
  · exact postIn_steady hstop _ _ _ s

theorem postQuiet_steady (k : AlarmKind) (subject : Option Nat) (s : State) : Steady s (postQuiet k subject s) :=
  postWith_steady (onStop := id) .refl k subject s

theorem abortSweep_steady (s : State) : Steady s (abortSweep s) := by
  unfold abortSweep
  split
  case h_1 => exact .refl s
  case h_2 w hw => exact (closeSweep_steady _ s (by rw [hw]; rfl)).trans (postQuiet_steady _ _ _)

theorem post_steady (k : AlarmKind) (subject : Option Nat) (s : State) : Steady s (post k subject s) :=
  postWith_steady abortSweep_steady k subject s

theorem postClinchFault_steady (c : ChannelId) (step : Nat) (s : State) : Steady s (postClinchFault c step s) :=
  postIn_steady abortSweep_steady c _ _ s

/-! ### The Tape List, marking an image -/

theorem withdraw_steady (uid : Nat) (s : State) : Steady s (withdraw uid s) := .of_eq rfl rfl rfl rfl

theorem discardFront_steady (s : State) : Steady s (discardFront s) := by
  unfold discardFront
  split
  case h_1 => exact .refl s
  case h_2 e rest htape =>
    exact (withdraw_steady _ _).after (.of_eq (by simp [view, tapeIds, htape]) rfl rfl rfl)

theorem retestFront_steady (s : State) : Steady s (retestFront s) := by
  unfold retestFront
  split
  · exact .refl s
  · split
    · exact discardFront_steady s
    · exact .refl s

theorem markImage_steady (n : Nat) (st : ImageState) (s : State) : Steady s (markImage n st s) := by
  unfold markImage
  refine .trans (.of_eq rfl rfl rfl rfl : Steady s
    (s.updTbc (fun b => { b with images := b.images.modify (n - 1) ({ · with state := st }) }))) ?_
  exact (Steady.foldl (f := fun t (e : TapeEntry) => withdraw e.entry.uid t)
    (fun t e => withdraw_steady _ t) _ _).trans (.of_eq rfl rfl rfl rfl)

theorem rejectImage_steady (panel : Byte) (n : Nat) (s : State) : Steady s (rejectImage panel n s) := by
  unfold rejectImage
  split
  · split
    · exact post_steady _ _ s
    · exact (markImage_steady n .rejected s).trans (post_steady _ _ _)
  · exact .refl s

end Sys2Proof.Machine
end

section
/-! PROOF. What the station health unit, the taper and the chain do is steady, but for takes, entries that leave, and the
index event's shift (Sys2Proof/Machine/Health, Taping, Chain). -/

namespace Sys2Proof.Machine

/-! ### Station records and the Substitution Table -/

theorem Steady.updShu {s : State} (f : Shu → Shu) (hb : s.shu.subst.length ≤ 8 → (f s.shu).subst.length ≤ 8)
    (hw : (f s.shu).sweep.isSome = s.shu.sweep.isSome) : Steady s (s.updShu f) :=
  ⟨rfl, id, hb, fun ⟨h1, h2⟩ => ⟨h1, fun h => h2 (hw ▸ h)⟩⟩

theorem setRecord_subst (n : Nat) (f : StationRecord → StationRecord) (s : State) :
    (setRecord n f s).shu.subst = s.shu.subst := by unfold setRecord; split <;> rfl

theorem setRecord_sweep (n : Nat) (f : StationRecord → StationRecord) (s : State) :
    (setRecord n f s).shu.sweep = s.shu.sweep := by unfold setRecord; split <;> rfl

theorem setRecord_steady (n : Nat) (f : StationRecord → StationRecord) (s : State) : Steady s (setRecord n f s) := by
  unfold setRecord
  split
  · exact .refl s
  · exact .updShu _ id rfl

/-- Entries that are removed leave the Substitution Table within its bound. -/
theorem filterSubst_steady (p : SubstEntry → Bool) (s : State) :
    Steady s (s.updShu (fun h => { h with subst := h.subst.filter p })) :=
  .updShu _ (fun h => (List.length_filter_le _ _).trans h) rfl

theorem dropSubstitute_steady (n : Nat) (s : State) : Steady s (dropSubstitute n s) := filterSubst_steady _ s

theorem noticeUnusable_steady (n : Nat) (s : State) : Steady s (noticeUnusable n s) := .of_eq rfl rfl rfl rfl

theorem becomeUnusable_steady (n : Nat) (s : State) : Steady s (becomeUnusable n s) :=
  (dropSubstitute_steady n s).trans (noticeUnusable_steady n _)

theorem attemptSubstitution_steady (f : Nat) (s : State) : Steady s (attemptSubstitution f s) := by
  unfold attemptSubstitution
  split
  · exact .refl s
  split
  · exact .refl s
  split
  case isTrue hroom =>
    refine .updShu _ (fun _ => ?_) rfl
    rw [List.length_append]
    exact hroom
  case isFalse => exact post_steady _ _ s

theorem stationFailed_steady (was : Bool) (n : Nat) (s : State) : Steady s (stationFailed was n s) := by
  unfold stationFailed
  refine (attemptSubstitution_steady n _).after ?_
  split
  · exact becomeUnusable_steady n s
  · exact .refl s

theorem countedMiss_steady (n : Nat) (s : State) : Steady s (countedMiss n s) := by
  unfold countedMiss
  simp only []
  split
  · exact ((stationFailed_steady _ _ _).after (post_steady _ _ _)).after
      ((setRecord_steady _ _ _).after (setRecord_steady _ _ s))
  · exact setRecord_steady _ _ s

theorem confirmedDrop_steady (n : Nat) (s : State) : Steady s (confirmedDrop n s) := setRecord_steady _ _ s

theorem emptyReply_steady (n : Nat) (s : State) : Steady s (emptyReply n s) := by
  unfold emptyReply
  split
  · exact post_steady _ _ s
  · exact ((stationFailed_steady _ _ _).after (post_steady _ _ _)).after (setRecord_steady _ _ s)

theorem lowReply_steady (n : Nat) (s : State) : Steady s (lowReply n s) :=
  (post_steady _ _ _).after (setRecord_steady _ _ s)

theorem countFire_steady (n : Nat) (s : State) : Steady s (countFire n s) := setRecord_steady _ _ s

/-! ### The sweep -/

theorem updMember_steady (n : Nat) (f : SweepMember → SweepMember) (s : State) : Steady s (updMember n f s) :=
  .updShu _ id (by simp)

theorem judgePass_steady (n : Nat) (r : Reply) (s : State) : Steady s (judgePass n r s) := by
  unfold judgePass
  split <;> exact updMember_steady _ _ s

theorem reportFire_steady (n : Nat) (r : Reply) (s : State) : Steady s (reportFire n r s) := by
  unfold reportFire
  refine (countFire_steady n s).trans ?_
  cases r
  case dropped => exact .refl _
  case droppedLow => exact lowReply_steady _ _
  case empty => exact emptyReply_steady _ _
  all_goals exact countedMiss_steady _ _

/-- R72: a reply of a sweep that has ended judges nothing. -/
theorem judgedPass_steady (judged : Bool) (n : Nat) (r : Reply) (s : State) :
    Steady s (if judged then judgePass n r s else s) := by
  split
  · exact judgePass_steady n r s
  · exact .refl s

theorem reportTest_steady (judged : Bool) (n : Nat) (r : Reply) (s : State) : Steady s (reportTest judged n r s) := by
  refine (countFire_steady n s).trans ?_
  cases r
  case droppedLow => exact (judgedPass_steady judged n _ _).after (lowReply_steady n _)
  case empty => exact (judgedPass_steady judged n _ _).after (emptyReply_steady n _)
  all_goals exact judgedPass_steady judged n _ _

theorem applyFlags_steady (w : Sweep) (s : State) : Steady s (applyFlags w s) :=
  .foldl (f := fun t (m : SweepMember) => setRecord m.station ({ · with sweepFailed := m.failed }) t)
    (fun t _ => setRecord_steady _ _ t) _ s

theorem applyFlags_shu (w : Sweep) (s : State) :
    (applyFlags w s).shu.subst = s.shu.subst ∧ (applyFlags w s).shu.sweep = s.shu.sweep :=
  ⟨foldl_keep (fun t => t.shu.subst) _ (fun t _ => setRecord_subst _ _ t) w.members s,
   foldl_keep (fun t => t.shu.sweep) _ (fun t _ => setRecord_sweep _ _ t) w.members s⟩

theorem jamFailing_steady (n : Nat) (s : State) : Steady s (jamFailing n s) := by
  unfold jamFailing
  simp only []
  split
  · exact setRecord_steady _ _ s
  · exact (postQuiet_steady _ _ _).after (setRecord_steady _ _ s)

theorem jamFailing_shu (n : Nat) (s : State) :
    (jamFailing n s).shu.subst = s.shu.subst ∧ (jamFailing n s).shu.sweep = s.shu.sweep := by
  unfold jamFailing
  simp only []
  split <;> simp [setRecord_subst, setRecord_sweep]

/-- R71 step 2: what stands in the table when the failing stations' entries are removed. -/
theorem dropSubstitutes_subst (failing : List Nat) (s : State) :
    (failing.foldl (fun t f => dropSubstitute f t) s).shu.subst =
      s.shu.subst.filter (fun e => !failing.contains e.substitute) := by
  induction failing generalizing s with
  | nil => simp
  | cons f rest ih =>
    rw [List.foldl_cons, ih]
    simp only [dropSubstitute, updShu_shu, List.filter_filter]
    refine List.filter_congr (fun e _ => ?_)
    by_cases h : e.substitute = f <;> simp [h]

/-- R71: the spares chosen find a place: the table's bound is what `freePlaces` counts against. -/
theorem applySubstitution_steady (failing : List Nat) (chosen : List (Nat × Nat)) (s : State)
    (h : chosen.length ≤ freePlaces s.shu failing) : Steady s (applySubstitution failing chosen s) := by
  unfold applySubstitution
  have hjam := Steady.foldl (f := fun t f => jamFailing f t) (fun t f => jamFailing_steady f t) failing s
  have hdrop := Steady.foldl (f := fun t f => dropSubstitute f t) (fun t f => dropSubstitute_steady f t) failing
    (failing.foldl (fun t f => jamFailing f t) s)
  have hkept : (failing.foldl (fun t f => jamFailing f t) s).shu.subst = s.shu.subst :=
    foldl_keep (fun t => t.shu.subst) _ (fun t f => (jamFailing_shu f t).1) failing s
  refine (Steady.foldl (f := fun t f => noticeUnusable f t) (fun t f => noticeUnusable_steady f t) _ _).after ?_
  refine ⟨(hjam.trans hdrop).sameView, (hjam.trans hdrop).answers, fun hs => ?_, (hjam.trans hdrop).seq⟩
  have hle := (List.length_filter_le (fun e : SubstEntry => !failing.contains e.substitute) s.shu.subst).trans hs
  simp only [updShu_shu, List.length_append, List.length_map, dropSubstitutes_subst, hkept]
  have hfree : freePlaces s.shu failing =
      8 - (s.shu.subst.filter (fun e => !failing.contains e.substitute)).length := rfl
  omega

theorem applySubstitution_sweep (failing : List Nat) (chosen : List (Nat × Nat)) (s : State) :
    (applySubstitution failing chosen s).shu.sweep = s.shu.sweep := by
  unfold applySubstitution
  have hjam : (failing.foldl (fun t f => jamFailing f t) s).shu.sweep = s.shu.sweep :=
    foldl_keep (fun t => t.shu.sweep) _ (fun t f => (jamFailing_shu f t).2) failing s
  rw [foldl_keep (fun t => t.shu.sweep) (fun t f => noticeUnusable f t) (fun t f => rfl)]
  exact (foldl_keep (fun t => t.shu.sweep) (fun t f => dropSubstitute f t) (fun t f => rfl) failing _).trans hjam

/-- R70, R71: a sweep that ends, with the substitutes it installs. -/
theorem closeSubstituted_steady (r : SweepResult) (install : Bool) (failing : List Nat) (chosen : List (Nat × Nat))
    (s : State) (h : s.shu.sweep.isSome = true) (hfree : install = true → chosen.length ≤ freePlaces s.shu failing) :
    Steady s (closeSweep r (if install then applySubstitution failing chosen s else s)) := by
  split
  case isTrue hi =>
    exact (closeSweep_steady r _ (by rw [applySubstitution_sweep, h])).after
      (applySubstitution_steady failing chosen s (hfree hi))
  case isFalse => exact closeSweep_steady r s h

theorem applySweep_steady (w : Sweep) (s : State) (h : s.shu.sweep.isSome = true) : Steady s (applySweep w s) := by
  unfold applySweep
  obtain ⟨hsubst, hsweep⟩ := applyFlags_shu w s
  refine (post_steady _ _ _).after ((closeSubstituted_steady _ _ _ _ _ (by rw [hsweep, h]) ?_).after
    (applyFlags_steady w s))
  intro hinstall
  simp only [Bool.and_eq_true, Bool.not_eq_true', decide_eq_false_iff_not, Nat.not_lt] at hinstall
  have hfree : freePlaces (applyFlags w s).shu (failingStations w) = freePlaces s.shu (failingStations w) := by
    unfold freePlaces; rw [hsubst]
  rw [hfree]
  exact hinstall.2

theorem sweepTest_steady (s : State) : Steady s (sweepTest s) := by
  unfold sweepTest
  split
  · exact .refl s
  · split
    case h_2 w hw _ => exact applySweep_steady w s (by rw [hw]; rfl)
    case isFalse => exact .refl s

/-! ### STATION FLAGS and station map loads -/

theorem applyStationFlags_steady (clear set : Byte) (n : Nat) (s : State) :
    Steady s (applyStationFlags clear set n s) := by
  unfold applyStationFlags
  simp only []
  refine (setRecord_steady n (flagsAfter clear set) s).trans ?_
  split
  · exact (filterSubst_steady _ _).after (by split; exacts [becomeUnusable_steady _ _, .refl _])
  · split
    · exact becomeUnusable_steady _ _
    · exact .refl _

theorem alignSubstitutions_steady (s : State) : Steady s (alignSubstitutions s) := filterSubst_steady _ s

/-! ### Transfer actions -/

theorem commandTransfer_steady (op : TransferOp) (s : State) : Steady s (commandTransfer op s) := by
  unfold commandTransfer
  refine (driveTransfer_steady op .start s).trans ?_
  simp only []
  split <;> exact .of_eq rfl rfl rfl rfl

theorem startTaping_steady (s : State) : Steady s (startTaping s) := by
  unfold startTaping
  split
  · exact commandTransfer_steady _ s
  · exact .of_eq rfl rfl rfl rfl

theorem startTransfer_steady (c : ClipState) (s : State) : Steady s (startTransfer c s) := by
  cases c
  case loaded => exact startTaping_steady s
  case empty => exact .refl s
  case reserved => exact .refl s
  all_goals exact commandTransfer_steady .dump s

theorem endTransfer_steady (s : State) : Steady s (endTransfer s) := .of_eq rfl rfl rfl rfl

theorem estopTransfer_steady (s : State) : Steady s (estopTransfer s) := by
  unfold estopTransfer
  split
  · exact (driveTransfer_steady _ _ _).after (.of_eq rfl rfl rfl rfl)
  · exact .refl s

/-! ### Cascades -/

theorem countTries_steady (missed : List Nat) (s : State) : Steady s (countTries missed s) :=
  .mapWindow _ (fun w => by split <;> rfl) s

theorem postRetries_steady (missed : List Nat) (s : State) : Steady s (postRetries missed s) :=
  .foldl (f := fun t (w : WindowEntry) => post .placementRetry (some w.entry.step.toNat) t)
    (fun t _ => post_steady _ _ t) _ s

theorem missCascade_steady (missed : List Nat) (s : State) : Steady s (missCascade missed s) := by
  unfold missCascade
  simp only []
  split
  · exact .refl s
  · exact ((postRetries_steady _ _).after (unwindFrom_steady _ _)).after (countTries_steady _ s)

/-! ### The index event but for the shift and the take -/

theorem clipSense_steady (present : Bool) (s : State) : Steady s (clipSense present s) := by
  unfold clipSense
  simp only []
  split
  · exact confirmedDrop_steady _ s
  · exact ((missCascade_steady _ _).after (countedMiss_steady _ _)).after (setClip_steady _ _ s)
  · exact (post_steady _ _ _).after (setClip_steady _ _ s)
  · exact .refl s
  · exact setClip_steady _ _ s
  · exact setClip_steady _ _ s
  · exact (sweepTest_steady _).after (updMember_steady _ _ s)
  · exact ((sweepTest_steady _).after (updMember_steady _ _ _)).after (setClip_steady _ _ s)
  · exact .refl s
  · exact .refl s

theorem handOver_steady (s : State) : Steady s (handOver s) :=
  (startTransfer_steady _ _).after
    (.of_window _ rfl rfl rfl (windowIds_map (fun w => by split <;> rfl)) rfl)

theorem countServed_steady (c : Nat) (s : State) : Steady s (countServed c s) :=
  .updShu _ (by simp) rfl

theorem reserve_steady (w : WindowEntry) (c r d : Nat) (s : State) : Steady s (reserve w c r d s) := by
  unfold reserve
  refine ((setClip_steady (s.csq.ring.length - 1) .reserved s).trans ?_).trans (countServed_steady c _)
  exact .of_window _ rfl (by simp) rfl (windowIds_map (fun v => by split <;> rfl)) rfl

theorem assignCandidate_steady (w : WindowEntry) (s : State) : Steady s (assignCandidate w s) := by
  unfold assignCandidate
  simp only []
  split
  · exact post_steady _ _ s
  · split
    · exact reserve_steady _ _ _ _ s
    · exact .refl s

/-! ### The exchange -/

theorem fireTest_steady (n : Nat) (s : State) : Steady s (fireTest n s) := by
  unfold fireTest
  exact ((setClip_steady _ _ s).trans (updMember_steady n _ _)).trans (.of_eq rfl rfl rfl rfl)

theorem groupTest_steady (s : State) : Steady s (groupTest s) := .updShu _ id (by simp)

theorem buildTests_steady (s : State) : Steady s (buildTests s) := by
  unfold buildTests
  split
  · exact (groupTest_steady _).after (.foldl (f := fun t n => fireTest n t) (fun t n => fireTest_steady n t) _ s)
  · exact .refl s

theorem sendOrWait_steady (s : State) : Steady s (sendOrWait s) := .of_eq rfl rfl rfl rfl

theorem buildExchange_steady (s : State) : Steady s (buildExchange s) := by
  unfold buildExchange
  refine (sendOrWait_steady _).after ((buildTests_steady _).after ?_)
  exact .of_window _ rfl rfl rfl rfl rfl

theorem setStatus_steady (uid : Nat) (st : EntryStatus) (s : State) : Steady s (setStatus uid st s) :=
  .mapWindow _ (fun w => by split <;> rfl) s

theorem applyTestReply_steady (station clip : Nat) (r : Reply) (s : State) :
    Steady s (applyTestReply station clip r s) := by
  unfold applyTestReply
  split
  · exact setClip_steady _ _ s
  · exact .refl s

theorem applyReply_steady (acc : State × List Nat) (slot : Nat × SlotCommand × Reply) :
    Steady acc.1 (applyReply acc slot).1 := by
  obtain ⟨s, missed⟩ := acc
  obtain ⟨station, command, reply⟩ := slot
  cases command with
  | none => exact .refl s
  | test clip judged => exact applyTestReply_steady _ _ _ s
  | fire uid =>
    unfold applyReply
    simp only []
    split
    · split
      · exact (setStatus_steady _ _ _).after (setClip_steady _ _ s)
      · exact setClip_steady _ _ s
    · simp only []
      split
      · exact setClip_steady _ _ s
      · exact .refl s

theorem applyReplies_steady (slots : List (Nat × SlotCommand × Reply)) (acc : State × List Nat) :
    Steady acc.1 (slots.foldl applyReply acc).1 := by
  induction slots generalizing acc with
  | nil => exact .refl _
  | cons slot rest ih => exact (applyReply_steady acc slot).trans (ih _)

theorem reportSlot_steady (s : State) (slot : Nat × SlotCommand × Reply) : Steady s (reportSlot s slot) := by
  unfold reportSlot
  split
  · exact .refl s
  · exact reportFire_steady _ _ s
  · exact reportTest_steady _ _ _ s

theorem estopStep_steady (s : State) : Steady s (estopStep s) := by
  unfold estopStep
  split
  · exact .of_eq rfl rfl rfl rfl
  · exact .refl s

end Sys2Proof.Machine
end

section
/-! PROOF. A take of the Placement Queue, branch by branch, and what every take does (R7 to R15). -/

namespace Sys2Proof.Machine

/-! ### The branches of a take -/

/-- R8, R11, R15: `images` of a placement record rejected at a take, and the cursor set. -/
def afterRejects (p : Placement) (images : List Nat) (cursor : Option Nat) (s : State) : State :=
  { s with
    pin := { s.pin with
      cursor := cursor
      taken := s.pin.taken + BitVec.ofNat 32 images.length
      rejected := s.pin.rejected + BitVec.ofNat 32 images.length }
    rrg := images.foldl (fun g n => g.write ⟨.rejected, p.step, s.pin.takePanel, n, p.component, 0, none⟩) s.rrg }

/-- R9, R10: the images an image-0 record has left that are not known bad. -/
def goodLeft (s : State) : List Nat :=
  (imagesLeft s).filter (fun n => !knownBad s.mode s.tbc s.pin.takePanel n)

theorem takeFrom_boundary_sequenceOnly (rest : List QueueRecord) (s : State) (h : s.mode = .sequenceOnly) :
    takeFrom (.boundary :: rest) s = (s.updPin ({ · with queue := rest }), none) := by
  rw [takeFrom, if_pos h]

theorem takeFrom_boundary_current (rest : List QueueRecord) (s : State) (h : s.mode ≠ .sequenceOnly)
    (hp : s.pin.takePanel = s.tbc.current) : takeFrom (.boundary :: rest) s =
      (s.updPin (fun p => { p with queue := rest, takePanel := p.takePanel + 1 }), none) := by
  rw [takeFrom, if_neg h, if_pos hp]

theorem takeFrom_boundary_ahead (rest : List QueueRecord) (s : State) (h : s.mode ≠ .sequenceOnly)
    (hp : s.pin.takePanel ≠ s.tbc.current) : takeFrom (.boundary :: rest) s =
      (s.updPin ({ · with queue := .boundary :: rest }), none) := by
  rw [takeFrom, if_neg h, if_neg hp]

theorem takeFrom_invalid (p : Placement) (rest : List QueueRecord) (s : State)
    (h : componentValid s.tables p.component = false) : takeFrom (.placement p :: rest) s =
      takeFrom rest (afterRejects p (if p.image = 0 then imagesLeft s else [p.image]) none s) := by
  rw [takeFrom, h]
  simp only [Bool.not_false, if_true]
  rw [rejects_eq]
  rfl

theorem takeFrom_knownBad (p : Placement) (rest : List QueueRecord) (s : State)
    (h : componentValid s.tables p.component = true) (hi : p.image ≠ 0)
    (hb : knownBad s.mode s.tbc s.pin.takePanel p.image = true) : takeFrom (.placement p :: rest) s =
      takeFrom rest (afterRejects p [p.image] s.pin.cursor s) := by
  rw [takeFrom, h, if_neg (by decide), if_pos hi, if_pos hb]
  rfl

theorem takeFrom_oneImage (p : Placement) (rest : List QueueRecord) (s : State)
    (h : componentValid s.tables p.component = true) (hi : p.image ≠ 0)
    (hb : knownBad s.mode s.tbc s.pin.takePanel p.image = false) : takeFrom (.placement p :: rest) s =
      handOut p p.image (s.updPin ({ · with queue := rest })) := by
  rw [takeFrom, h, if_neg (by decide), if_pos hi, if_neg (by rw [hb]; decide)]

/-- R9: an image-0 record by what it has left. -/
theorem takeFrom_allImages (p : Placement) (rest : List QueueRecord) (s : State)
    (h : componentValid s.tables p.component = true) (hi : p.image = 0) :
    (goodLeft s = [] → takeFrom (.placement p :: rest) s = takeFrom rest (afterRejects p [] none s))
    ∧ (∀ n, goodLeft s = [n] →
      takeFrom (.placement p :: rest) s = handOut p n (s.updPin ({ · with queue := rest, cursor := none })))
    ∧ ∀ n m more, goodLeft s = n :: m :: more → takeFrom (.placement p :: rest) s =
      handOut p n (s.updPin ({ · with queue := .placement p :: rest, cursor := some (n + 1) })) := by
  have hopen : takeFrom (.placement p :: rest) s = match goodLeft s with
      | [] => takeFrom rest (s.updPin ({ · with cursor := none }))
      | [n] => handOut p n (s.updPin ({ · with queue := rest, cursor := none }))
      | n :: _ :: _ => handOut p n (s.updPin ({ · with queue := .placement p :: rest, cursor := some (n + 1) })) := by
    rw [takeFrom, h, if_neg (by decide), if_neg (by simpa using hi)]
    rfl
  have hnone : s.updPin ({ · with cursor := none }) = afterRejects p [] none s := by
    simp [afterRejects, State.updPin]
  refine ⟨fun hg => ?_, fun n hg => ?_, fun n m more hg => ?_⟩
  · rw [hopen, hg, ← hnone]
  · rw [hopen, hg]
  · rw [hopen, hg]

/-! ### What every take does -/

/-- A take from `s` to `t` over at most `room` queue records: `n` entries are rejected, and `e` is what is handed out. -/
structure TakeEffect (room n : Nat) (s t : State) (e : Option Entry) : Prop where
  frame : t = { s with
    pin := { s.pin with
      queue := t.pin.queue, cursor := t.pin.cursor, takePanel := t.pin.takePanel, taken := t.pin.taken
      rejected := t.pin.rejected }
    rrg := t.rrg
    nextUid := t.nextUid }
  taken : t.pin.taken = s.pin.taken + BitVec.ofNat 32 (n + e.toList.length)
  rejected : t.pin.rejected = s.pin.rejected + BitVec.ofNat 32 n
  nextUid : t.nextUid = s.nextUid + e.toList.length
  queue : t.pin.queue.length ≤ room
  records : ∃ rs : List RingRecord, rs.length = n
    ∧ (∀ r ∈ rs, r.outcome = .rejected ∧ r.station = 0 ∧ r.signature = none) ∧ t.rrg = rs.foldl Rrg.write s.rrg
  /-- R12: a boundary is taken at the current panel alone. -/
  takePanel : t.pin.takePanel = s.pin.takePanel
    ∨ s.pin.takePanel = s.tbc.current ∧ t.pin.takePanel = s.tbc.current + 1
  /-- log 5: a new entry has the next number. -/
  uid : ∀ x, e = some x → x.uid = s.nextUid

theorem TakeEffect.blocks {room n : Nat} {s t : State} {e : Option Entry} (h : TakeEffect room n s t e) :
    t = { s with pin := t.pin, rrg := t.rrg, nextUid := t.nextUid } := by rw [h.frame]

/-- A take that ends at once and hands nothing out. -/
theorem TakeEffect.empty {room : Nat} {s : State} (q : List QueueRecord) (panel : Byte) (hq : q.length ≤ room)
    (hp : panel = s.pin.takePanel ∨ s.pin.takePanel = s.tbc.current ∧ panel = s.tbc.current + 1) :
    TakeEffect room 0 s (s.updPin ({ · with queue := q, takePanel := panel })) none where
  frame := rfl
  taken := (BitVec.add_zero _).symm
  rejected := (BitVec.add_zero _).symm
  nextUid := rfl
  queue := hq
  records := ⟨[], rfl, fun _ h => absurd h List.not_mem_nil, rfl⟩
  takePanel := hp
  uid := fun _ h => nomatch h

/-- A take that hands an entry out at once. -/
theorem TakeEffect.handOut {room : Nat} {s : State} (p : Placement) (n : Nat) (q : List QueueRecord) (c : Option Nat)
    (hq : q.length ≤ room) :
    TakeEffect room 0 s (handOut p n (s.updPin ({ · with queue := q, cursor := c }))).1
      (handOut p n (s.updPin ({ · with queue := q, cursor := c }))).2 where
  frame := rfl
  taken := rfl
  rejected := (BitVec.add_zero _).symm
  nextUid := rfl
  queue := hq
  records := ⟨[], rfl, fun _ h => absurd h List.not_mem_nil, rfl⟩
  takePanel := .inl rfl
  uid := by rintro x ⟨⟩; rfl

/-- A take that first rejects entries of a record and then goes on. -/
theorem TakeEffect.afterRejects {room room' n : Nat} {s t : State} {e : Option Entry} (p : Placement) (images : List Nat)
    (c : Option Nat) (h : TakeEffect room n (afterRejects p images c s) t e) (hr : room ≤ room') :
    TakeEffect room' (images.length + n) s t e where
  frame := by rw [h.frame]; rfl
  taken := by
    rw [h.taken]
    show s.pin.taken + _ + _ = _
    rw [BitVec.add_assoc, ← BitVec.ofNat_add, Nat.add_assoc]
  rejected := by
    rw [h.rejected]
    show s.pin.rejected + _ + _ = _
    rw [BitVec.add_assoc, ← BitVec.ofNat_add]
  nextUid := h.nextUid
  queue := h.queue.trans hr
  records := by
    obtain ⟨rs, hlen, hall, hrrg⟩ := h.records
    refine ⟨images.map (fun i => ⟨.rejected, p.step, s.pin.takePanel, i, p.component, 0, none⟩) ++ rs, ?_, ?_, ?_⟩
    · rw [List.length_append, List.length_map, hlen]
    · intro r hr
      rcases List.mem_append.mp hr with hr | hr
      · obtain ⟨i, -, rfl⟩ := List.mem_map.mp hr
        exact ⟨rfl, rfl, rfl⟩
      · exact hall r hr
    · rw [hrrg, List.foldl_append, List.foldl_map]
      rfl
  takePanel := h.takePanel
  uid := h.uid

/-- R7 to R15: a take over the records `rs`. -/
theorem takeFrom_effect (rs : List QueueRecord) (s : State) :
    ∃ n, TakeEffect rs.length n s (takeFrom rs s).1 (takeFrom rs s).2 := by
  induction rs generalizing s with
  | nil => exact ⟨0, .empty [] s.pin.takePanel (Nat.le_refl 0) (.inl rfl)⟩
  | cons r rest ih =>
    have hrest : rest.length ≤ (r :: rest).length := Nat.le_succ _
    /- The three branches in which a take goes on to the next record. -/
    have hgo : ∀ p images c, takeFrom (r :: rest) s = takeFrom rest (afterRejects p images c s) →
        ∃ n, TakeEffect (r :: rest).length n s (takeFrom (r :: rest) s).1 (takeFrom (r :: rest) s).2 := by
      intro p images c heq
      obtain ⟨n, hn⟩ := ih (afterRejects p images c s)
      rw [heq]
      exact ⟨_, hn.afterRejects p images c hrest⟩
    cases r with
    | boundary =>
      by_cases hm : s.mode = .sequenceOnly
      · rw [takeFrom_boundary_sequenceOnly rest s hm]
        exact ⟨0, .empty rest s.pin.takePanel hrest (.inl rfl)⟩
      · by_cases hp : s.pin.takePanel = s.tbc.current
        · rw [takeFrom_boundary_current rest s hm hp]
          exact ⟨0, .empty rest (s.pin.takePanel + 1) hrest (.inr ⟨hp, congrArg (· + 1) hp⟩)⟩
        · rw [takeFrom_boundary_ahead rest s hm hp]
          exact ⟨0, .empty (.boundary :: rest) s.pin.takePanel (Nat.le_refl _) (.inl rfl)⟩
    | placement p =>
      cases hv : componentValid s.tables p.component with
      | false => exact hgo _ _ _ (takeFrom_invalid p rest s hv)
      | true =>
        by_cases hi : p.image = 0
        · obtain ⟨hnone, hone, hmore⟩ := takeFrom_allImages p rest s hv hi
          rcases hg : goodLeft s with _ | ⟨n, _ | ⟨m, more⟩⟩
          · exact hgo _ _ _ (hnone hg)
          · rw [hone n hg]
            exact ⟨0, .handOut p n rest none hrest⟩
          · rw [hmore n m more hg]
            exact ⟨0, .handOut p n (.placement p :: rest) (some (n + 1)) (Nat.le_refl _)⟩
        · cases hb : knownBad s.mode s.tbc s.pin.takePanel p.image with
          | true => exact hgo _ _ _ (takeFrom_knownBad p rest s hv hi hb)
          | false =>
            rw [takeFrom_oneImage p rest s hv hi hb]
            exact ⟨0, .handOut p p.image rest s.pin.cursor hrest⟩

theorem take_effect (s : State) : ∃ n, TakeEffect s.pin.queue.length n s (take s).1 (take s).2 :=
  takeFrom_effect s.pin.queue s

theorem take_effect_of_eq {s t : State} {e : Option Entry} (h : take s = (t, e)) :
    ∃ n, TakeEffect s.pin.queue.length n s t e := by
  have heffect := take_effect s
  rw [h] at heffect
  exact heffect

end Sys2Proof.Machine

open Sys2Proof Sys2Proof.Machine

/-- Settles O19: the branches of `takeFrom`, and `take_effect` for every state. -/
theorem takesFromTheQueue : Obligations.TakesFromTheQueue := by
  refine ⟨fun s => ⟨fun hq => ?_, fun rest hq => ⟨fun hm => ?_, fun hm hp => ?_, fun hm hp => ?_⟩,
    fun p rest hq hv hi hb => ?_⟩, fun s p rest hq => ?_, fun s => ?_⟩
  · rw [take, hq, takeFrom, State.updPin, ← hq]
  · rw [take, hq, takeFrom_boundary_sequenceOnly rest s hm]; rfl
  · rw [take, hq, takeFrom_boundary_current rest s hm hp]; rfl
  · rw [take, hq, takeFrom_boundary_ahead rest s hm hp, State.updPin, ← hq]
  · rw [take, hq, takeFrom_oneImage p rest s hv (Nat.ne_of_gt hi) hb]; rfl
  · /- R6: what a take that goes on finds in the queue is the rest, whatever the state holds there. -/
    have hgo : ∀ images c, takeFrom rest (afterRejects p images c s) = take { afterRejects p images c s with
        pin := { (afterRejects p images c s).pin with queue := rest } } :=
      fun images c => (takeFrom_setQueue rest rest (afterRejects p images c s)).symm
    refine ⟨fun hv => ?_, fun hv hi hb => ?_, fun hv hi => ?_⟩
    · rw [take, hq, takeFrom_invalid p rest s hv, hgo]; rfl
    · rw [take, hq, takeFrom_knownBad p rest s hv (Nat.ne_of_gt hi) hb, hgo]; rfl
    · obtain ⟨hnone, hone, hmore⟩ := takeFrom_allImages p rest s hv hi
      refine ⟨fun hg => ?_, fun n hg => ?_, fun n m more hg => ?_⟩
      · rw [take, hq, hnone hg, hgo]; rfl
      · rw [take, hq, hone n hg]; rfl
      · rw [take, hq, hmore n m more hg]; rfl
  · obtain ⟨n, h⟩ := take_effect s
    exact ⟨_, _, n, rfl, h.taken, h.rejected, h.nextUid, h.queue, h.records, h.blocks⟩
end

section
/-! PROOF. The five kept invariants as statements about the view, and what keeps them. -/

namespace Sys2Proof.Machine

/-! ### The invariants, read off the view -/

/-- Every entry of the view, window first. -/
def View.ids (v : View) : List Nat := v.windowIds ++ v.tapeIds

/-- The entries that have had an outcome (section 10.5). -/
def Counts.ended (c : Counts) : Word32 := c.inserted + c.dumped + c.rejected + c.lost + c.aborted + c.taped

/-- Balance and IdentityInv of the view. -/
structure View.Balanced (v : View) : Prop where
  balance : v.counts.taken = BitVec.ofNat 32 v.ids.length + v.counts.ended
  nodup : v.ids.Nodup
  fresh : ∀ n ∈ v.ids, n < v.nextUid

/-- CycleInv of the view. -/
def View.CycleRight (v : View) : Prop :=
  ∀ c, v.cycle = some c → v.head ≠ .idle ∧ v.head ≠ .fault ∧ v.head ≠ .homing
    ∧ (c.1 = .freeDump → c.2 = none)
    ∧ (c.1 ≠ .freeDump → ∃ u rest, c.2 = some u ∧ v.tapeIds = u :: rest)

/-- R6, R160, R169, R170: BoundsInv but for the answer queue and the Substitution Table. -/
structure View.Bounded (v : View) : Prop where
  queue : v.queue.length ≤ 64
  down : v.downForward.length ≤ 2
  up : v.upForward.length ≤ 2
  ring : ringSize v.rrg.records ≤ 8192
  transit : v.rrg.inTransit ≤ v.rrg.records.length

theorem boundsInv_iff (s : State) :
    BoundsInv s ↔ (view s).Bounded ∧ s.shu.subst.length ≤ 8 ∧ s.lpu.answers.length ≤ 2 := by
  constructor
  · rintro ⟨hq, hs, hd, hu, ha, hr, ht⟩
    exact ⟨⟨hq, hd, hu, hr, ht⟩, hs, ha⟩
  · rintro ⟨⟨hq, hd, hu, hr, ht⟩, hs, ha⟩
    exact ⟨hq, hs, hd, hu, ha, hr, ht⟩

theorem cycleInv_iff (s : State) : CycleInv s ↔ (view s).CycleRight := by
  constructor
  · intro h c hc
    obtain ⟨d, hd, rfl⟩ := Option.map_eq_some_iff.mp hc
    obtain ⟨h1, h2, h3, hfree, hentry⟩ := h d hd
    refine ⟨h1, h2, h3, fun hk => by simp [HeadCycle.ids, hfree hk], fun hk => ?_⟩
    obtain ⟨e, f, rest, he, htape, huid⟩ := hentry hk
    refine ⟨e.entry.uid, rest.map (·.entry.uid), by simp [HeadCycle.ids, he], ?_⟩
    show tapeIds s.tpc = _
    simp [tapeIds, htape, huid]
  · intro h c hc
    obtain ⟨h1, h2, h3, hfree, hentry⟩ := h c.ids (by simp [view, hc])
    refine ⟨h1, h2, h3, fun hk => by simpa [HeadCycle.ids] using hfree hk, fun hk => ?_⟩
    obtain ⟨u, rest, hu, htape⟩ := hentry hk
    obtain ⟨e, he, rfl⟩ := Option.map_eq_some_iff.mp hu
    obtain ⟨f, tail, hf, huid, -⟩ := List.map_eq_cons_iff.mp htape
    exact ⟨e, f, tail, he, hf, huid⟩

theorem balance_iff (s : State) : Balance s ↔
    (view s).counts.taken = BitVec.ofNat 32 (view s).ids.length + (view s).counts.ended := by
  simp only [Balance, Counts.ended, BitVec.add_assoc]
  rfl

theorem accountInv_iff (s : State) : AccountInv s ↔ (view s).Balanced ∧ (view s).CycleRight ∧ SeqInv s := by
  rw [← cycleInv_iff]
  constructor
  · rintro ⟨hb, ⟨hn, hf⟩, hc, hseq⟩
    exact ⟨⟨(balance_iff s).mp hb, hn, hf⟩, hc, hseq⟩
  · rintro ⟨⟨hb, hn, hf⟩, hc, hseq⟩
    exact ⟨(balance_iff s).mpr hb, ⟨hn, hf⟩, hc, hseq⟩

/-- ChainInv, SignatureInv and PanelInv speak of the view alone. -/
theorem chainInv_of_view {s t : State} (h : view t = view s) (hs : ChainInv s) : ChainInv t := by
  have hk : t.tables.constants = s.tables.constants := congrArg View.constants h
  have hr : t.csq.ring.length = s.csq.ring.length := congrArg View.ringLength h
  have hl : t.csq.fireLoad.length = s.csq.fireLoad.length := congrArg View.loadLength h
  have hb : t.csq.base = s.csq.base := congrArg View.base h
  unfold ChainInv
  rw [hk, hr, hl, hb]
  exact hs

theorem signatureInv_of_view {s t : State} (h : view t = view s) (hs : SignatureInv s) : SignatureInv t := by
  have hk : t.tables.constants = s.tables.constants := congrArg View.constants h
  have hw : t.csu.wear = s.csu.wear := congrArg View.csuWear h
  have hf : t.csu.faults = s.csu.faults := congrArg View.csuFaults h
  have ho : t.csu.window = s.csu.window := congrArg View.csuWindow h
  unfold SignatureInv
  rw [hk, hw, hf, ho]
  exact hs

theorem panelInv_of_view {s t : State} (h : view t = view s) (hs : PanelInv s) : PanelInv t := by
  have ht : t.pin.takePanel = s.pin.takePanel := congrArg View.takePanel h
  have hc : t.tbc.current = s.tbc.current := congrArg View.current h
  have hp : t.tbc.panel = s.tbc.panel := congrArg View.panel h
  have hh : t.tbc.handler.map HandlerOperation.op = s.tbc.handler.map HandlerOperation.op := congrArg View.handler h
  have hm : t.tbc.move = s.tbc.move := congrArg View.move h
  unfold PanelInv
  rw [ht, hc, hp, hh, hm]
  exact hs

/-! ### What keeps them -/

/-- `t` meets the bounds, the chain, the signature and the panel invariant when `s` does. -/
structure Safe (s t : State) : Prop where
  bounds : BoundsInv s → BoundsInv t
  chain : ChainInv s → ChainInv t
  signature : SignatureInv s → SignatureInv t
  panel : PanelInv s → PanelInv t

/-- `t` meets each of the five invariants that `s` does. -/
structure Keeps (s t : State) : Prop extends Safe s t where
  account : AccountInv s → AccountInv t

theorem Safe.refl (s : State) : Safe s s := ⟨id, id, id, id⟩

theorem Safe.trans {s t u : State} (h : Safe s t) (k : Safe t u) : Safe s u :=
  ⟨k.bounds ∘ h.bounds, k.chain ∘ h.chain, k.signature ∘ h.signature, k.panel ∘ h.panel⟩

/-- The same as `Safe.trans`, the last change first. -/
theorem Safe.after {s t u : State} (k : Safe t u) (h : Safe s t) : Safe s u := h.trans k

theorem Safe.foldl {α : Type} {f : State → α → State} (h : ∀ t a, Safe t (f t a)) (l : List α) (s : State) :
    Safe s (l.foldl f s) := by
  induction l generalizing s with
  | nil => exact .refl s
  | cons a l ih => exact (h s a).trans (ih _)

theorem Keeps.refl (s : State) : Keeps s s := ⟨.refl s, id⟩

theorem Keeps.trans {s t u : State} (h : Keeps s t) (k : Keeps t u) : Keeps s u :=
  ⟨h.toSafe.trans k.toSafe, k.account ∘ h.account⟩

/-- The same as `Keeps.trans`, the last change first. -/
theorem Keeps.after {s t u : State} (k : Keeps t u) (h : Keeps s t) : Keeps s u := h.trans k

theorem Steady.keeps {s t : State} (h : Steady s t) : Keeps s t where
  bounds := by
    rw [boundsInv_iff, boundsInv_iff, h.sameView]
    exact fun ⟨hv, hs, ha⟩ => ⟨hv, h.subst hs, h.answers ha⟩
  chain := chainInv_of_view h.sameView
  signature := signatureInv_of_view h.sameView
  panel := panelInv_of_view h.sameView
  account := by
    rw [accountInv_iff, accountInv_iff, h.sameView]
    exact fun ⟨hb, hc, hq⟩ => ⟨hb, hc, h.seq hq⟩

/-- A state that is as good as `t` is, and was reached from a state as good as `s` is. -/
theorem Keeps.steady {s t u : State} (h : Keeps s t) (k : Steady t u) : Keeps s u := h.trans k.keeps

/-! ### The balance -/

/-- Entries change places. -/
theorem View.Balanced.perm {v w : View} (h : v.Balanced) (hp : w.ids.Perm v.ids) (hc : w.counts = v.counts)
    (hu : w.nextUid = v.nextUid) : w.Balanced where
  balance := by rw [hc, hp.length_eq]; exact h.balance
  nodup := hp.nodup_iff.mpr h.nodup
  fresh := fun n hn => by rw [hu]; exact h.fresh n (hp.mem_iff.mp hn)

/-- An entry leaves with an outcome. -/
theorem View.Balanced.ends {v w : View} (h : v.Balanced) (n : Nat) (hp : v.ids.Perm (n :: w.ids))
    (ht : w.counts.taken = v.counts.taken) (he : w.counts.ended = v.counts.ended + 1) (hu : w.nextUid = v.nextUid) :
    w.Balanced where
  balance := by
    rw [ht, he, h.balance, hp.length_eq, List.length_cons, BitVec.ofNat_add]
    ac_rfl
  nodup := (List.nodup_cons.mp (hp.nodup_iff.mp h.nodup)).2
  fresh := fun m hm => by rw [hu]; exact h.fresh m (hp.mem_iff.mpr (List.mem_cons_of_mem n hm))

/-- An entry taken joins. -/
theorem View.Balanced.joins {v w : View} (h : v.Balanced) (hp : w.ids.Perm (v.nextUid :: v.ids))
    (ht : w.counts.taken = v.counts.taken + 1) (he : w.counts.ended = v.counts.ended)
    (hu : w.nextUid = v.nextUid + 1) : w.Balanced where
  balance := by
    rw [ht, he, h.balance, hp.length_eq, List.length_cons, BitVec.ofNat_add]
    ac_rfl
  nodup := by
    rw [hp.nodup_iff]
    exact List.nodup_cons.mpr ⟨fun hm => Nat.lt_irrefl _ (h.fresh _ hm), h.nodup⟩
  fresh := fun m hm => by
    rw [hu]
    rcases List.mem_cons.mp (hp.mem_iff.mp hm) with rfl | hm
    · exact Nat.lt_succ_self _
    · exact Nat.lt_succ_of_lt (h.fresh m hm)

/-- Entries that end as they are taken (R8, R11). -/
theorem View.Balanced.rejects {v w : View} (h : v.Balanced) (n : Nat) (hp : w.ids = v.ids)
    (ht : w.counts.taken = v.counts.taken + BitVec.ofNat 32 n)
    (he : w.counts.ended = v.counts.ended + BitVec.ofNat 32 n) (hu : w.nextUid = v.nextUid) : w.Balanced where
  balance := by
    rw [ht, he, h.balance, hp]
    ac_rfl
  nodup := hp ▸ h.nodup
  fresh := by rw [hp, hu]; exact h.fresh

end Sys2Proof.Machine
end

section
/-! PROOF. Records, takes, asks, PLACE and FLUSH keep the invariants; an entry that leaves the window with an outcome, and one
that joins window or tape, keep the balance (Sys2Proof/Machine/Intake, Chain). -/

namespace Sys2Proof.Machine

/-! ### The Record Ring -/

/-- R169, R170: the bounds of the ring. -/
def Rrg.Bounded (g : Rrg) : Prop := ringSize g.records ≤ 8192 ∧ g.inTransit ≤ g.records.length

theorem foldl_write_bounded (rs : List RingRecord) (g : Rrg) (h : g.Bounded) : (rs.foldl Rrg.write g).Bounded := by
  induction rs generalizing g with
  | nil => exact h
  | cons r rs ih => exact ih _ (write_bounds g r h.2)

theorem writeRecord_keeps (r : RingRecord) (s : State) : Keeps s (writeRecord r s) where
  bounds := fun ⟨hq, hs, hd, hu, ha, _, ht⟩ => ⟨hq, hs, hd, hu, ha, write_bounds s.rrg r ht⟩
  chain := id
  signature := id
  panel := id
  account := id

/-! ### Takes -/

namespace TakeEffect

theorem same {room n : Nat} {s t : State} {e : Option Entry} (h : TakeEffect room n s t e) :
    t.lpu = s.lpu ∧ t.tables = s.tables ∧ t.csq = s.csq ∧ t.shu = s.shu ∧ t.tpc = s.tpc ∧ t.hdc = s.hdc
      ∧ t.csu = s.csu ∧ t.tbc = s.tbc ∧ t.alc = s.alc := by
  rw [h.frame]
  exact ⟨rfl, rfl, rfl, rfl, rfl, rfl, rfl, rfl, rfl⟩

theorem safe {n : Nat} {s t : State} {e : Option Entry} (h : TakeEffect s.pin.queue.length n s t e) : Safe s t := by
  obtain ⟨hlpu, htables, hcsq, hshu, -, -, hcsu, htbc, -⟩ := h.same
  refine ⟨fun ⟨hq, hs, hd, hu, ha, hr, ht⟩ => ?_, fun hs => ?_, fun hs => ?_, fun ⟨hp, he, hs⟩ => ?_⟩
  · obtain ⟨rs, -, -, hrrg⟩ := h.records
    unfold BoundsInv
    rw [hshu, hlpu, hrrg]
    exact ⟨h.queue.trans hq, hs, hd, hu, ha, foldl_write_bounded rs s.rrg ⟨hr, ht⟩⟩
  · unfold ChainInv
    rw [htables, hcsq]
    exact hs
  · unfold SignatureInv
    rw [htables, hcsu]
    exact hs
  · unfold PanelInv
    rw [htbc]
    rcases h.takePanel with htake | ⟨hnow, htake⟩ <;> rw [htake]
    · exact ⟨hp, he, hs⟩
    · exact ⟨.inr rfl, fun _ => rfl, hs⟩

/-- The balance after a take that hands nothing out. -/
theorem keeps {n : Nat} {s t : State} (h : TakeEffect s.pin.queue.length n s t none) : Keeps s t where
  toSafe := h.safe
  account := by
    obtain ⟨-, -, hcsq, hshu, htpc, hhdc, -, -, -⟩ := h.same
    rw [accountInv_iff, accountInv_iff]
    rintro ⟨hb, hc, hq⟩
    refine ⟨hb.rejects n ?_ h.taken ?_ h.nextUid, ?_, ?_⟩
    · simp only [View.ids, view, hcsq, htpc]
    · simp only [Counts.ended, view, hhdc, htpc, h.rejected]
      ac_rfl
    · unfold View.CycleRight
      simp only [view, hhdc, htpc]
      exact hc
    · unfold SeqInv
      rw [hcsq, hshu]
      exact hq

/-- The balance after a take whose entry has joined the window or the tape. -/
theorem balanced {room n : Nat} {s t : State} {e : Entry} {w : View} (h : TakeEffect room n s t (some e))
    (hw : w.ids.Perm (e.uid :: (view s).ids)) (hc : w.counts = (view t).counts) (hu : w.nextUid = t.nextUid)
    (hb : (view s).Balanced) : w.Balanced := by
  obtain ⟨-, -, -, -, htpc, hhdc, -, -, -⟩ := h.same
  have hrejected : View.Balanced { view s with counts := { (view s).counts with
      taken := s.pin.taken + BitVec.ofNat 32 n, rejected := s.pin.rejected + BitVec.ofNat 32 n } } := by
    refine hb.rejects n rfl rfl ?_ rfl
    simp only [Counts.ended, view]
    ac_rfl
  refine hrejected.joins ?_ ?_ ?_ (hu.trans h.nextUid)
  · rw [h.uid e rfl] at hw
    exact hw
  · rw [hc]
    show t.pin.taken = _
    rw [h.taken, BitVec.ofNat_add, ← BitVec.add_assoc]
    rfl
  · rw [hc]
    simp only [Counts.ended, view, hhdc, htpc, h.rejected]

end TakeEffect

/-- R82: an entry at the tape's tail leaves the front as it is. -/
theorem cycleRight_append {v w : View} {ids : List Nat} (h : v.CycleRight) (hc : w.cycle = v.cycle)
    (hh : w.head = v.head) (ht : w.tapeIds = v.tapeIds ++ ids) : w.CycleRight := by
  intro c hcw
  obtain ⟨h1, h2, h3, h4, h5⟩ := h c (hc ▸ hcw)
  rw [hh]
  refine ⟨h1, h2, h3, h4, fun hk => ?_⟩
  obtain ⟨u, rest, hu, htape⟩ := h5 hk
  exact ⟨u, rest ++ ids, hu, by rw [ht, htape]; rfl⟩

/-- An entry behind the tape's last one. -/
theorem ids_tape_append (w l : List Nat) (n : Nat) : (w ++ (l ++ [n])).Perm (n :: (w ++ l)) := by
  rw [← List.append_assoc]
  exact List.perm_append_singleton n (w ++ l)

/-! ### The standing ask -/

theorem takeForHead_keeps (s : State) : Keeps s (takeForHead s) := by
  unfold takeForHead
  rcases htake : take s with ⟨t, _ | e⟩ <;> obtain ⟨n, h⟩ := take_effect_of_eq htake
  · exact h.keeps.steady (.of_eq rfl rfl rfl rfl)
  · obtain ⟨-, -, hcsq, hshu, htpc, hhdc, -, -, -⟩ := h.same
    show Keeps s (heldTest _)
    refine (heldTest_steady _).keeps.after ⟨h.safe.trans ⟨id, id, id, id⟩, ?_⟩
    rw [accountInv_iff, accountInv_iff]
    rintro ⟨hb, hc, hs⟩
    refine ⟨h.balanced ?_ rfl rfl hb, cycleRight_append (ids := [e.uid]) hc ?_ ?_ ?_, ?_⟩
    · simp only [View.ids, view, tapeIds, updTpc_tpc, updPin_tpc, updTpc_csq, updPin_csq, hcsq, htpc, List.map_append]
      exact ids_tape_append _ _ _
    · simp [view, hhdc]
    · simp [view, hhdc]
    · simp [view, tapeIds, htpc]
    · unfold SeqInv
      simp only [updTpc_csq, updTpc_shu, updPin_csq, updPin_shu, hcsq, hshu]
      exact hs

theorem askPin_keeps (s : State) : Keeps s (askPin s) := by
  unfold askPin
  split
  · exact takeForHead_keeps s
  · exact .refl s

theorem retakeAsk_keeps (s : State) : Keeps s (retakeAsk s) := by
  unfold retakeAsk
  split
  · exact takeForHead_keeps s
  · exact .refl s

/-! ### Entries that leave the window with outcome REJECTED (R22, R37) -/

/-- The entry leaves the window and ends REJECTED. -/
def expel (w : WindowEntry) (station : Nat) (s : State) : State :=
  rejectEntry w.entry station
    (s.updCsq (fun q => { q with window := q.window.filter (·.entry.uid != w.entry.uid) }))

theorem expel_safe (w : WindowEntry) (station : Nat) (s : State) : Safe s (expel w station s) := by
  unfold expel rejectEntry
  exact (writeRecord_keeps _ _).toSafe.after ⟨id, id, id, id⟩

theorem expel_windowIds (w : WindowEntry) (station : Nat) (s : State) :
    windowIds (expel w station s).csq = (windowIds s.csq).filter (· != w.entry.uid) := by
  show (s.csq.window.filter _).map _ = (s.csq.window.map _).filter _
  rw [List.filter_map]
  rfl

/-- R22, R37: an entry that stands in the window leaves it, and its outcome is counted. -/
theorem expel_account (w : WindowEntry) (station : Nat) (s : State) (hw : w.entry.uid ∈ windowIds s.csq) :
    AccountInv s → AccountInv (expel w station s) := by
  rw [accountInv_iff, accountInv_iff]
  rintro ⟨hb, hc, hq⟩
  have hnodup : (windowIds s.csq).Nodup := (List.nodup_append.mp hb.nodup).1
  refine ⟨hb.ends w.entry.uid ?_ rfl ?_ rfl, hc, fun hs => ?_, hq.2⟩
  · show (windowIds s.csq ++ tapeIds s.tpc).Perm (_ :: (windowIds (expel w station s).csq ++ tapeIds s.tpc))
    rw [expel_windowIds, ← hnodup.erase_eq_filter, ← List.cons_append]
    exact (List.perm_cons_erase hw).append_right _
  · show Counts.ended ⟨_, _, _, s.pin.rejected + 1, _, _, _⟩ = _
    simp only [Counts.ended, view]
    ac_rfl
  · show s.csq.window.filter _ = []
    rw [hq.1 hs, List.filter_nil]

/-- The numbers of a list of window entries are still in the window when another entry has left. -/
theorem expel_mem {w : WindowEntry} {station : Nat} {s : State} {l : List WindowEntry}
    (hn : ((w :: l).map (·.entry.uid)).Nodup) (hm : ∀ v ∈ w :: l, v.entry.uid ∈ windowIds s.csq) :
    ∀ v ∈ l, v.entry.uid ∈ windowIds (expel w station s).csq := by
  intro v hv
  rw [expel_windowIds]
  refine List.mem_filter.mpr ⟨hm v (List.mem_cons_of_mem w hv), ?_⟩
  have hne : w.entry.uid ∉ l.map (·.entry.uid) := (List.nodup_cons.mp hn).1
  exact bne_iff_ne.mpr (fun h => hne (List.mem_map.mpr ⟨v, hv, h⟩))

theorem dropInvalid_safe (l : List WindowEntry) (s : State) : Safe s (dropInvalid l s).1 := by
  induction l generalizing s with
  | nil => exact .refl s
  | cons w rest ih =>
    unfold dropInvalid
    split
    · exact .refl s
    · exact (expel_safe w 0 s).trans (ih _)

theorem dropInvalid_account (l : List WindowEntry) (s : State) (hn : (l.map (·.entry.uid)).Nodup)
    (hm : ∀ v ∈ l, v.entry.uid ∈ windowIds s.csq) : AccountInv s → AccountInv (dropInvalid l s).1 := by
  induction l generalizing s with
  | nil => exact id
  | cons w rest ih =>
    unfold dropInvalid
    split
    · exact id
    · exact ih (expel w 0 s) (List.nodup_cons.mp hn).2 (expel_mem hn hm)
        ∘ expel_account w 0 s (hm w List.mem_cons_self)

theorem dropInvalid_seq (l : List WindowEntry) (s : State) : (dropInvalid l s).1.csq.seq = s.csq.seq := by
  induction l generalizing s with
  | nil => rfl
  | cons w rest ih =>
    unfold dropInvalid
    split
    · rfl
    · exact ih _

/-- Entries picked from the window stand in it, each once. -/
theorem AccountInv.picked {s : State} (h : AccountInv s) (p : WindowEntry → Bool) :
    ((s.csq.window.filter p).map (·.entry.uid)).Nodup
      ∧ ∀ v ∈ s.csq.window.filter p, v.entry.uid ∈ windowIds s.csq := by
  have hnodup : (windowIds s.csq).Nodup := (List.nodup_append.mp h.2.1.1).1
  exact ⟨hnodup.sublist (List.filter_sublist.map _),
    fun v hv => List.mem_map_of_mem (List.mem_of_mem_filter hv)⟩

/-- R22, R47: the invalid candidates have left. -/
theorem dropInvalid_keeps (s : State) :
    Keeps s (dropInvalid (s.csq.window.filter (fun w => w.status == .unassigned)) s).1 where
  toSafe := dropInvalid_safe _ s
  account := fun h => dropInvalid_account _ s (h.picked _).1 (h.picked _).2 h

/-- R7, R33: an entry handed out joins the window, in RUNNING and HELD. -/
theorem joinWindow_keeps {n : Nat} {s t : State} {e : Entry} (h : TakeEffect s.pin.queue.length n s t (some e))
    (hrun : s.csq.seq = .running ∨ s.csq.seq = .held) :
    Keeps s (t.updCsq (fun q => { q with window := q.window ++ [newWindowEntry e] })) where
  toSafe := h.safe.trans ⟨id, id, id, id⟩
  account := by
    obtain ⟨-, -, hcsq, hshu, htpc, hhdc, -, -, -⟩ := h.same
    rw [accountInv_iff, accountInv_iff]
    rintro ⟨hb, hc, hq⟩
    refine ⟨h.balanced ?_ rfl rfl hb, ?_, ?_⟩
    · simp only [View.ids, view, windowIds, updCsq_csq, updCsq_tpc, hcsq, htpc, List.map_append]
      show ((_ ++ [e.uid]) ++ _).Perm _
      rw [← List.cons_append]
      exact (List.perm_append_singleton _ _).append_right _
    · unfold View.CycleRight
      simp only [view, updCsq_hdc, updCsq_tpc, hhdc, htpc]
      exact hc
    · unfold SeqInv
      simp only [updCsq_csq, updCsq_shu, hcsq, hshu]
      exact ⟨fun ⟨hr, hh⟩ => (hrun.elim hr hh).elim, hq.2⟩

theorem assignEntering_keeps (s : State) (hrun : s.csq.seq = .running ∨ s.csq.seq = .held) :
    Keeps s (assignEntering s) := by
  have hdrop := dropInvalid_keeps s
  have hseq := dropInvalid_seq (s.csq.window.filter (fun w => w.status == .unassigned)) s
  unfold assignEntering
  split
  case h_1 s1 w heq =>
    rw [heq] at hdrop
    exact hdrop.steady (assignCandidate_steady w s1)
  case h_2 s1 heq =>
    rw [heq] at hdrop hseq
    rcases htake : take s1 with ⟨t, _ | e⟩ <;> obtain ⟨n, h⟩ := take_effect_of_eq htake
    · exact hdrop.trans h.keeps
    · exact (hdrop.trans (joinWindow_keeps h (by rw [hseq]; exact hrun))).steady (assignCandidate_steady _ _)

theorem assignStep_keeps (s : State) : Keeps s (assignStep s) := by
  unfold assignStep
  split
  case isTrue h => exact assignEntering_keeps s h
  case isFalse => exact .refl s

/-! ### PLACE and FLUSH -/

/-- PIN's queue is not part of the balance. -/
theorem updPin_queue_keeps (f : Pin → Pin) (s : State) (hq : s.pin.queue.length ≤ 64 → (f s.pin).queue.length ≤ 64)
    (hp : (f s.pin).takePanel = s.pin.takePanel) (ht : (f s.pin).taken = s.pin.taken)
    (hr : (f s.pin).rejected = s.pin.rejected) : Keeps s (s.updPin f) where
  bounds := fun ⟨h, rest⟩ => ⟨hq h, rest⟩
  chain := id
  signature := id
  panel := by
    unfold PanelInv
    rw [updPin_pin, hp]
    exact id
  account := by
    unfold AccountInv Balance
    rw [updPin_pin, ht, hr]
    exact id

/-- R4, R5: a record that passes the checks finds room. -/
theorem checkRecord_ok_room (s : State) (r : StreamRecord) (h : checkRecord s r = .ok) : s.pin.queue.length < 64 := by
  by_contra hfull
  have hroom : ¬ s.pin.queue.length < Config.queueCapacity := hfull
  cases r with
  | boundary => simp [checkRecord, hroom] at h
  | tenByte type p =>
    simp only [checkRecord, hroom, if_false] at h
    split at h
    · contradiction
    split at h
    · contradiction
    split at h
    · contradiction
    split at h
    · contradiction
    split at h <;> contradiction

theorem placeRecords_keeps (rs : List StreamRecord) (s : State) : Keeps s (placeRecords rs s).1 := by
  induction rs generalizing s with
  | nil => exact .refl s
  | cons r rest ih =>
    unfold placeRecords
    split
    case h_1 hok =>
      refine (updPin_queue_keeps _ s (fun _ => ?_) rfl rfl rfl).trans (ih _)
      rw [List.length_append]
      exact checkRecord_ok_room s r hok
    case h_2 => exact .refl s

theorem flushRecord_keeps (r : QueueRecord) (s : State) : Keeps s (flushRecord r s) := by
  cases r with
  | boundary => exact .refl s
  | placement p => exact (writeRecord_keeps _ _).after (updPin_queue_keeps _ s id rfl rfl rfl)

theorem Keeps.foldl {α : Type} {f : State → α → State} (h : ∀ t a, Keeps t (f t a)) (l : List α) (s : State) :
    Keeps s (l.foldl f s) := by
  induction l generalizing s with
  | nil => exact .refl s
  | cons a l ih => exact (h s a).trans (ih _)

theorem flushQueue_keeps (s : State) : Keeps s (flushQueue s) :=
  (updPin_queue_keeps _ _ (fun _ => Nat.zero_le _) rfl rfl rfl).after
    (.foldl (f := fun t r => flushRecord r t) (fun t r => flushRecord_keeps r t) _ s)

end Sys2Proof.Machine
end

section
/-! PROOF. The commands of the chain and the taper keep the invariants. -/

namespace Sys2Proof.Machine

/-- A command's answer: a next state that meets each of the five invariants that `s` does. -/
def Answers (s : State) : Result → Prop
  | .next t => Keeps s t
  | .fault _ => True
  | .refused _ => True

theorem Keeps.next {s t : State} (h : Keeps s t) : Answers s (.next t) := h

theorem Steady.next {s t : State} (h : Steady s t) : Answers s (.next t) := h.keeps

/-! ### The chain -/

theorem chainStepStart_keeps (s : State) : Answers s (execChainStepStart s) := by
  unfold execChainStepStart
  split
  · exact Steady.keeps (.of_eq rfl rfl rfl rfl)
  · exact .refl s

theorem chainStepTimeout_keeps (s : State) : Answers s (execChainStepTimeout s) := by
  unfold execChainStepTimeout
  split
  · exact Steady.next (((idleTest_steady _).after (post_steady _ _ _)).after (.of_eq rfl rfl rfl rfl))
  · exact .refl s

/-- R32, R34: the shift at an index event leaves L places in both rings and the base below L. -/
theorem advanceChain_chain (s : State) (f : Csq → Csq) (hr : (f s.csq).ring = s.csq.ring)
    (hl : (f s.csq).fireLoad = s.csq.fireLoad) (h : ChainInv s) : ChainInv (s.updCsq (fun q => advanceChain (f q))) := by
  obtain ⟨hk, hring, hload, -⟩ := h
  have hL : 0 < s.tables.constants.chainLength := Nat.lt_of_lt_of_le (by decide) hk.1
  refine ⟨hk, ?_, ?_, ?_⟩
  · show (f s.csq).ring.length = _
    rw [hr]; exact hring
  · show ((f s.csq).fireLoad.drop 1 ++ [0]).length = s.tables.constants.chainLength
    rw [hl, List.length_append, List.length_drop, hload]
    exact Nat.sub_add_cancel hL
  · show ((f s.csq).base + 1) % (f s.csq).ring.length < s.tables.constants.chainLength
    rw [hr, hring]
    exact Nat.mod_lt _ hL

/-- Window, sequencer and sweep as they were, entry numbers told: the balance is as it was. -/
theorem account_of_csq (s : State) (f : Csq → Csq) (hw : windowIds (f s.csq) = windowIds s.csq)
    (hq : (f s.csq).seq = s.csq.seq) : AccountInv s → AccountInv (s.updCsq f) := by
  rw [accountInv_iff, accountInv_iff]
  rintro ⟨hb, hc, h1, h2⟩
  refine ⟨hb.perm (.of_eq ?_) rfl rfl, hc, fun h => ?_, fun h => ?_⟩
  · show windowIds (f s.csq) ++ _ = windowIds s.csq ++ _
    rw [hw]
    rfl
  · rw [updCsq_csq, ← windowIds_eq_nil, hw, windowIds_eq_nil]
    rw [updCsq_csq, hq] at h
    exact h1 h
  · rw [updCsq_csq, hq]
    exact h2 h

theorem advanceChain_keeps (s : State) : Keeps s (s.updCsq (fun q =>
    advanceChain { q with stepTimer := .stopped, abandoned := false, cycle := .settle })) where
  bounds := id
  chain := advanceChain_chain s (fun q => { q with stepTimer := .stopped, abandoned := false, cycle := .settle }) rfl rfl
  signature := id
  panel := id
  account := account_of_csq s _ (windowIds_map (fun _ => rfl)) rfl

theorem chainIndexEvent_keeps (present : Bool) (s : State) : Answers s (execChainIndexEvent present s) := by
  unfold execChainIndexEvent
  split
  · have hsense := (purgeTest_steady _).after (clipSense_steady present (s.updCsq (fun q =>
      advanceChain { q with stepTimer := .stopped, abandoned := false, cycle := .settle })))
    have hbuild := fun u => (settleTest_steady _).after (buildExchange_steady u)
    exact (((advanceChain_keeps s).steady (hsense.trans (handOver_steady _))).trans
      (assignStep_keeps _)).steady (hbuild _)
  · exact .refl s

theorem exchangeSend_keeps (s : State) : Answers s (execExchangeSend s) := by
  unfold execExchangeSend
  split
  · exact Steady.keeps (.of_eq rfl rfl rfl rfl)
  · exact .refl s

/-- R52, R53: what is done with the replies, whatever the slots. -/
theorem exchangeWork_steady (slots : List (Nat × SlotCommand × Reply)) (s s1 : State) (h : Steady s s1) :
    Answers s (match slots.foldl applyReply (s1, []) with
      | (s2, missed) => .next (settleTest (sweepTest (slots.foldl reportSlot (missCascade missed s2))))) := by
  have hreplies := applyReplies_steady slots (s1, [])
  rcases hacc : slots.foldl applyReply (s1, []) with ⟨s2, missed⟩
  rw [hacc] at hreplies
  exact Steady.next (((settleTest_steady _).after (sweepTest_steady _)).after
    ((Steady.foldl reportSlot_steady _ _).after ((missCascade_steady _ _).after (hreplies.after h))))

theorem exchangeComplete_keeps (replies : List ReplySlot) (s : State) : Answers s (execExchangeComplete replies s) := by
  unfold execExchangeComplete
  split
  · extract_lets rs slots s1
    have h : Steady s s1 := .of_eq rfl rfl rfl rfl
    clear_value slots s1
    exact exchangeWork_steady slots s s1 h
  · exact .refl s

theorem unusableStationCascade_keeps (s : State) : Answers s (execUnusableStationCascade s) := by
  unfold execUnusableStationCascade
  split
  · exact .refl s
  · simp only []
    split
    · exact Steady.keeps (.of_eq rfl rfl rfl rfl)
    · exact Steady.next ((unwindFrom_steady _ _).after (.of_eq rfl rfl rfl rfl))

/-! ### Marking notices in the window -/

/-- R37: what a marking notice does to an entry: a TAPING one is marked for discard, another one leaves REJECTED. -/
theorem markEntry_cases (w : WindowEntry) (s : State) :
    (w.status = .taping ∧ markEntry w s = s.updCsq (fun q => { q with window := q.window.map (fun v =>
      if v.entry.uid = w.entry.uid then { v with discard := true } else v) }))
    ∨ (w.status ≠ .taping
      ∧ markEntry w s = expel w ((w.captured.map Captured.station).getD 0) (releaseClip w s)) := by
  unfold markEntry
  cases hst : w.status
  case taping => exact .inl ⟨rfl, rfl⟩
  all_goals exact .inr ⟨nofun, rfl⟩

theorem markTaping_steady (w : WindowEntry) (s : State) : Steady s (s.updCsq (fun q => { q with
    window := q.window.map (fun v => if v.entry.uid = w.entry.uid then { v with discard := true } else v) })) :=
  .mapWindow _ (fun v => by split <;> rfl) s

theorem markEntry_safe (w : WindowEntry) (s : State) : Safe s (markEntry w s) := by
  rcases markEntry_cases w s with ⟨-, h⟩ | ⟨-, h⟩ <;> rw [h]
  · exact (markTaping_steady w s).keeps.toSafe
  · exact (expel_safe w _ _).after (releaseClip_steady w s).keeps.toSafe

theorem markEntries_account (l : List WindowEntry) (s : State) (hn : (l.map (·.entry.uid)).Nodup)
    (hm : ∀ v ∈ l, v.entry.uid ∈ windowIds s.csq) (h : AccountInv s) :
    AccountInv (l.foldl (fun t w => markEntry w t) s) := by
  induction l generalizing s with
  | nil => exact h
  | cons w rest ih =>
    have hrest := (List.nodup_cons.mp hn).2
    rw [List.foldl_cons]
    rcases markEntry_cases w s with ⟨-, heq⟩ | ⟨-, heq⟩ <;> rw [heq]
    · have hsteady := markTaping_steady w s
      have hids : windowIds _ = windowIds s.csq := congrArg View.windowIds hsteady.sameView
      exact ih _ hrest (fun v hv => hids ▸ hm v (List.mem_cons_of_mem w hv)) (hsteady.keeps.account h)
    · have hsteady := releaseClip_steady w s
      have hids : windowIds _ = windowIds s.csq := congrArg View.windowIds hsteady.sameView
      have hin : ∀ v ∈ w :: rest, v.entry.uid ∈ windowIds (releaseClip w s).csq := fun v hv => hids ▸ hm v hv
      exact ih _ hrest (expel_mem hn hin)
        (expel_account w _ _ (hin w List.mem_cons_self) (hsteady.keeps.account h))

theorem markingNoticeCsq_keeps (s : State) : Answers s (execMarkingNoticeCsq s) := by
  unfold execMarkingNoticeCsq
  split
  · exact .refl s
  case h_2 m rest _ =>
    have htaken : Steady s (s.updCsq ({ · with marks := rest })) := .of_eq rfl rfl rfl rfl
    refine Keeps.steady ⟨?_, fun h => ?_⟩ (idleTest_steady _)
    · exact (Safe.foldl (f := fun t w => markEntry w t) (fun t w => markEntry_safe w t) _ _).after htaken.keeps.toSafe
    · exact markEntries_account _ _ (h.picked _).1 (h.picked _).2 (htaken.keeps.account h)

/-! ### The taper -/

/-- R82: a tape entry at the tail. -/
theorem joinTape_view (e : TapeEntry) (s : State) :
    view (joinTape e s) = { view s with tapeIds := (view s).tapeIds ++ [e.entry.uid] } := by
  unfold joinTape
  rw [(heldTest_steady _).sameView]
  simp [view, tapeIds]

theorem joinTape_seqInv (e : TapeEntry) (s : State) (h : SeqInv s) : SeqInv (joinTape e s) :=
  (heldTest_steady _).seq h

theorem joinTape_safe (e : TapeEntry) (s : State) : Safe s (joinTape e s) :=
  (heldTest_steady _).keeps.toSafe.after ⟨id, id, id, id⟩

/-- R76, R77: the front of the window goes to the tape's tail, or ends TAPED. -/
theorem releaseTaped_keeps (s : State) : Keeps s (releaseTaped s) := by
  unfold releaseTaped
  split
  case h_1 => exact .refl s
  case h_2 w rest hwin =>
    have hids : (view s).ids = w.entry.uid :: (rest.map (·.entry.uid) ++ tapeIds s.tpc) := by
      simp [View.ids, view, windowIds, hwin]
    have hseq : SeqInv s → SeqInv (s.updCsq ({ · with window := rest })) := by
      rintro ⟨h1, h2⟩
      refine ⟨fun h => ?_, h2⟩
      have hempty := h1 h
      rw [hwin] at hempty
      contradiction
    simp only []
    split
    · unfold endTaped
      refine (writeRecord_keeps _ _).after ⟨⟨id, id, id, id⟩, ?_⟩
      rw [accountInv_iff, accountInv_iff]
      rintro ⟨hb, hc, hq⟩
      refine ⟨hb.ends w.entry.uid (.of_eq hids) rfl ?_ rfl, hc, hseq hq⟩
      show Counts.ended ⟨_, _, _, _, _, _, s.tpc.taped + 1⟩ = _
      simp only [Counts.ended, view]
      ac_rfl
    · refine ⟨(joinTape_safe _ _).after ⟨id, id, id, id⟩, ?_⟩
      rw [accountInv_iff, accountInv_iff, joinTape_view]
      rintro ⟨hb, hc, hq⟩
      refine ⟨hb.perm ?_ rfl rfl, cycleRight_append (ids := [w.entry.uid]) hc rfl rfl rfl, joinTape_seqInv _ _ (hseq hq)⟩
      rw [hids]
      exact ids_tape_append _ _ _

theorem tapedEvent_keeps (s : State) : Answers s (execTapedEvent s) := by
  have hends : Keeps s (settleTest (purgeTest (releaseTaped (setClip 0 .empty (endTransfer s))))) :=
    (((endTransfer_steady s).trans (setClip_steady 0 .empty _)).keeps.trans (releaseTaped_keeps _)).steady
      ((settleTest_steady _).after (purgeTest_steady _))
  unfold execTapedEvent
  split
  · exact hends
  · exact hends
  · exact hends
  · exact .refl s

theorem dumpEvent_keeps (s : State) : Answers s (execDumpEvent s) := by
  unfold execDumpEvent
  split
  · exact Steady.next (((settleTest_steady _).after (purgeTest_steady _)).after
      ((setClip_steady _ _ _).after (.of_eq rfl rfl rfl rfl)))
  · exact .refl s

theorem taperTimeout_keeps (s : State) : Answers s (execTaperTimeout s) := by
  unfold execTaperTimeout
  split
  · split
    · exact Steady.next (((post_steady _ _ _).after (driveTransfer_steady _ _ _)).after (.of_eq rfl rfl rfl rfl))
    · exact .refl s
  · exact .refl s

theorem taperRestart_keeps (s : State) : Answers s (execTaperRestart s) := by
  unfold execTaperRestart
  split
  · split
    · exact Steady.next ((commandTransfer_steady _ _).after (.of_eq rfl rfl rfl rfl))
    · exact .refl s
  · exact .refl s

theorem tensionBreak_keeps (s : State) : Answers s (execTensionBreak s) := by
  unfold execTensionBreak
  split
  · exact Steady.next ((post_steady _ _ _).after (.of_eq rfl rfl rfl rfl))
  · exact .refl s

theorem tensionNormal_keeps (s : State) : Answers s (execTensionNormal s) :=
  Steady.keeps (.of_eq rfl rfl rfl rfl)

theorem markingNoticeTpc_keeps (s : State) : Answers s (execMarkingNoticeTpc s) := by
  unfold execMarkingNoticeTpc
  split
  · exact .refl s
  case h_2 m rest _ =>
    refine Steady.next ((Steady.foldl (f := fun t (e : TapeEntry) => withdraw e.entry.uid t)
      (fun t e => withdraw_steady _ t) _ _).after (.of_eq ?_ rfl rfl rfl))
    have hids : ∀ (p : TapeEntry → Bool) (l : List TapeEntry),
        (l.map (fun e => if p e then { e with discard := true } else e)).map (·.entry.uid) = l.map (·.entry.uid) := by
      intro p l
      rw [List.map_map]
      exact List.map_congr_left (fun e _ => by simp only [Function.comp]; split <;> rfl)
    simp only [view, updTpc_tpc, tapeIds, hids]
    rfl

theorem markingNoticePin_keeps (s : State) : Answers s (execMarkingNoticePin s) :=
  updPin_queue_keeps _ s id rfl rfl rfl

end Sys2Proof.Machine
end

section
/-! PROOF. The commands of the head keep the invariants (Sys2Proof/Machine/Head). -/

namespace Sys2Proof.Machine

/-! ### The cycle and the head state -/

/-- The head may stand in this state while a cycle runs (R91, R95, R103). -/
def HeadState.inCycle (h : HeadState) : Prop := h ≠ .idle ∧ h ≠ .fault ∧ h ≠ .homing

/-- With no cycle there is nothing to hold. -/
theorem View.CycleRight.absent {v : View} (h : v.cycle = none) : v.CycleRight := fun c hc => by
  rw [h] at hc; contradiction

/-- A cycle goes to another phase. -/
theorem View.CycleRight.phase {v w : View} (h : v.CycleRight) (p : w.head.inCycle) (hc : w.cycle = v.cycle)
    (ht : w.tapeIds = v.tapeIds) : w.CycleRight := by
  intro c hw
  obtain ⟨-, -, -, hfree, hentry⟩ := h c (hc ▸ hw)
  obtain ⟨h1, h2, h3⟩ := p
  rw [ht]
  exact ⟨h1, h2, h3, hfree, hentry⟩

/-- A cycle for the front entry. -/
theorem View.CycleRight.front {w : View} {k : CycleKind} {u : Nat} {rest : List Nat} (p : w.head.inCycle)
    (hc : w.cycle = some (k, some u)) (hk : k ≠ .freeDump) (ht : w.tapeIds = u :: rest) : w.CycleRight := by
  intro c hw
  obtain ⟨h1, h2, h3⟩ := p
  obtain rfl : (k, some u) = c := Option.some.inj (hc.symm.trans hw)
  exact ⟨h1, h2, h3, fun h => absurd h hk, fun _ => ⟨u, rest, rfl, ht⟩⟩

/-- R103: a free dump cycle. -/
theorem View.CycleRight.free {w : View} (p : w.head.inCycle) (hc : w.cycle = some (.freeDump, none)) :
    w.CycleRight := by
  intro c hw
  obtain ⟨h1, h2, h3⟩ := p
  obtain rfl : (CycleKind.freeDump, none) = c := Option.some.inj (hc.symm.trans hw)
  exact ⟨h1, h2, h3, fun _ => rfl, fun h => absurd rfl h⟩

/-- A change of HDC that leaves its counters: what it must keep is the cycle. -/
theorem updHdc_keeps (f : Hdc → Hdc) (s : State) (hi : (f s.hdc).inserted = s.hdc.inserted)
    (hd : (f s.hdc).dumped = s.hdc.dumped) (hl : (f s.hdc).lost = s.hdc.lost) (ha : (f s.hdc).aborted = s.hdc.aborted)
    (hc : (view s).CycleRight → (view (s.updHdc f)).CycleRight) : Keeps s (s.updHdc f) where
  toSafe := ⟨id, id, id, id⟩
  account := by
    rw [accountInv_iff, accountInv_iff]
    rintro ⟨hb, hcycle, hq⟩
    refine ⟨hb.perm (.refl _) ?_ rfl, hc hcycle, hq⟩
    simp only [view, updHdc_pin, updHdc_tpc, updHdc_hdc, hi, hd, hl, ha]

/-- HDC's head state, its cycle and its counters are what the invariants read of it. -/
theorem updHdc_steady (f : Hdc → Hdc) (s : State) (hh : (f s.hdc).head = s.hdc.head)
    (hc : (f s.hdc).cycle.map HeadCycle.ids = s.hdc.cycle.map HeadCycle.ids)
    (hi : (f s.hdc).inserted = s.hdc.inserted) (hd : (f s.hdc).dumped = s.hdc.dumped)
    (hl : (f s.hdc).lost = s.hdc.lost) (ha : (f s.hdc).aborted = s.hdc.aborted) : Steady s (s.updHdc f) :=
  .of_eq (by simp only [view, updHdc_hdc, hh, hc, hi, hd, hl, ha]; rfl) rfl rfl rfl

theorem enterPhase_keeps (p : HeadState) (s : State) (hp : p.inCycle) : Keeps s (enterPhase p s) :=
  (updHdc_keeps ({ · with head := p, timer := .running s.tables.constants.headTimeout }) s rfl rfl rfl rfl
    (fun h => h.phase hp rfl rfl)).steady (.updOut _ _)

theorem enterWaitTable_keeps (s : State) : Keeps s (enterWaitTable s) :=
  updHdc_keeps _ s rfl rfl rfl rfl (fun h => h.phase ⟨nofun, nofun, nofun⟩ rfl rfl)

theorem enterDrive_keeps (s : State) : Keeps s (enterDrive s) := by
  refine (enterPhase_keeps .drive _ ⟨nofun, nofun, nofun⟩).after (updHdc_steady _ s rfl ?_ rfl rfl rfl rfl).keeps
  rw [Option.map_map]
  rfl

/-- R95: a cycle that has an entry is no free dump, and stays its front entry's. -/
theorem turnToDump_keeps (s : State) {c : HeadCycle} {e : TapeEntry} (hc : s.hdc.cycle = some c)
    (he : c.entry = some e) : Keeps s (turnToDump s) := by
  refine ⟨⟨id, id, id, id⟩, ?_⟩
  rw [accountInv_iff, accountInv_iff]
  rintro ⟨hb, hcycle, hq⟩
  have hids : (view s).cycle = some (c.kind, some e.entry.uid) := by simp [view, hc, HeadCycle.ids, he]
  obtain ⟨-, -, -, hfree, hentry⟩ := hcycle _ hids
  obtain ⟨u, rest, hu, htape⟩ := hentry (fun h => nomatch hfree h)
  obtain rfl := Option.some.inj hu
  refine ⟨hb.perm (.refl _) rfl rfl, .front (k := .dump) (rest := rest) ⟨nofun, nofun, nofun⟩ ?_ nofun htape, hq⟩
  simp [view, turnToDump, enterPhase, hc, HeadCycle.ids, he]

theorem driveTest_keeps (s : State) {c : HeadCycle} {e : TapeEntry} (hc : s.hdc.cycle = some c)
    (he : c.entry = some e) : Keeps s (driveTest e s) := by
  unfold driveTest
  split
  · exact turnToDump_keeps s hc he
  · split
    · exact enterDrive_keeps s
    · exact enterWaitTable_keeps s

/-! ### Starts -/

/-- R91, R95: a cycle starts for the front entry, in a state of a cycle. -/
theorem startFront_keeps (f : Hdc → Hdc) (s : State) {e : TapeEntry} {rest : List TapeEntry} {k : CycleKind}
    (ht : s.tpc.tape = e :: rest) (hp : (f s.hdc).head.inCycle)
    (hc : (f s.hdc).cycle.map HeadCycle.ids = some (k, some e.entry.uid)) (hk : k ≠ .freeDump)
    (hi : (f s.hdc).inserted = s.hdc.inserted) (hd : (f s.hdc).dumped = s.hdc.dumped)
    (hl : (f s.hdc).lost = s.hdc.lost) (ha : (f s.hdc).aborted = s.hdc.aborted) : Keeps s (s.updHdc f) :=
  updHdc_keeps f s hi hd hl ha fun _ => .front (rest := rest.map (·.entry.uid)) hp hc hk (by
    show tapeIds s.tpc = _
    simp [tapeIds, ht])

theorem insertCycleStart_keeps (s : State) : Answers s (execInsertCycleStart s) := by
  unfold execInsertCycleStart
  split
  case h_1 => exact .refl s
  case h_2 e rest ht =>
    split
    · split
      · exact (startFront_keeps (fun h => { h with
          cycle := some (newCycle .insert (some e)), head := .cut, timer := .running s.tables.constants.headTimeout }) s
          ht ⟨nofun, nofun, nofun⟩ rfl nofun rfl rfl rfl rfl).steady (.updOut ({ · with cam := .phase .cut }) _)
      · unfold enterSetup
        exact (Steady.updOut _ _).keeps.after
          (startFront_keeps (k := .insert) _ s ht ⟨nofun, nofun, nofun⟩ rfl nofun rfl rfl rfl rfl)
    · exact .refl s

theorem dumpCycleStart_keeps (s : State) : Answers s (execDumpCycleStart s) := by
  unfold execDumpCycleStart
  split
  case h_1 => exact .refl s
  case h_2 e rest ht =>
    split
    · exact (startFront_keeps (fun h => { h with
        cycle := some (newCycle .dump (some e)), head := .cut, timer := .running s.tables.constants.headTimeout }) s
        ht ⟨nofun, nofun, nofun⟩ rfl nofun rfl rfl rfl rfl).steady (.updOut ({ · with cam := .phase .cut }) _)
    · exact .refl s

theorem freeDumpCycleStart_keeps (s : State) : Answers s (execFreeDumpCycleStart s) := by
  unfold execFreeDumpCycleStart
  split
  · exact (updHdc_keeps (fun h => { h with
      cycle := some (newCycle .freeDump none), head := .cut, timer := .running s.tables.constants.headTimeout }) s
      rfl rfl rfl rfl (fun _ => .free ⟨nofun, nofun, nofun⟩ rfl)).steady (.updOut ({ · with cam := .phase .cut }) _)
  · exact .refl s

/-- A head state that is none of a cycle's says that there is no cycle. -/
theorem View.CycleRight.none_of_head {v : View} (h : v.CycleRight) (hh : ¬ v.head.inCycle) : v.cycle = none := by
  cases hc : v.cycle with
  | none => rfl
  | some c =>
    obtain ⟨h1, h2, h3, -⟩ := h c hc
    exact absurd ⟨h1, h2, h3⟩ hh

/-- With no cycle running before, the head may go anywhere. -/
theorem leaveState_keeps (f : Hdc → Hdc) (s : State) (hh : ¬ s.hdc.head.inCycle) (hc : (f s.hdc).cycle = s.hdc.cycle)
    (hi : (f s.hdc).inserted = s.hdc.inserted) (hd : (f s.hdc).dumped = s.hdc.dumped)
    (hl : (f s.hdc).lost = s.hdc.lost) (ha : (f s.hdc).aborted = s.hdc.aborted) : Keeps s (s.updHdc f) :=
  updHdc_keeps f s hi hd hl ha fun h => .absent (by
    have hnone : (view s).cycle = none := h.none_of_head hh
    show (f s.hdc).cycle.map HeadCycle.ids = none
    rw [hc]
    exact hnone)

theorem homingStart_keeps (s : State) : Answers s (execHomingStart s) := by
  unfold execHomingStart
  split
  case isTrue h =>
    exact (leaveState_keeps ({ · with head := .homing, timer := .running s.tables.constants.headTimeout }) s
      (by rw [h.1]; exact fun hp => hp.2.1 rfl) rfl rfl rfl rfl rfl).steady
        ((Steady.updOut _ _).trans (.updOut _ _))
  case isFalse => exact .refl s

theorem homeDone_keeps (s : State) : Answers s (execHomeDone s) := by
  unfold execHomeDone
  split
  case isTrue h =>
    exact (leaveState_keeps _ s (by rw [h]; exact fun hp => hp.2.2 rfl) rfl rfl rfl rfl rfl).trans (askPin_keeps _)
  case isFalse => exact .refl s

/-! ### SETUP and the phases -/

theorem axisInPosition_keeps (axis : HeadAxis) (s : State) : Answers s (execAxisInPosition axis s) := by
  unfold execAxisInPosition
  split
  case h_2 => exact .refl s
  case h_1 c _ hc =>
    split
    case h_2 => exact .refl s
    case h_1 e _ =>
      split
      case isFalse => exact .refl s
      case isTrue =>
        unfold axisReported
        have hreported : ∀ f : Hdc → Hdc, (f s.hdc).head = s.hdc.head →
            (f s.hdc).cycle.map HeadCycle.ids = some c.ids → (f s.hdc).inserted = s.hdc.inserted →
            (f s.hdc).dumped = s.hdc.dumped → (f s.hdc).lost = s.hdc.lost → (f s.hdc).aborted = s.hdc.aborted →
            Keeps s (s.updHdc f) := fun f hh hids hi hd hl ha =>
          (updHdc_steady f s hh (by rw [hids, hc]; rfl) hi hd hl ha).keeps
        cases axis <;> simp only [] <;> split
        · exact hreported _ rfl rfl rfl rfl rfl rfl
        · exact (enterPhase_keeps .cut _ ⟨nofun, nofun, nofun⟩).after (hreported _ rfl rfl rfl rfl rfl rfl)
        · exact hreported _ rfl rfl rfl rfl rfl rfl
        · exact (enterPhase_keeps .cut _ ⟨nofun, nofun, nofun⟩).after (hreported _ rfl rfl rfl rfl rfl rfl)

/-- A cycle that ends with no outcome. -/
theorem dropCycle_keeps (f : Hdc → Hdc) (s : State) (hc : (f s.hdc).cycle = none)
    (hi : (f s.hdc).inserted = s.hdc.inserted) (hd : (f s.hdc).dumped = s.hdc.dumped)
    (hl : (f s.hdc).lost = s.hdc.lost) (ha : (f s.hdc).aborted = s.hdc.aborted) : Keeps s (s.updHdc f) :=
  updHdc_keeps f s hi hd hl ha fun _ => .absent (by
    show (f s.hdc).cycle.map HeadCycle.ids = none
    rw [hc]; rfl)

theorem failSetup_keeps (s : State) : Keeps s (failSetup s) := by
  unfold failSetup
  exact (((retestFront_steady _).after (.updOut _ _)).keeps).after (dropCycle_keeps _ s rfl rfl rfl rfl rfl)

theorem spanFault_keeps (s : State) : Answers s (execSpanFault s) := by
  unfold execSpanFault
  split
  · exact (post_steady _ _ s).keeps.trans (failSetup_keeps _)
  · exact .refl s

theorem cutDone_keeps (s : State) : Answers s (execCutDone s) := by
  unfold execCutDone
  split
  · exact enterPhase_keeps .form s ⟨nofun, nofun, nofun⟩
  · exact .refl s

theorem formDone_keeps (s : State) : Answers s (execFormDone s) := by
  unfold execFormDone
  split
  case h_1 c _ hc =>
    split
    case h_1 e _ he => exact driveTest_keeps s hc he
    case h_2 => exact enterPhase_keeps .eject s ⟨nofun, nofun, nofun⟩
  case h_2 => exact .refl s

theorem ejectDone_keeps (s : State) : Answers s (execEjectDone s) := by
  unfold execEjectDone
  split
  · exact enterPhase_keeps .retract s ⟨nofun, nofun, nofun⟩
  · exact .refl s

theorem markingNoticeHdc_keeps (s : State) : Answers s (execMarkingNoticeHdc s) := by
  unfold execMarkingNoticeHdc
  split
  case h_1 => exact .refl s
  case h_2 m rest _ =>
    have htaken : Keeps s (s.updHdc ({ · with marks := rest })) :=
      (updHdc_steady _ s rfl rfl rfl rfl rfl rfl).keeps
    simp only []
    split
    case h_1 e _ he =>
      split
      · obtain ⟨c, hc, hce⟩ := Option.bind_eq_some_iff.mp he
        exact htaken.trans (turnToDump_keeps _ (c := c) hc hce)
      · exact htaken
    case h_2 => exact htaken

theorem skipButton_keeps (s : State) : Answers s (execSkipButton s) := by
  unfold execSkipButton
  split
  · split
    · exact (discardFront_steady s).keeps
    · exact (updHdc_steady _ s rfl rfl rfl rfl rfl rfl).keeps
    · exact .refl s
  · exact .refl s

/-! ### Ends of cycles -/

/-- The outcomes of entries that end in the head (R97, R100). -/
def RecordOutcome.ofHead (o : RecordOutcome) : Prop := o = .inserted ∨ o = .dumped ∨ o = .lost ∨ o = .aborted

theorem kindOutcome_ofHead (k : CycleKind) : (kindOutcome k).ofHead := by
  cases k
  · exact .inl rfl
  · exact .inr (.inl rfl)
  · exact .inr (.inl rfl)

theorem abortOutcome_ofHead (h : HeadState) (k : CycleKind) : (abortOutcome h k).ofHead := by
  cases h
  case cut | form => exact .inr (.inr (.inl rfl))
  case eject => exact .inr (.inl rfl)
  case retract => exact kindOutcome_ofHead k
  all_goals exact .inr (.inr (.inr rfl))

/-- R97 step 3, R100: one counter of the balance goes up. -/
theorem countOutcome_ended (o : RecordOutcome) (s : State) (ho : o.ofHead) :
    (view (countOutcome o s)).counts.ended = (view s).counts.ended + 1
      ∧ (view (countOutcome o s)).counts.taken = (view s).counts.taken := by
  rcases ho with rfl | rfl | rfl | rfl <;> refine ⟨?_, rfl⟩ <;>
    simp only [Counts.ended, view, countOutcome, updHdc_hdc, updHdc_pin, updHdc_tpc] <;> ac_rfl

theorem countOutcome_safe (o : RecordOutcome) (s : State) : Safe s (countOutcome o s) := ⟨id, id, id, id⟩

theorem finishNotice_steady (o : RecordOutcome) (e : Entry) (s : State) : Steady s (finishNotice o e s) := by
  unfold finishNotice
  split
  · exact .of_eq rfl rfl rfl rfl
  · exact .refl s

/-- What follows the front entry's leaving: counter, record, notice. -/
theorem leaveFront_cases (s : State) : (s.tpc.tape = [] ∧ leaveFront s = s)
    ∨ ∃ e rest, s.tpc.tape = e :: rest ∧ Steady (s.updTpc ({ · with tape := rest })) (leaveFront s) := by
  unfold leaveFront
  split
  case h_1 h => exact .inl ⟨h, rfl⟩
  case h_2 e rest h => exact .inr ⟨e, rest, h, (heldTest_steady _).after (withdraw_steady _ _)⟩

theorem leaveFront_safe (s : State) : Safe s (leaveFront s) := by
  rcases leaveFront_cases s with ⟨-, h⟩ | ⟨e, rest, -, h⟩
  · rw [h]; exact .refl s
  · exact h.keeps.toSafe.after ⟨id, id, id, id⟩

theorem finishEntry_safe (o : RecordOutcome) (c : HeadCycle) (s : State) : Safe s (finishEntry o c s) := by
  unfold finishEntry
  split
  · exact .refl s
  · exact (finishNotice_steady _ _ _).keeps.toSafe.after ((writeRecord_keeps _ _).toSafe.after
      ((countOutcome_safe o _).after (leaveFront_safe s)))

theorem endCycleWith_safe (o : RecordOutcome) (c : HeadCycle) (s : State) : Safe s (endCycleWith o c s) := by
  unfold endCycleWith
  split
  · exact ⟨id, id, id, id⟩
  · exact finishEntry_safe o c s

/-- R97, R100: the front entry leaves the tape and its outcome is counted: the balance holds, and nothing is said of the
cycle, which ends next. -/
theorem finishEntry_balanced (o : RecordOutcome) (c : HeadCycle) (s : State) (ho : o.ofHead)
    (hc : s.hdc.cycle = some c) (hk : c.kind ≠ .freeDump) (h : AccountInv s) :
    (view (finishEntry o c s)).Balanced ∧ SeqInv (finishEntry o c s) := by
  have ⟨_, _, hcycle, _⟩ := h
  obtain ⟨-, -, -, -, hentry⟩ := hcycle c hc
  obtain ⟨e, f, rest, he, htape, -⟩ := hentry hk
  obtain ⟨hb, -, hq⟩ := (accountInv_iff s).mp h
  rcases leaveFront_cases s with ⟨hnone, -⟩ | ⟨g, rest', hcons, hleft⟩
  · rw [htape] at hnone; contradiction
  obtain ⟨rfl, rfl⟩ := List.cons_eq_cons.mp (htape.symm.trans hcons)
  unfold finishEntry
  rw [he]
  have hnotice := finishNotice_steady o e.entry (writeRecord (entryRecord o e.entry e.captured.station
    (if o = .inserted then signatureOf c else none)) (countOutcome o (leaveFront s)))
  have hnext : (leaveFront s).nextUid = s.nextUid := congrArg View.nextUid hleft.sameView
  obtain ⟨hended, htaken⟩ := countOutcome_ended o (leaveFront s) ho
  refine ⟨?_, hnotice.seq (hleft.seq hq)⟩
  show (view (finishNotice _ _ _)).Balanced
  rw [hnotice.sameView]
  refine hb.ends f.entry.uid ?_ ?_ ?_ ?_
  · show (windowIds s.csq ++ tapeIds s.tpc).Perm (_ :: (windowIds (leaveFront s).csq ++ tapeIds (leaveFront s).tpc))
    rw [show windowIds (leaveFront s).csq = windowIds s.csq from congrArg View.windowIds hleft.sameView,
      show tapeIds (leaveFront s).tpc = rest.map (·.entry.uid) from congrArg View.tapeIds hleft.sameView]
    simp only [tapeIds, htape, List.map_cons]
    exact List.perm_middle
  · exact htaken.trans (congrArg (fun v => v.counts.taken) hleft.sameView)
  · exact hended.trans (congrArg (fun v => v.counts.ended + 1) hleft.sameView)
  · exact hnext

theorem endCycleWith_balanced (o : RecordOutcome) (c : HeadCycle) (s : State) (ho : o.ofHead)
    (hc : s.hdc.cycle = some c) (h : AccountInv s) :
    (view (endCycleWith o c s)).Balanced ∧ SeqInv (endCycleWith o c s) := by
  unfold endCycleWith
  split
  case h_1 =>
    obtain ⟨hb, -, hq⟩ := (accountInv_iff s).mp h
    exact ⟨hb.perm (.refl _) rfl rfl, hq⟩
  case h_2 hk => exact finishEntry_balanced o c s ho hc hk h

/-- R97, R100: a cycle ends with its entry's outcome. -/
theorem endCycle_keeps (o : RecordOutcome) (c : HeadCycle) (s : State) (f : Hdc → Hdc) (ho : o.ofHead)
    (hc : s.hdc.cycle = some c) (hnone : ∀ h, (f h).cycle = none) (hi : ∀ h, (f h).inserted = h.inserted)
    (hd : ∀ h, (f h).dumped = h.dumped) (hl : ∀ h, (f h).lost = h.lost) (ha : ∀ h, (f h).aborted = h.aborted) :
    Keeps s ((endCycleWith o c s).updHdc f) where
  toSafe := (endCycleWith_safe o c s).trans ⟨id, id, id, id⟩
  account := by
    intro h
    obtain ⟨hb, hq⟩ := endCycleWith_balanced o c s ho hc h
    rw [accountInv_iff]
    refine ⟨hb.perm (.refl _) ?_ rfl, .absent ?_, hq⟩
    · simp only [view, updHdc_pin, updHdc_tpc, updHdc_hdc, hi, hd, hl, ha]
    · simp [view, hnone]

theorem headUp_keeps (s : State) : Answers s (execHeadUp s) := by
  unfold execHeadUp
  split
  case h_1 c _ hc =>
    exact (askPin_keeps _).after (endCycle_keeps _ c s _ (kindOutcome_ofHead _) hc (fun _ => rfl) (fun _ => rfl)
      (fun _ => rfl) (fun _ => rfl) (fun _ => rfl))
  case h_2 => exact .refl s

/-- R111, R112: a window that closes leaves no window to bound. -/
theorem shutWindow_keeps (s : State) : Keeps s (shutWindow s) where
  toSafe := ⟨id, id, fun ⟨hk, hw, hf, _⟩ => ⟨hk, hw, hf, nofun⟩, id⟩
  account := id

theorem abortCycle_keeps (c : HeadCycle) (s : State) (hc : s.hdc.cycle = some c) : Keeps s (abortCycle c s) := by
  unfold abortCycle
  refine (Steady.updOut _ _).keeps.after (Keeps.after ?_ (shutWindow_keeps s))
  exact endCycle_keeps _ c (shutWindow s) _ (abortOutcome_ofHead _ _) hc (fun _ => rfl) (fun _ => rfl) (fun _ => rfl)
    (fun _ => rfl) (fun _ => rfl)

/-- R102: homing fails; no cycle ran. -/
theorem failHoming_keeps (s : State) (h : s.hdc.head = .homing) : Keeps s (failHoming s) :=
  (leaveState_keeps _ s (by rw [h]; exact fun hp => hp.2.2 rfl) rfl rfl rfl rfl rfl).steady (.updOut _ _)

theorem phaseTimeout_keeps (s : State) : Answers s (execPhaseTimeout s) := by
  have hhdc : (post .headJam none s).hdc = s.hdc := (post_frame .headJam none s).2.2.2.2.1
  unfold execPhaseTimeout
  split
  case isFalse => exact .refl s
  case isTrue =>
    split
    case h_1 _ hhead => exact (post_steady _ _ s).keeps.trans (failHoming_keeps _ (by rw [hhdc]; exact hhead))
    case h_2 c hc _ =>
      split
      · exact (post_steady _ _ s).keeps.trans (abortCycle_keeps c _ (by rw [hhdc]; exact hc))
      · exact .refl s
    case h_3 => exact .refl s

theorem estopHead_keeps (s : State) : Keeps s (estopHead s) := by
  unfold estopHead
  split
  case h_1 => exact failSetup_keeps s
  case h_2 _ hhead => exact failHoming_keeps s hhead
  case h_3 c hc _ _ =>
    split
    · exact abortCycle_keeps c s hc
    · exact .refl s
  case h_4 => exact .refl s

end Sys2Proof.Machine
end

section
/-! PROOF. The commands of the clinch signature and of the table keep the invariants (Sys2Proof/Machine/Clinch, Table). -/

namespace Sys2Proof.Machine

/-! ### Bounds of a measurement (R113 to R116, R118) -/

theorem saturate16_le (v : Int) : saturate16 v ≤ 32767 := by
  unfold saturate16
  split
  · decide
  · split
    · exact Int.le_refl _
    · omega

theorem filterFrom_le (f : FilterSet) (w1 w2 : Int) (xs : List Int) : ∀ y ∈ filterFrom f w1 w2 xs, y ≤ 32767 := by
  induction xs generalizing w1 w2 with
  | nil => exact fun y h => absurd h List.not_mem_nil
  | cons x rest ih =>
    intro y hy
    rcases List.mem_cons.mp hy with rfl | hy
    · exact saturate16_le _
    · exact ih _ _ y hy

theorem filtered_le (f : FilterSet) (xs : List Int) (h : ∀ x ∈ xs, x ≤ 32767) : ∀ y ∈ filtered f xs, y ≤ 32767 := by
  unfold filtered
  split
  · exact h
  · exact filterFrom_le f 0 0 xs

theorem peakOf_le (ys : List Int) (b : Int) (hb : 0 ≤ b) (h : ∀ y ∈ ys, y ≤ b) : peakOf ys ≤ b := by
  induction ys with
  | nil => exact hb
  | cons y rest ih =>
    have hrest := ih (fun z hz => h z (List.mem_cons_of_mem y hz))
    cases rest with
    | nil => exact h y List.mem_cons_self
    | cons z more => exact max_le (h y List.mem_cons_self) hrest

/-- R110, R115, R116: samples of 12 bits give a peak of 16. -/
theorem measure_peak_le (w : SampleWindow) (h : ∀ c ∈ w.samples, c ≤ 4095) : (measure w).peak ≤ 32767 := by
  refine peakOf_le _ _ (by decide) (filtered_le _ _ fun x hx => ?_)
  obtain ⟨c, hc, rfl⟩ := List.mem_map.mp hx
  have hle := h c (List.mem_of_mem_drop hc)
  have hbase : 0 ≤ baselineOf w.samples := Int.natCast_nonneg _
  omega

/-- R118: an accumulator stays in its range. -/
theorem wearNext_le (acc : Nat) (peak : Int) (ha : acc ≤ 524272) (hp : peak ≤ 32767) : wearNext acc peak ≤ 524272 := by
  unfold wearNext
  omega

/-! ### Closing a window -/

/-- All that Keeps says but for the signature invariant. -/
structure Others (s t : State) : Prop where
  bounds : BoundsInv s → BoundsInv t
  chain : ChainInv s → ChainInv t
  panel : PanelInv s → PanelInv t
  account : AccountInv s → AccountInv t

theorem Others.trans {s t u : State} (h : Others s t) (k : Others t u) : Others s u :=
  ⟨k.bounds ∘ h.bounds, k.chain ∘ h.chain, k.panel ∘ h.panel, k.account ∘ h.account⟩

theorem Keeps.others {s t : State} (h : Keeps s t) : Others s t := ⟨h.bounds, h.chain, h.panel, h.account⟩

theorem updCsu_others (f : Csu → Csu) (s : State) : Others s (s.updCsu f) := ⟨id, id, id, id⟩

theorem updCsu_keeps (f : Csu → Csu) (s : State) (h : SignatureInv s → SignatureInv (s.updCsu f)) :
    Keeps s (s.updCsu f) := ⟨⟨id, id, h, id⟩, id⟩

theorem handVerdict_steady (v : Verdict) (f : Option Features) (s : State) : Steady s (handVerdict v f s) :=
  updHdc_steady _ s rfl (by rw [Option.map_map]; rfl) rfl rfl rfl rfl

theorem actPolicy_steady (w : SampleWindow) (s : State) : Steady s (actPolicy w s) := by
  unfold actPolicy
  split
  · exact postClinchFault_steady _ _ s
  · exact postClinchFault_steady _ _ s
  · exact rejectImage_steady _ _ s

theorem repeatTest_others (n : Nat) (s : State) : Others s (repeatTest n s) := by
  unfold repeatTest
  split
  · exact (updCsu_others _ s).trans (post_steady _ _ _).keeps.others
  · exact (Keeps.refl s).others

/-- R120: below the repeat limit the fault count is at most 8; at the limit it starts again. -/
theorem repeatTest_signature (n : Nat) (s : State) (hk : ConstantsInRange s.tables.constants)
    (hw : ∀ a ∈ s.csu.wear, a ≤ 524272) (ho : ∀ w, s.csu.window = some w →
      w.samples.length < 4 + w.profile.windowLength ∧ ∀ c ∈ w.samples, c ≤ 4095) : SignatureInv (repeatTest n s) := by
  have hlimit : s.tables.constants.repeatLimit ≤ 9 := by
    obtain ⟨_, _, _, _, _, _, _, _, _, _, _, _, _, _, _, _, _, _, _, _, _, _, _, _, h⟩ := hk
    exact h
  unfold repeatTest
  split
  · exact (post_steady _ _ _).keeps.signature ⟨hk, hw, Nat.zero_le _, ho⟩
  · exact ⟨hk, hw, by omega, ho⟩

/-- R119: a fault that is counted, acted on and tested for repeats. -/
theorem countFault_keeps (w : SampleWindow) (s u : State)
    (h : Steady (s.updCsu (fun c => { c with faults := c.faults + 1 })) u) : Keeps s (repeatTest w.profileNo u) := by
  have hothers := ((updCsu_others (fun c => { c with faults := c.faults + 1 }) s).trans h.keeps.others).trans
    (repeatTest_others w.profileNo u)
  refine ⟨⟨hothers.bounds, hothers.chain, fun ⟨hk, hw, _, ho⟩ => ?_, hothers.panel⟩, hothers.account⟩
  have hconst : u.tables.constants = s.tables.constants := congrArg View.constants h.sameView
  have hwear : u.csu.wear = s.csu.wear := congrArg View.csuWear h.sameView
  have hwin : u.csu.window = s.csu.window := congrArg View.csuWindow h.sameView
  exact repeatTest_signature _ u (hconst ▸ hk) (hwear ▸ hw) (hwin ▸ ho)

theorem handleVerdict_keeps (v : Verdict) (w : SampleWindow) (s : State) : Keeps s (handleVerdict v w s) := by
  unfold handleVerdict
  split
  · exact updCsu_keeps _ s (fun ⟨hk, hw, _, ho⟩ => ⟨hk, hw, Nat.zero_le _, ho⟩)
  · exact .refl s
  · refine countFault_keeps w s _ ((actPolicy_steady w _).after ?_)
    split
    · exact post_steady _ _ _
    · exact .refl _

theorem wearUpdate_others (w : SampleWindow) (peak : Int) (s : State) : Others s (wearUpdate w peak s) := by
  unfold wearUpdate
  simp only []
  split
  · exact (updCsu_others _ s).trans (post_steady _ _ _).keeps.others
  · exact updCsu_others _ s

theorem wearUpdate_signature (w : SampleWindow) (peak : Int) (s : State) (hp : peak ≤ 32767) (h : SignatureInv s) :
    SignatureInv (wearUpdate w peak s) := by
  obtain ⟨hk, hw, hf, ho⟩ := h
  have hacc : s.csu.wear.getD w.profileNo 0 ≤ 524272 := by
    rw [List.getD_eq_getElem?_getD]
    cases hg : s.csu.wear[w.profileNo]? with
    | none => exact Nat.zero_le _
    | some a => exact hw a (List.mem_of_getElem? hg)
  have hset : SignatureInv (s.updCsu (fun c =>
      { c with wear := c.wear.set w.profileNo (wearNext (s.csu.wear.getD w.profileNo 0) peak) })) := by
    refine ⟨hk, fun a ha => ?_, hf, ho⟩
    rcases List.mem_or_eq_of_mem_set ha with ha | rfl
    · exact hw a ha
    · exact wearNext_le _ _ hacc hp
  unfold wearUpdate
  simp only []
  split
  · exact (post_steady _ _ _).keeps.signature hset
  · exact hset

/-- R118: the wear update of a window that was measured, after a verdict that wears. -/
def wearOf (m : Option Measurement) (v : Verdict) (w : SampleWindow) (s : State) : State :=
  match m with
  | some m => if v.wears then wearUpdate w m.peak s else s
  | none => s

theorem wearOf_others (m : Option Measurement) (v : Verdict) (w : SampleWindow) (s : State) :
    Others s (wearOf m v w s) := by
  cases m with
  | none => exact (Keeps.refl s).others
  | some m =>
    unfold wearOf
    simp only []
    split
    · exact wearUpdate_others w _ s
    · exact (Keeps.refl s).others

theorem wearOf_signature (m : Option Measurement) (v : Verdict) (w : SampleWindow) (s : State)
    (hm : ∀ x, m = some x → x.peak ≤ 32767) (h : SignatureInv s) : SignatureInv (wearOf m v w s) := by
  cases m with
  | none => exact h
  | some m =>
    unfold wearOf
    simp only []
    split
    · exact wearUpdate_signature w _ s (hm m rfl) h
    · exact h

/-- R111, R117, R121: the steps of a window's end, one after another. -/
theorem closeWindow_eq (w : SampleWindow) (s : State) : ∃ v last f,
    closeWindow w s = handleVerdict v w (wearOf (if w.samples.length < 5 then none else some (measure w)) v w
      ((handVerdict v f (shutWindow s)).updCsu ({ · with last := last }))) := ⟨_, _, _, rfl⟩

theorem setLast_steady (last : Option Signature) (s : State) : Steady s (s.updCsu ({ · with last := last })) :=
  .of_eq rfl rfl rfl rfl

/-- R111: a window closes; the other invariants do not depend on what was sampled. -/
theorem closeWindow_others (w : SampleWindow) (s : State) : Others s (closeWindow w s) := by
  obtain ⟨v, last, f, heq⟩ := closeWindow_eq w s
  rw [heq]
  have hhanded := (shutWindow_keeps s).steady ((handVerdict_steady v f _).trans (setLast_steady last _))
  exact (hhanded.others.trans (wearOf_others _ v w _)).trans (handleVerdict_keeps v w _).others

/-- R110, R118, R120: a window of 12-bit samples closes on accumulators in range. -/
theorem closeWindow_signature (w : SampleWindow) (s : State) (hk : ConstantsInRange s.tables.constants)
    (hw : ∀ a ∈ s.csu.wear, a ≤ 524272) (hf : s.csu.faults ≤ 8) (hs : ∀ c ∈ w.samples, c ≤ 4095) :
    SignatureInv (closeWindow w s) := by
  obtain ⟨v, last, f, heq⟩ := closeWindow_eq w s
  rw [heq]
  have hshut : SignatureInv (shutWindow s) := ⟨hk, hw, hf, nofun⟩
  have hhanded := ((handVerdict_steady v f _).trans (setLast_steady last _)).keeps.signature hshut
  refine (handleVerdict_keeps v w _).signature (wearOf_signature _ v w _ (fun x hx => ?_) hhanded)
  split at hx
  · contradiction
  · obtain rfl := Option.some.inj hx
    exact measure_peak_le w hs

/-- R111: the OPEN window closes. -/
theorem closeOpen_keeps (w : SampleWindow) (s : State) (h : s.csu.window = some w) : Keeps s (closeWindow w s) := by
  have hothers := closeWindow_others w s
  refine ⟨⟨hothers.bounds, hothers.chain, fun ⟨hk, hw, hf, ho⟩ => ?_, hothers.panel⟩, hothers.account⟩
  exact closeWindow_signature w s hk hw hf (ho w h).2

theorem forceSample_keeps (code : BitVec 12) (s : State) : Answers s (execForceSample code s) := by
  unfold execForceSample
  split
  case h_1 => exact .refl s
  case h_2 w hwin =>
    extract_lets w1 s1
    have hsamples : SignatureInv s → ∀ c ∈ w1.samples, c ≤ 4095 := by
      rintro ⟨-, -, -, ho⟩ c hc
      rcases List.mem_append.mp hc with hc | hc
      · exact (ho w hwin).2 c hc
      · obtain rfl := List.mem_singleton.mp hc
        have := code.isLt
        omega
    have hsampled : Others s s1 := updCsu_others _ s
    refine Keeps.next ?_
    split
    case isTrue =>
      have hothers := hsampled.trans (closeWindow_others w1 s1)
      refine ⟨⟨hothers.bounds, hothers.chain, fun h => ?_, hothers.panel⟩, hothers.account⟩
      exact closeWindow_signature w1 s1 h.1 h.2.1 h.2.2.1 (hsamples h)
    case isFalse hopen =>
      refine updCsu_keeps _ s fun h => ⟨h.1, h.2.1, h.2.2.1, fun x hx => ?_⟩
      obtain rfl := Option.some.inj hx
      exact ⟨Nat.lt_of_not_le hopen, hsamples h⟩

theorem silenceTimeout_keeps (s : State) : Answers s (execSilenceTimeout s) := by
  unfold execSilenceTimeout
  split
  case h_1 => exact .refl s
  case h_2 w hwin =>
    refine Keeps.next ?_
    split
    · exact closeOpen_keeps w s hwin
    · exact .refl s

theorem clinchDone_keeps (s : State) : Answers s (execClinchDone s) := by
  unfold execClinchDone
  split
  · refine (enterPhase_keeps .retract _ ⟨nofun, nofun, nofun⟩).after ?_
    unfold closeIfOpen
    split
    case h_1 => exact .refl s
    case h_2 w hwin => exact closeOpen_keeps w s hwin
  · exact .refl s

/-- R109: a window opens with no sample. -/
theorem clinchBegin_keeps (e : TapeEntry) (s : State) : Keeps s (clinchBegin e s) := by
  unfold clinchBegin
  split
  · exact (handVerdict_steady _ _ s).keeps
  · split
    · exact .refl s
    · refine (Steady.updOut _ _).keeps.after (updCsu_keeps _ s fun ⟨hk, hw, hf, _⟩ => ⟨hk, hw, hf, fun x hx => ?_⟩)
      obtain rfl := Option.some.inj hx
      exact ⟨Nat.lt_of_lt_of_le (by decide : 0 < 4) (Nat.le_add_right 4 _), fun c hc => absurd hc List.not_mem_nil⟩

theorem driveDone_keeps (s : State) : Answers s (execDriveDone s) := by
  unfold execDriveDone
  split
  · split
    · exact ((enterPhase_keeps .clinch s ⟨nofun, nofun, nofun⟩).steady (.updOut _ _)).trans (clinchBegin_keeps _ _)
    · exact .refl s
  · exact .refl s

/-! ### The handler and the panel -/

/-- A change of TBC is a matter of the panel invariant alone. -/
theorem updTbc_keeps (f : Tbc → Tbc) (s : State) (h : PanelInv s → PanelInv (s.updTbc f)) : Keeps s (s.updTbc f) :=
  ⟨⟨id, id, id, h⟩, id⟩

/-- R128: the panel state that goes with a handler operation. -/
def HandlerOp.fits (p : PanelState) : HandlerOp → Prop
  | .release => p = .empty ∨ p = .unloading
  | .load => p = .loading

/-- R128: the two clauses of PanelInv about the handler, as one. -/
theorem panelInv_iff (s : State) : PanelInv s ↔
    (s.pin.takePanel = s.tbc.current ∨ s.pin.takePanel = s.tbc.current + 1)
    ∧ (s.tbc.panel = .empty ∨ s.tbc.panel = .unloading → s.pin.takePanel = s.tbc.current + 1)
    ∧ (∀ op, s.tbc.handler.map HandlerOperation.op = some op → op.fits s.tbc.panel)
    ∧ (∀ m n, s.tbc.move = some m → m.kind = .survey n → s.tbc.panel = .survey) := by
  constructor
  · rintro ⟨h1, h2, h3, h4, h5⟩
    refine ⟨h1, h2, fun op hop => ?_, h5⟩
    cases op
    case release => exact h3 hop
    case load => exact h4 hop
  · rintro ⟨h1, h2, h3, h4⟩
    exact ⟨h1, h2, h3 .release, h3 .load, h4⟩

/-- R128: an operation that goes with the panel state is commanded or put in another phase. -/
theorem setHandler_panel (f : Tbc → Tbc) (s : State) (op : HandlerOp)
    (hop : (f s.tbc).handler.map HandlerOperation.op = some op) (hfits : PanelInv s → op.fits s.tbc.panel)
    (hp : (f s.tbc).panel = s.tbc.panel) (hc : (f s.tbc).current = s.tbc.current) (hm : (f s.tbc).move = s.tbc.move) :
    PanelInv s → PanelInv (s.updTbc f) := by
  intro hinv
  obtain ⟨h1, h2, -, h4⟩ := (panelInv_iff s).mp hinv
  rw [panelInv_iff]
  simp only [updTbc_tbc, updTbc_pin, hp, hc, hm]
  refine ⟨h1, h2, fun op' h => ?_, h4⟩
  obtain rfl := Option.some.inj (hop.symm.trans h)
  exact hfits hinv

theorem commandHandler_keeps (op : HandlerOp) (s : State) (hfits : PanelInv s → op.fits s.tbc.panel) :
    Keeps s (commandHandler op s) := by
  unfold commandHandler
  extract_lets full s1
  have hline : Keeps s s1 := (Steady.updOut _ s).keeps
  split
  · exact hline.trans (updTbc_keeps _ _ (setHandler_panel _ s1 op rfl hfits rfl rfl rfl))
  · exact hline.trans (updTbc_keeps _ _ (setHandler_panel _ s1 op rfl hfits rfl rfl rfl))

/-- R128: an operation that runs, waits or has stalled goes with the panel state. -/
theorem PanelInv.fits {s : State} (h : PanelInv s) {op : HandlerOp} {p : HandlerPhase}
    (hh : s.tbc.handler = some ⟨op, p⟩) : op.fits s.tbc.panel :=
  ((panelInv_iff s).mp h).2.2.1 op (by rw [hh]; rfl)

/-- R128: the operation that stands goes to another phase. -/
theorem sameHandler_keeps (f : Tbc → Tbc) (s : State)
    (hop : (f s.tbc).handler.map HandlerOperation.op = s.tbc.handler.map HandlerOperation.op)
    (hp : (f s.tbc).panel = s.tbc.panel) (hc : (f s.tbc).current = s.tbc.current) (hm : (f s.tbc).move = s.tbc.move) :
    Steady s (s.updTbc f) :=
  .of_eq (by simp only [view, updTbc_tbc, hop, hp, hc, hm]; rfl) rfl rfl rfl

theorem handlerTimeout_keeps (s : State) : Answers s (execHandlerTimeout s) := by
  unfold execHandlerTimeout
  split
  case h_1 op hh =>
    split
    · exact Steady.next ((post_steady _ _ _).after ((Steady.updOut _ _).after
        (sameHandler_keeps _ s (by rw [hh]; rfl) rfl rfl rfl)))
    · exact .refl s
  case h_2 => exact .refl s

theorem handlerRestart_keeps (s : State) : Answers s (execHandlerRestart s) := by
  unfold execHandlerRestart
  split
  case isFalse => exact .refl s
  case isTrue =>
    split
    case h_1 op hh =>
      exact Steady.next ((Steady.updOut _ _).after (sameHandler_keeps _ s (by rw [hh]; rfl) rfl rfl rfl))
    case h_2 op hh =>
      split
      · exact commandHandler_keeps op s (fun h => h.fits hh)
      · exact .refl s
    case h_3 => exact .refl s

/-- R128: an operation that ends leaves the panel in its next state; nothing else moves. -/
theorem endHandler_panel (p : PanelState) (s : State)
    (hp : p = .empty ∨ p = .unloading → s.tbc.panel = .empty ∨ s.tbc.panel = .unloading)
    (hs : s.tbc.panel ≠ .survey) : PanelInv s → PanelInv (endHandler p s) := by
  rw [panelInv_iff, panelInv_iff]
  rintro ⟨h1, h2, -, h4⟩
  exact ⟨h1, fun h => h2 (hp h), nofun, fun m n hm hk => absurd (h4 m n hm hk) hs⟩

theorem clamped_keeps (s : State) : Answers s (execClamped s) := by
  unfold execClamped
  split
  case h_1 p hh =>
    refine updTbc_keeps _ s fun h => endHandler_panel _ s (fun hend => ?_) ?_ h
    · split at hend <;> rcases hend with hend | hend <;> contradiction
    · have hfits : s.tbc.panel = .loading := h.fits hh
      rw [hfits]; decide
  case h_2 => exact .refl s

theorem released_keeps (s : State) : Answers s (execReleased s) := by
  unfold execReleased
  split
  case h_1 p hh =>
    refine updTbc_keeps _ s fun h => ?_
    have hfits : s.tbc.panel = .empty ∨ s.tbc.panel = .unloading := h.fits hh
    refine endHandler_panel .empty s (fun _ => hfits) ?_ h
    rcases hfits with hp | hp <;> rw [hp] <;> decide
  case h_2 => exact .refl s

/-- R134 to R136: a move that ends. -/
theorem endMove_keeps (f : Tbc → Tbc) (s : State) (hop : (f s.tbc).handler = s.tbc.handler)
    (hp : (f s.tbc).panel = s.tbc.panel) (hc : (f s.tbc).current = s.tbc.current) (hm : (f s.tbc).move = none) :
    Keeps s (s.updTbc f) := by
  refine updTbc_keeps f s ?_
  unfold PanelInv
  simp only [updTbc_tbc, updTbc_pin, hop, hp, hc, hm]
  rintro ⟨h1, h2, h3, h4, -⟩
  exact ⟨h1, h2, h3, h4, nofun⟩

theorem haltTable_keeps (s : State) : Keeps s (haltTable s) :=
  (endMove_keeps _ s rfl rfl rfl rfl).steady (.updOut _ _)

theorem estopTable_keeps (s : State) : Keeps s (estopTable s) := by
  unfold estopTable
  extract_lets s1
  have hhalt : Keeps s s1 := haltTable_keeps s
  split
  case h_1 op hh =>
    exact hhalt.steady ((Steady.updOut _ _).after (sameHandler_keeps _ s1 (by rw [hh]; rfl) rfl rfl rfl))
  case h_2 => exact hhalt

theorem loadStart_keeps (s : State) : Answers s (execLoadStart s) := by
  unfold execLoadStart
  split
  case isFalse => exact .refl s
  case isTrue h =>
    have hempty : s.tbc.panel = .empty := by
      simp only [loadMayStart, Bool.and_eq_true, beq_iff_eq] at h
      exact h.1.1.1.1.1.1.1
    have hnone : s.tbc.handler = none := by
      simp only [loadMayStart, Bool.and_eq_true, Option.isNone_iff_eq_none] at h
      exact h.1.1.1.1.1.1.2
    refine Keeps.next ((retakeAsk_keeps _).after ((commandHandler_keeps .load _ ?_).after (updTbc_keeps _ s ?_)))
    · exact fun _ => rfl
    rw [panelInv_iff, panelInv_iff]
    rintro ⟨-, h2, -, h4⟩
    refine ⟨.inl (h2 (.inl hempty)), nofun, fun op hop => ?_, fun m n hm hk => ?_⟩
    · rw [updTbc_tbc, hnone] at hop
      contradiction
    · have hsurvey := h4 m n hm hk
      rw [hempty] at hsurvey
      contradiction

theorem unloadStart_keeps (s : State) : Answers s (execUnloadStart s) := by
  unfold execUnloadStart
  split
  case isFalse => exact .refl s
  case isTrue h =>
    simp only [unloadMayStart, panelComplete, Bool.and_eq_true, beq_iff_eq, Option.isNone_iff_eq_none] at h
    obtain ⟨⟨⟨⟨⟨⟨⟨hready, htake⟩, -⟩, -⟩, hnone⟩, -⟩, -⟩, -⟩ := h
    refine Keeps.next ((commandHandler_keeps .release _ (fun _ => .inr rfl)).after (updTbc_keeps _ s ?_))
    rw [panelInv_iff, panelInv_iff]
    rintro ⟨-, -, -, h4⟩
    refine ⟨.inr htake, fun _ => htake, fun op hop => ?_, fun m n hm hk => ?_⟩
    · rw [updTbc_tbc, hnone] at hop
      contradiction
    · have hsurvey := h4 m n hm hk
      rw [hready] at hsurvey
      contradiction

/-! ### Moves -/

/-- R129: a survey move starts in SURVEY. -/
theorem startMove_keeps (k : MoveKind) (q : Int × Int) (s : State) (hk : ∀ n, k = .survey n → s.tbc.panel = .survey) :
    Keeps s (startMove k q s) := by
  refine (Steady.updOut _ _).keeps.after (updTbc_keeps _ s ?_)
  rw [panelInv_iff, panelInv_iff]
  rintro ⟨h1, h2, h3, -⟩
  refine ⟨h1, h2, h3, fun m n hm hkind => hk n ?_⟩
  obtain rfl := Option.some.inj hm
  exact hkind

theorem surveyMoveStart_keeps (s : State) : Answers s (execSurveyMoveStart s) := by
  unfold execSurveyMoveStart
  split
  · split
    case isTrue h => exact startMove_keeps _ _ s (fun _ _ => h.1)
    case isFalse => exact .refl s
  · exact .refl s

theorem insertMoveStart_keeps (s : State) : Answers s (execInsertMoveStart s) := by
  unfold execInsertMoveStart
  split
  · split
    · exact startMove_keeps _ _ s nofun
    · exact .refl s
  · exact .refl s

/-- R129: in SURVEY no handler operation and no survey move holds the panel when it becomes READY. -/
theorem surveyNext_panel (n : Nat) (s : State) (hs : s.tbc.panel = .survey) (hm : s.tbc.move = none) :
    PanelInv s → PanelInv (surveyNext n s) := by
  unfold surveyNext
  rw [panelInv_iff, panelInv_iff]
  rintro ⟨h1, -, h3, -⟩
  have hidle : ∀ op, s.tbc.handler.map HandlerOperation.op = some op → False := by
    intro op hop
    have hfits := h3 op hop
    rw [hs] at hfits
    cases op
    · exact nomatch hfits
    · rcases hfits with h | h <;> exact nomatch h
  simp only [updTbc_tbc, updTbc_pin]
  split
  · refine ⟨h1, fun h => ?_, fun op hop => (hidle op hop).elim, fun m n h => ?_⟩
    · simp [hs] at h
    · simp [hm] at h
  · refine ⟨h1, fun h => ?_, fun op hop => (hidle op hop).elim, fun m n h => ?_⟩
    · simp at h
    · simp [hm] at h

/-- R129, R130: what the bad-mark sensor reports, before the survey goes on. -/
theorem markRead_steady (present : Bool) (n : Nat) (s : State) : Steady s (if present then
    post .badImage (some n) (if imageMarked s.tbc n then s else markImage n .bad s) else s) := by
  split
  · refine (post_steady _ _ _).after ?_
    split
    · exact .refl s
    · exact markImage_steady n .bad s
  · exact .refl s

/-- R133: an entry's number in the in-position record, with the DRIVE test it makes. -/
theorem reportInPosition_keeps (uid : Nat) (s : State) : Keeps s (reportInPosition uid s) := by
  have hreport : Keeps s (s.updTbc ({ · with inPosition := .entry uid })) := Steady.keeps (.of_eq rfl rfl rfl rfl)
  unfold reportInPosition
  simp only []
  split
  case h_1 e _ he =>
    split
    · obtain ⟨c, hc, hce⟩ := Option.bind_eq_some_iff.mp he
      exact hreport.trans (driveTest_keeps _ (c := c) hc hce)
    · exact hreport
  case h_2 => exact hreport

theorem inPosition_keeps (present : Bool) (s : State) : Answers s (execInPosition present s) := by
  unfold execInPosition
  split
  case h_1 => exact .refl s
  case h_2 m hm =>
    extract_lets s1
    have hended : Keeps s s1 := endMove_keeps _ s rfl rfl rfl rfl
    split
    case h_1 n hkind =>
      have himage : Steady s1 (s1.updTbc ({ · with inPosition := .image n })) := .of_eq rfl rfl rfl rfl
      have hread := himage.trans (markRead_steady present n _)
      have hpanel : _ = s.tbc.panel := congrArg View.panel hread.sameView
      have hmove : _ = none := congrArg View.move hread.sameView
      have hkeeps := hended.steady hread
      refine ⟨⟨hkeeps.bounds, hkeeps.chain, hkeeps.signature, fun h => ?_⟩, hkeeps.account⟩
      exact surveyNext_panel n _ (hpanel.trans (h.2.2.2.2 m n hm hkind)) hmove (hkeeps.panel h)
    case h_2 uid _ =>
      split
      · exact hended.trans (reportInPosition_keeps uid s1)
      · exact hended

theorem followingError_keeps (s : State) : Answers s (execFollowingError s) :=
  (haltTable_keeps s).steady (post_steady _ _ _)

theorem moveTimeout_keeps (s : State) : Answers s (execMoveTimeout s) := by
  unfold execMoveTimeout
  split
  · exact (haltTable_keeps s).steady (post_steady _ _ _)
  · exact .refl s

theorem limitActive_keeps (s : State) : Answers s (execLimitActive s) := by
  unfold execLimitActive
  split
  · have hlimit : Keeps s (s.updTbc ({ · with limits := .active })) := Steady.keeps (.of_eq rfl rfl rfl rfl)
    exact (hlimit.trans (haltTable_keeps _)).steady (post_steady _ _ _)
  · exact .refl s

theorem limitReleased_keeps (s : State) : Answers s (execLimitReleased s) := Steady.keeps (.of_eq rfl rfl rfl rfl)

end Sys2Proof.Machine
end

section
/-! PROOF. Run levels, clearing, the E-stop line, the millisecond, table loads and every act of a request keep the invariants
(Sys2Proof/Machine/RunLevel, Loads, Requests). -/

namespace Sys2Proof.Machine

/-! ### Run levels, clearing, the E-stop line -/

/-- A sequencer in IDLE or PURGING has an empty window and no sweep, and may go anywhere but to SWEEPING's claim. -/
theorem SeqInv.fromRest {s t : State} (h : SeqInv s) (h1 : s.csq.seq ≠ .running) (h2 : s.csq.seq ≠ .held)
    (h3 : s.csq.seq ≠ .sweeping) (hw : t.csq.window = s.csq.window) (hs : t.shu.sweep = s.shu.sweep) : SeqInv t :=
  ⟨fun _ => hw.trans (h.leave h1 h2), fun hsome => by
    rw [hs, h.no_sweep h3] at hsome
    contradiction⟩

theorem idleToRunning_steady (s : State) : Steady s (idleToRunning s) := by
  unfold idleToRunning
  split
  case isTrue h =>
    refine ⟨rfl, id, id, fun hq => hq.fromRest ?_ ?_ ?_ rfl rfl⟩ <;> rw [h.1] <;> decide
  case isFalse => exact .refl s

theorem takeRun_steady (s : State) : Steady s (takeRun s) :=
  (idleToRunning_steady _).after ((recompute_steady _).after (.updAlc _ s))

theorem takeHold_steady (s : State) : Steady s (takeHold s) := (recompute_steady _).after (.updAlc _ s)

theorem takeStop_steady (s : State) : Steady s (takeStop s) := (recompute_steady _).after (.updAlc _ s)

theorem resumeButton_keeps (s : State) : Answers s (execResumeButton s) := by
  unfold execResumeButton
  refine Steady.next ?_
  split
  · exact takeRun_steady s
  · exact .refl s

theorem repostEstop_steady (s : State) : Steady s (repostEstop s) := by
  unfold repostEstop
  split
  · exact post_steady _ _ s
  · exact .refl s

theorem clearEntry_steady (c : ChannelId) (seq : Word16) (s : State) : Steady s (clearEntry c seq s) := by
  unfold clearEntry
  have hcleared := (recompute_steady _).after (.updAlc (·.remove c seq) s)
  simp only []
  split
  · exact hcleared.trans (repostEstop_steady _)
  · exact hcleared

theorem clearButton_keeps (s : State) : Answers s (execClearButton s) := by
  unfold execClearButton
  simp only []
  split
  · exact Steady.next (.updAlc _ s)
  · split
    · exact Steady.next ((clearEntry_steady _ _ _).after (.updAlc _ s))
    · exact Steady.next (.updAlc _ s)

theorem estopAsserted_keeps (s : State) : Answers s (execEstopAsserted s) := by
  unfold execEstopAsserted
  split
  · have hlevel := (recompute_steady _).after ((post_steady .estop none _).after (.updAlc ({ · with estop := .asserted }) s))
    exact (((hlevel.trans ((estopStep_steady _).trans (estopTransfer_steady _))).keeps.trans (estopHead_keeps _)).trans
      (estopTable_keeps _))
  · exact .refl s

theorem estopReleased_keeps (s : State) : Answers s (execEstopReleased s) :=
  Steady.next ((recompute_steady _).after (.updAlc _ s))

theorem millisecondTick_keeps (s : State) : Answers s (execMillisecondTick s) :=
  Steady.next (.of_eq rfl rfl rfl rfl)

/-! ### The machine constants and the mode -/

/-- R29: the sequencer at rest. -/
theorem atRest_seq {s : State} (h : atRest s = true) : s.csq.seq = .idle := by
  simp only [atRest, Bool.and_eq_true, beq_iff_eq] at h
  exact h.1.1

/-- R31: a mode that is taken up at rest. -/
theorem takeUpMode_steady (s : State) (h1 : s.csq.seq ≠ .running) (h2 : s.csq.seq ≠ .held) (h3 : s.csq.seq ≠ .sweeping) :
    Steady s (takeUpMode s) := by
  unfold takeUpMode
  extract_lets s1
  have hcleared : Steady s s1 := .of_eq rfl rfl rfl rfl
  split
  · exact hcleared
  · split
    · exact hcleared
    · exact hcleared.trans ⟨rfl, id, id, fun hq => hq.fromRest h1 h2 h3 rfl rfl⟩

/-- R30: the record written, with the chain built anew when L changes, which it does at rest alone. -/
theorem writeChain_keeps (k : MachineConstants) (s : State)
    (hk : ConstantsInRange s.tables.constants → ConstantsInRange k)
    (hrest : k.chainLength ≠ s.tables.constants.chainLength → s.csq.seq = .idle) :
    Keeps s (if k.chainLength = s.tables.constants.chainLength then s.updTables ({ · with constants := k })
      else (s.updTables ({ · with constants := k })).updCsq (Csq.rebuilt k)) := by
  split
  case isTrue hL =>
    refine ⟨⟨id, fun ⟨hc, hr, hl, hb⟩ => ?_, fun ⟨hc, h⟩ => ⟨hk hc, h⟩, id⟩, id⟩
    exact ⟨hk hc, hr.trans hL.symm, hl.trans hL.symm, Nat.lt_of_lt_of_eq hb hL.symm⟩
  case isFalse hL =>
    refine ⟨⟨id, fun ⟨hc, _⟩ => ?_, fun ⟨hc, h⟩ => ⟨hk hc, h⟩, id⟩, ?_⟩
    · have hpos : 0 < k.chainLength := Nat.lt_of_lt_of_le (by decide) (hk hc).1
      exact ⟨hk hc, List.length_replicate, List.length_replicate, hpos⟩
    · have hidle := hrest hL
      rw [accountInv_iff, accountInv_iff]
      rintro ⟨hb, hc, hq⟩
      have hwin := hq.leave (by rw [hidle]; decide) (by rw [hidle]; decide)
      have hno := hq.no_sweep (by rw [hidle]; decide)
      refine ⟨hb.perm (.of_eq ?_) rfl rfl, hc, fun _ => rfl, fun h => ?_⟩
      · show [] ++ tapeIds s.tpc = windowIds s.csq ++ tapeIds s.tpc
        rw [(windowIds_eq_nil _).mpr hwin]
      · rw [updCsq_shu, updTables_shu, hno] at h
        contradiction

theorem rebuilt_seq (k : MachineConstants) (q : Csq) :
    (Csq.rebuilt k q).seq = .idle ∨ (Csq.rebuilt k q).seq = .purging := by
  unfold Csq.rebuilt
  by_cases h : k.mode = .insertOnly
  · exact .inl (if_pos h)
  · exact .inr (if_neg h)

theorem writeConstants_keeps (k : MachineConstants) (s : State)
    (hk : ConstantsInRange s.tables.constants → ConstantsInRange k)
    (hrest : k.chainLength ≠ s.tables.constants.chainLength → s.csq.seq = .idle)
    (hmode : k.mode ≠ s.mode → s.csq.seq = .idle) : Keeps s (writeConstants k s) := by
  have hchain := writeChain_keeps k s hk hrest
  unfold writeConstants
  extract_lets s1 s2
  split
  case isTrue => exact hchain
  case isFalse hm =>
    have hidle := hmode hm
    have hseq : s2.csq.seq = .idle ∨ s2.csq.seq = .purging := by
      simp only [s2]
      split
      · exact .inl hidle
      · exact rebuilt_seq k _
    refine hchain.trans (takeUpMode_steady s2 ?_ ?_ ?_).keeps <;> rcases hseq with h | h <;> rw [h] <;> decide

theorem actMode_keeps (value : Byte) (s : State) : Keeps s (actMode value s).1 := by
  unfold actMode
  split
  · exact .refl s
  · split
    · exact .refl s
    · split
      case isTrue h =>
        have hrest : atRest s = true := by
          simp only [modeMayChange, Bool.and_eq_true] at h
          exact h.1.1.1
        exact writeConstants_keeps _ s id (fun hne => absurd rfl hne) (fun _ => atRest_seq hrest)
      case isFalse => exact .refl s

/-! ### TABLE LOAD -/

/-- R18: a load writes only when every check has passed. -/
theorem loadTable_keeps (t : TableName) (count : Byte) (body : List Byte) (k : LoadCheck) (write : State → State)
    (s : State) (h : loadLengthRight t count.toNat body = true → k.indexRight = true → k.stateAllows = .ok →
      k.fault = none → k.cross = none → Keeps s (write s)) : Keeps s (loadTable t count body k write s).1 := by
  unfold loadTable
  split
  · exact .refl s
  case isFalse hlen =>
    split
    · exact .refl s
    case isFalse hindex =>
      split
      · exact .refl s
      · exact .refl s
      case h_3 hok hfault hcross =>
        exact h (by simpa using hlen) (by simpa using hindex) hok hfault hcross
      · exact .refl s

theorem loadComponent_keeps (first : Word16) (count : Byte) (body : List Byte) (s : State) :
    Keeps s (loadComponent first count body s).1 :=
  loadTable_keeps _ _ _ _ _ s fun _ _ _ _ _ =>
    (retakeAsk_keeps _).after (Steady.keeps (.of_eq rfl rfl rfl rfl))

theorem loadSpan_keeps (first : Word16) (count : Byte) (body : List Byte) (s : State) :
    Keeps s (loadSpan first count body s).1 :=
  loadTable_keeps _ _ _ _ _ s fun _ _ _ _ _ => Steady.keeps (.of_eq rfl rfl rfl rfl)

theorem loadStationMap_keeps (first : Word16) (count : Byte) (body : List Byte) (s : State) :
    Keeps s (loadStationMap first count body s).1 :=
  loadTable_keeps _ _ _ _ _ s fun _ _ _ _ _ =>
    (alignSubstitutions_steady _).keeps.after (Steady.keeps (.of_eq rfl rfl rfl rfl))

theorem loadFilterSet_keeps (first : Word16) (count : Byte) (body : List Byte) (s : State) :
    Keeps s (loadFilterSet first count body s).1 :=
  loadTable_keeps _ _ _ _ _ s fun _ _ _ _ _ => Steady.keeps (.of_eq rfl rfl rfl rfl)

theorem loadAlarmMap_keeps (first : Word16) (count : Byte) (body : List Byte) (s : State) :
    Keeps s (loadAlarmMap first count body s).1 :=
  loadTable_keeps _ _ _ _ _ s fun _ _ _ _ _ => (Steady.updAlc _ s).keeps

theorem loadPanelPattern_keeps (first : Word16) (count : Byte) (body : List Byte) (s : State) :
    Keeps s (loadPanelPattern first count body s).1 :=
  loadTable_keeps _ _ _ _ _ s fun _ _ _ _ _ => Steady.keeps (.of_eq rfl rfl rfl rfl)

theorem loadReadOnly_keeps (t : TableName) (count : Byte) (body : List Byte) (s : State) :
    Keeps s (loadReadOnly t count body s).1 := by
  unfold loadReadOnly
  split <;> exact .refl s

/-- R18 check 5: with no fault every entry passes. -/
theorem firstFault_none {α : Type} (first : Nat) (bad : α → Bool) (l : List α)
    (h : firstFault first (fun _ => bad) l = none) : ∀ e ∈ l, bad e = false := by
  induction l generalizing first with
  | nil => exact fun e he => absurd he List.not_mem_nil
  | cons a rest ih =>
    unfold firstFault at h
    split at h
    · contradiction
    case isFalse hgood =>
      intro e he
      rcases List.mem_cons.mp he with rfl | he
      · exact Bool.eq_false_iff.mpr hgood
      · exact ih _ h e he

theorem mem_writeAt {α : Type} {place : Nat} {es l : List α} {a : α} (h : a ∈ writeAt place es l) : a ∈ es ∨ a ∈ l := by
  rcases List.mem_append.mp h with h | h
  · rcases List.mem_append.mp h with h | h
    · exact .inr (List.mem_of_mem_take h)
    · exact .inl h
  · exact .inr (List.mem_of_mem_drop h)

/-- R106, R107: a profile in range starts its accumulator in range. -/
theorem wearStart_le (p : Profile) (h : profileInRange p = true) : wearStart p ≤ 524272 := by
  simp only [profileInRange, decide_eq_true_eq] at h
  obtain ⟨-, -, -, -, -, hmax, hmin, -⟩ := h
  unfold wearStart
  omega

theorem loadProfile_keeps (first : Word16) (count : Byte) (body : List Byte) (s : State) :
    Keeps s (loadProfile first count body s).1 := by
  refine loadTable_keeps _ _ _ _ _ s fun _ _ _ hfault _ => updCsu_keeps _ s fun ⟨hk, hw, hf, ho⟩ => ?_
  refine ⟨hk, fun a ha => ?_, hf, ho⟩
  rcases mem_writeAt ha with ha | ha
  · obtain ⟨p, hp, rfl⟩ := List.mem_map.mp ha
    obtain ⟨e, he, rfl⟩ := List.mem_filterMap.mp hp
    have hgood := firstFault_none _ _ _ hfault _ he
    exact wearStart_le p (by simpa using hgood)
  · exact hw a ha

/-! ### TABLE LOAD CONSTANTS -/

theorem rawConstantsOf_length (body : List Byte) (h : body.length = 20) : (rawConstantsOf body).length = 14 := by
  match body, h with
  | [_, _, _, _, _, _, _, _, _, _, _, _, _, _, _, _, _, _, _, _], _ => rfl

/-- R28: with no fault each of the fourteen places is in its range. -/
theorem constantsFault_range (new : List Nat) (hlen : new.length = 14) (h : constantsFault new = none) (i : Nat)
    (r : Nat × Nat) (hi : constantRanges[i]? = some r) : r.1 ≤ new.getD i 0 ∧ new.getD i 0 ≤ r.2 := by
  have hlt : i < new.length := by
    obtain ⟨hi, -⟩ := List.getElem?_eq_some_iff.mp hi
    rw [hlen]
    exact hi
  have hmem : (new[i], r) ∈ new.zip constantRanges :=
    List.mem_of_getElem? (List.getElem?_zip_eq_some.mpr ⟨List.getElem?_eq_getElem hlt, hi⟩)
  have hgood := firstFault_none _ _ _ h _ hmem
  rw [List.getD_eq_getElem _ _ hlt]
  simp only [decide_eq_false_iff_not, not_or, Nat.not_lt] at hgood
  exact hgood

theorem ofPlaces_inRange (new : List Nat) (hlen : new.length = 14) (h : constantsFault new = none) :
    ConstantsInRange (MachineConstants.ofPlaces new) := by
  have hrange := constantsFault_range new hlen h
  obtain ⟨l1, l2⟩ := hrange 0 _ rfl
  obtain ⟨s1, s2⟩ := hrange 1 _ rfl
  obtain ⟨f1, f2⟩ := hrange 2 _ rfl
  obtain ⟨m1, m2⟩ := hrange 3 _ rfl
  obtain ⟨-, r2⟩ := hrange 4 _ rfl
  obtain ⟨e1, e2⟩ := hrange 5 _ rfl
  obtain ⟨t1, t2⟩ := hrange 6 _ rfl
  obtain ⟨p1, p2⟩ := hrange 7 _ rfl
  obtain ⟨h1, h2⟩ := hrange 8 _ rfl
  obtain ⟨a1, a2⟩ := hrange 9 _ rfl
  obtain ⟨v1, v2⟩ := hrange 10 _ rfl
  obtain ⟨g1, g2⟩ := hrange 11 _ rfl
  obtain ⟨q1, q2⟩ := hrange 12 _ rfl
  exact ⟨l1, l2, s1, s2, f1, f2, m1, m2, r2, e1, e2, t1, t2, p1, p2, h1, h2, a1, a2, v1, v2, g1, g2, q1, q2⟩

/-- R29: check 4 passed: a new mode or a new L finds the part at rest. -/
theorem constantsState_ok {s : State} {new : List Nat} (h : constantsState s new = .ok) :
    (placeChanges s new 14 = true → atRest s = true) ∧ (placeChanges s new 1 = true → atRest s = true) := by
  unfold constantsState at h
  split at h
  · contradiction
  case isFalse hmode =>
    split at h
    · contradiction
    case isFalse hrest =>
      simp only [List.any_cons, Bool.and_eq_true, Bool.not_eq_true', not_and, Bool.not_eq_false] at hmode hrest
      refine ⟨fun h14 => ?_, fun h1 => hrest (by rw [h1]; rfl)⟩
      have hmay := hmode h14
      simp only [modeMayChange, Bool.and_eq_true] at hmay
      exact hmay.1.1.1

theorem loadConstants_keeps (first : Word16) (count : Byte) (body : List Byte) (s : State) :
    Keeps s (loadConstants first count body s).1 := by
  refine loadTable_keeps _ _ _ _ _ s fun hlen hindex hstate hfault _ => ?_
  have hone : count = 1 := by
    simp only [wholeRecord, Bool.and_eq_true, beq_iff_eq] at hindex
    exact hindex.2
  have hbody : body.length = 20 := by
    simpa [loadLengthRight, TableName.entrySize, hone] using hlen
  have hnew := rawConstantsOf_length body hbody
  obtain ⟨hmode, hchain⟩ := constantsState_ok hstate
  refine writeConstants_keeps _ s (fun _ => ofPlaces_inRange _ hnew hfault) (fun hne => atRest_seq (hchain ?_))
    (fun hne => atRest_seq (hmode ?_))
  · exact bne_iff_ne.mpr hne
  · refine bne_iff_ne.mpr fun heq => hne ?_
    have heq' : (rawConstantsOf body).getD 13 0 = s.mode.code := heq
    show (Mode.ofCode ((rawConstantsOf body).getD 13 0)).getD .sequenceInsert = s.mode
    rw [heq']
    cases s.mode <;> rfl

end Sys2Proof.Machine
end

section
/-! PROOF. Requests, the link and the resets keep the invariants; so does every step (Sys2Proof/Machine/Requests, Link, Reset,
Dispatch). -/

namespace Sys2Proof.Machine

/-! ### Dispatch and answer (R162) -/

/-- An act that keeps the invariants. -/
def Act.Keeps (act : Act) : Prop := ∀ s, Machine.Keeps s (act s).1

theorem Act.keeps_of_self {act : Act} (h : ∀ s, (act s).1 = s) : act.Keeps := fun s => by
  rw [h s]
  exact .refl s

/-- A change of LPU that leaves the forward buffers, and the answer queue in its bound. -/
theorem updLpu_steady (f : Lpu → Lpu) (s : State) (hd : (f s.lpu).downForward = s.lpu.downForward)
    (hu : (f s.lpu).upForward = s.lpu.upForward)
    (ha : s.lpu.answers.length ≤ 2 → (f s.lpu).answers.length ≤ 2) : Steady s (s.updLpu f) :=
  ⟨by simp only [view, updLpu_lpu, hd, hu]; rfl, ha, id, id⟩

theorem request_keeps (kind tag : Byte) (act : Act) (h : act.Keeps) (s : State) :
    Answers s (.next (request kind tag act s)) := by
  unfold request
  split
  case isTrue => exact (updLpu_steady _ s rfl rfl id).keeps
  case isFalse hroom =>
    have hplace : Steady s (s.updLpu (·.pushOwn (answerPlace tag))) := by
      refine updLpu_steady _ s (by simp) (by simp) (fun _ => ?_)
      have hlt := not_or.mp hroom
      simp at hlt ⊢
      omega
    extract_lets r
    refine ((hplace.keeps.trans (h _)).steady (updLpu_steady _ r.1 rfl rfl fun ha => ?_)).next
    rw [List.length_set]
    exact ha

/-! ### The acts -/

theorem actPlace_keeps (payload : List Byte) : (actPlace payload).Keeps := by
  intro s
  unfold actPlace
  split
  · exact .refl s
  case h_2 rs _ =>
    split
    · exact .refl s
    · simp only []
      have hplaced := placeRecords_keeps rs s
      split
      · exact hplaced
      · exact hplaced.trans (retakeAsk_keeps _)

theorem actStationFlags_keeps (station clear set : Byte) : (actStationFlags station clear set).Keeps := by
  intro s
  unfold actStationFlags
  split
  · exact .refl s
  · exact (Steady.foldl (f := fun t n => applyStationFlags clear set n t)
      (fun t n => applyStationFlags_steady _ _ n t) _ s).keeps

theorem actRun_keeps : actRun.Keeps := by
  intro s
  unfold actRun
  split
  · exact (takeRun_steady s).keeps
  · exact .refl s

theorem actHold_keeps : actHold.Keeps := fun s => (takeHold_steady s).keeps

theorem actStop_keeps : actStop.Keeps := fun s => (takeStop_steady s).keeps

theorem actHornOff_keeps : actHornOff.Keeps := fun s => (Steady.updAlc ({ · with horn := false }) s).keeps

theorem actPanelLoad_keeps : actPanelLoad.Keeps := by
  intro s
  unfold actPanelLoad
  split
  · exact Steady.keeps (.of_eq rfl rfl rfl rfl)
  · exact .refl s

theorem actFlush_keeps : actFlush.Keeps := flushQueue_keeps

/-- R67 check 4: a sweep is accepted with an empty window. -/
theorem checkSweep_accepted {f : SweepFields} {s : State} (h : checkSweep f s = .accepted) : s.csq.window = [] := by
  unfold checkSweep at h
  split at h
  · contradiction
  split at h
  · contradiction
  split at h
  · contradiction
  case isFalse hbusy =>
    simp only [Bool.not_eq_true', Bool.not_eq_false, Bool.and_eq_true, List.isEmpty_iff] at hbusy
    exact hbusy.1.2

theorem actSweep_keeps (payload : List Byte) : (actSweep payload).Keeps := by
  intro s
  unfold actSweep
  split
  · exact .refl s
  case h_2 f _ =>
    split
    case h_1 hok =>
      have hwin := checkSweep_accepted hok
      exact Steady.keeps ⟨rfl, id, id, fun _ => ⟨fun _ => hwin, fun _ => rfl⟩⟩
    case h_2 => exact .refl s

theorem actSweepResult_keeps : actSweepResult.Keeps := Act.keeps_of_self fun s => by
  unfold actSweepResult
  split
  · rfl
  · split <;> rfl

/-! ### TAPE CLEAR -/

/-- R86 step 1: entries of the tape, one after another, end LOST: the counter, the records, the in-position record. -/
theorem loseEntries_eq (l : List TapeEntry) (s : State) : l.foldl (fun t e => loseEntry e t) s = { s with
    hdc := { s.hdc with lost := s.hdc.lost + BitVec.ofNat 32 l.length }
    rrg := l.foldl (fun g e => g.write
      ⟨.lost, e.entry.step, e.entry.panel, e.entry.image, e.entry.component, e.captured.station, none⟩) s.rrg
    tbc := { s.tbc with
      inPosition := if l.any (fun e => s.tbc.inPosition == .entry e.entry.uid) then .none else s.tbc.inPosition } } := by
  induction l generalizing s with
  | nil => simp
  | cons e rest ih =>
    rw [List.foldl_cons, ih]
    have hlost : s.hdc.lost + 1#32 + BitVec.ofNat 32 rest.length = s.hdc.lost + BitVec.ofNat 32 (rest.length + 1) := by
      rw [Nat.add_comm rest.length, BitVec.ofNat_add, ← BitVec.add_assoc]
    by_cases hpos : s.tbc.inPosition = .entry e.entry.uid
    · simp [loseEntry, writeRecord, entryRecord, withdraw, State.updRrg, State.updTbc, State.updHdc, hlost, hpos]
    · simp [loseEntry, writeRecord, entryRecord, withdraw, State.updRrg, State.updTbc, State.updHdc, hlost, hpos]

/-- All entries of the tape leave with an outcome. -/
theorem View.Balanced.endsTape {v w : View} (h : v.Balanced) (hw : w.windowIds = v.windowIds) (ht : w.tapeIds = [])
    (hk : w.counts.taken = v.counts.taken)
    (he : w.counts.ended = v.counts.ended + BitVec.ofNat 32 v.tapeIds.length) (hu : w.nextUid = v.nextUid) :
    w.Balanced where
  balance := by
    rw [hk, he, h.balance, View.ids, View.ids, hw, ht, List.append_nil, List.length_append, BitVec.ofNat_add]
    ac_rfl
  nodup := by
    rw [View.ids, hw, ht, List.append_nil]
    exact (List.nodup_append.mp h.nodup).1
  fresh := fun n hn => by
    rw [View.ids, hw, ht, List.append_nil] at hn
    rw [hu]
    exact h.fresh n (List.mem_append_left _ hn)

theorem loseEntry_safe (e : TapeEntry) (s : State) : Safe s (loseEntry e s) :=
  (writeRecord_keeps _ _).toSafe.after ⟨id, id, id, id⟩

/-- R86: with the head at rest the whole tape is lost. -/
theorem emptyTape_keeps (s : State) (f : Tpc → Tpc) (hhead : s.hdc.head = .idle ∨ s.hdc.head = .fault)
    (ht : ∀ t, (f t).tape = []) (hc : ∀ t, (f t).taped = t.taped) :
    Keeps s ((s.tpc.tape.foldl (fun t e => loseEntry e t) s).updTpc f) where
  toSafe := (Safe.foldl (f := fun t e => loseEntry e t) (fun t e => loseEntry_safe e t) _ s).trans ⟨id, id, id, id⟩
  account := by
    rw [accountInv_iff, accountInv_iff, loseEntries_eq]
    rintro ⟨hb, hcycle, hq⟩
    have hnone : (view s).cycle = none := by
      refine hcycle.none_of_head fun hin => ?_
      exact hhead.elim hin.1 hin.2.1
    refine ⟨hb.endsTape rfl ?_ rfl ?_ rfl, .absent hnone, hq⟩
    · show (f s.tpc).tape.map _ = []
      rw [ht]
      rfl
    · simp only [Counts.ended, view, updTpc_tpc, updTpc_hdc, updTpc_pin, hc, tapeIds, List.length_map]
      ac_rfl

theorem commandWaiting_steady (s : State) : Steady s (commandWaiting s) := by
  unfold commandWaiting
  split
  · exact commandTransfer_steady _ s
  · exact .refl s

theorem clearTape_keeps (s : State) (h : s.hdc.head = .idle ∨ s.hdc.head = .fault) : Keeps s (clearTape s) :=
  ((emptyTape_keeps s (fun t => { t with
    tape := [], verified := true, reel := if s.mode = .sequenceOnly then 0 else t.reel }) h (fun _ => rfl)
    (fun _ => rfl)).steady ((heldTest_steady _).trans (commandWaiting_steady _))).trans (askPin_keeps _)

theorem actTapeClear_keeps : actTapeClear.Keeps := by
  intro s
  unfold actTapeClear
  split
  · exact .refl s
  case isFalse h =>
    refine clearTape_keeps s ?_
    simp only [tapeClearBusy, Bool.or_eq_true, not_or, Bool.not_eq_true', Bool.not_eq_false, beq_iff_eq] at h
    exact h.1

theorem actAlarmRead_keeps (channel : Byte) : (actAlarmRead channel).Keeps := Act.keeps_of_self fun s => by
  unfold actAlarmRead
  split <;> rfl

theorem actAlarmClear_keeps (channel : Byte) (seq : Word16) : (actAlarmClear channel seq).Keeps := by
  intro s
  unfold actAlarmClear
  split
  · exact .refl s
  · split
    · exact .refl s
    · split
      · exact (clearEntry_steady _ _ s).keeps
      · exact .refl s

theorem actStatus_keeps : actStatus.Keeps := Act.keeps_of_self fun _ => rfl

/-- R170: no more records are in transit than are held. -/
theorem recordsThatFit_le (room : Nat) (rs : List RingRecord) : recordsThatFit room rs ≤ rs.length := by
  induction rs generalizing room with
  | nil => exact Nat.le_refl 0
  | cons r rest ih =>
    unfold recordsThatFit
    split
    · exact Nat.succ_le_succ (ih _)
    · exact Nat.zero_le _

theorem readRing_keeps (s : State) : Keeps s (readRing s).1 where
  bounds := fun ⟨hq, hs, hd, hu, ha, hr, _⟩ => ⟨hq, hs, hd, hu, ha, hr, recordsThatFit_le _ _⟩
  chain := id
  signature := id
  panel := id
  account := id

theorem ringSize_drop_le (n : Nat) (rs : List RingRecord) : ringSize (rs.drop n) ≤ ringSize rs := by
  conv_rhs => rw [← List.take_append_drop n rs, ringSize_append]
  exact Nat.le_add_left _ _

theorem releaseTransit_keeps (s : State) : Keeps s (releaseTransit s) where
  bounds := fun ⟨hq, hs, hd, hu, ha, hr, _⟩ =>
    ⟨hq, hs, hd, hu, ha, (ringSize_drop_le _ _).trans hr, Nat.zero_le _⟩
  chain := id
  signature := id
  panel := id
  account := id

theorem actRecordReadNext_keeps : actRecordReadNext.Keeps := fun s =>
  (releaseTransit_keeps s).trans (readRing_keeps _)

theorem actReset_keeps : actReset.Keeps := fun s =>
  (updLpu_steady ({ · with resetPending := true }) s rfl rfl id).keeps

theorem readTable_keeps (t : TableName) (first : Word16) (count : Byte) (right : Bool) (extra entries : List Byte)
    (s : State) : Keeps s (readTable t first count right extra entries s).1 := by
  unfold readTable
  split
  · exact .refl s
  · simp only []
    split <;> exact .refl s

end Sys2Proof.Machine
end

section
/-! PROOF. The link and the resets keep the invariants (Sys2Proof/Machine/Link, Reset). -/

namespace Sys2Proof.Machine

/-! ### The acts by their kind (R164) -/

theorem refused_keeps (code : ResultCode) (data : List Byte) : Act.Keeps (fun s => (s, code, data)) :=
  Act.keeps_of_self fun _ => rfl

theorem noPayload_keeps {act : Act} (h : act.Keeps) (payload : List Byte) : (noPayload act payload).Keeps := by
  unfold noPayload
  split
  · exact h
  · exact refused_keeps _ _

theorem actTableLoad_keeps (payload : List Byte) : (actTableLoad payload).Keeps := by
  unfold actTableLoad
  split
  case h_2 => exact refused_keeps _ _
  case h_1 f1 f0 count body =>
    extract_lets first
    split
    · exact refused_keeps _ _
    · exact loadComponent_keeps first count body
    · exact loadSpan_keeps first count body
    · exact loadStationMap_keeps first count body
    · exact loadProfile_keeps first count body
    · exact loadFilterSet_keeps first count body
    · exact loadPanelPattern_keeps first count body
    · exact loadAlarmMap_keeps first count body
    · exact loadConstants_keeps first count body
    · exact loadReadOnly_keeps _ count body

theorem actTableRead_keeps (payload : List Byte) : (actTableRead payload).Keeps := by
  unfold actTableRead
  split
  case h_2 => exact refused_keeps _ _
  case h_1 t f1 f0 count =>
    extract_lets first
    split
    · exact refused_keeps _ _
    all_goals exact fun s => readTable_keeps _ first count _ _ _ s

theorem actOf_keeps (kind : Byte) (payload : List Byte) : (actOf kind payload).Keeps := by
  unfold actOf
  split
  · exact actPlace_keeps _
  · exact actTableLoad_keeps _
  · exact actTableRead_keeps _
  · split
    · exact actStationFlags_keeps _ _ _
    · exact refused_keeps _ _
  · exact noPayload_keeps actRun_keeps _
  · exact noPayload_keeps actHold_keeps _
  · exact noPayload_keeps actStop_keeps _
  · exact noPayload_keeps actHornOff_keeps _
  · exact noPayload_keeps actPanelLoad_keeps _
  · exact noPayload_keeps actFlush_keeps _
  · exact actSweep_keeps _
  · exact noPayload_keeps actSweepResult_keeps _
  · exact noPayload_keeps actTapeClear_keeps _
  · split
    · exact actMode_keeps _
    · exact refused_keeps _ _
  · split
    · exact actAlarmRead_keeps _
    · exact refused_keeps _ _
  · split
    · exact actAlarmClear_keeps _ _
    · exact refused_keeps _ _
  · exact noPayload_keeps actStatus_keeps _
  · exact noPayload_keeps readRing_keeps _
  · exact noPayload_keeps actRecordReadNext_keeps _
  · exact noPayload_keeps actReset_keeps _
  · exact refused_keeps _ _

/-! ### Frames (R157 to R163) -/

/-- A change of LPU is a matter of the three bounds of R160 and R162. -/
theorem updLpu_keeps (f : Lpu → Lpu) (s : State)
    (hd : s.lpu.downForward.length ≤ 2 → (f s.lpu).downForward.length ≤ 2)
    (hu : s.lpu.upForward.length ≤ 2 → (f s.lpu).upForward.length ≤ 2)
    (ha : s.lpu.answers.length ≤ 2 → (f s.lpu).answers.length ≤ 2) : Keeps s (s.updLpu f) where
  bounds := fun ⟨hq, hs, kd, ku, ka, hr, ht⟩ => ⟨hq, hs, hd kd, hu ku, ha ka, hr, ht⟩
  chain := id
  signature := id
  panel := id
  account := id

/-- R160: a frame joins the downstream forward buffer only while it has room. -/
theorem forwardDown_keeps (f : Frame) (s : State) : Keeps s (s.updLpu (·.forwardDown f)) := by
  by_cases hroom : s.lpu.downForward.length < Config.bufferCapacity
  · refine updLpu_keeps _ s (fun _ => ?_) ?_ ?_
    · simp only [Lpu.forwardDown, if_pos hroom, List.length_append]
      exact hroom
    · simp only [Lpu.forwardDown, if_pos hroom]
      exact id
    · simp only [Lpu.forwardDown, if_pos hroom]
      exact id
  · refine updLpu_keeps _ s ?_ ?_ ?_ <;>
    · simp only [Lpu.forwardDown, if_neg hroom]
      exact id

/-- R160: a frame joins the upstream forward buffer only while it has room. -/
theorem forwardUp_keeps (f : Frame) (s : State) : Keeps s (s.updLpu (·.forwardUp f)) := by
  by_cases hroom : s.lpu.upForward.length < Config.bufferCapacity
  · refine updLpu_keeps _ s ?_ (fun _ => ?_) ?_
    · simp [Lpu.forwardUp, hroom]
    · simp only [Lpu.forwardUp, if_pos hroom, choose_frame, List.length_append]
      exact hroom
    · simp [Lpu.forwardUp, hroom]
  · refine updLpu_keeps _ s ?_ ?_ ?_ <;>
    · simp only [Lpu.forwardUp, if_neg hroom]
      exact id

theorem setReceive_steady (p : Port) (r : Receive) (s : State) : Steady s (setReceive p r s) := by
  cases p
  · exact updLpu_steady ({ · with rxUp := r }) s rfl rfl id
  · exact updLpu_steady ({ · with rxDown := r }) s rfl rfl id

theorem countError_frame (p : Port) (e : ReceiveError) (l : Lpu) :
    (countError p e l).downForward = l.downForward ∧ (countError p e l).upForward = l.upForward ∧
    (countError p e l).answers = l.answers := by
  cases p <;> exact ⟨rfl, rfl, rfl⟩

theorem windowError_frame (now : Word32) (l : Lpu) :
    (l.windowError now).downForward = l.downForward ∧ (l.windowError now).upForward = l.upForward ∧
    (l.windowError now).answers = l.answers := by
  unfold Lpu.windowError
  split <;> exact ⟨rfl, rfl, rfl⟩

theorem receiveError_steady (p : Port) (e : ReceiveError) (s : State) : Steady s (receiveError p e s) := by
  have hcounted := (updLpu_steady (fun l => (countError p e l).windowError s.alc.ms) (setReceive p .hunting s)
    (by simp [windowError_frame, countError_frame]) (by simp [windowError_frame, countError_frame])
    (by simp [windowError_frame, countError_frame])).after (setReceive_steady p .hunting s)
  unfold receiveError
  extract_lets s1
  split
  · exact hcounted.trans (post_steady _ _ _)
  · exact hcounted

theorem dispatchFrame_keeps (f : Frame) (s : State) : Keeps s (dispatchFrame f s) := by
  unfold dispatchFrame
  split
  · exact .refl s
  · exact request_keeps _ _ _ (actOf_keeps _ _) s

theorem routeUpstream_keeps (f : Frame) (s : State) : Keeps s (routeUpstream f s) := by
  unfold routeUpstream
  split
  · exact (forwardDown_keeps f s).trans (dispatchFrame_keeps f _)
  · split
    · exact dispatchFrame_keeps f s
    · exact forwardDown_keeps f s

theorem frameReceived_keeps (p : Port) (f : Frame) (s : State) : Keeps s (frameReceived p f s) := by
  unfold frameReceived
  split
  · exact (receiveError_steady _ _ s).keeps
  · split
    · have hheard := (setReceive_steady p .hunting s).keeps
      cases p
      · exact hheard.trans (routeUpstream_keeps f _)
      · exact hheard.trans (forwardUp_keeps f _)
    · exact (receiveError_steady _ _ s).keeps

theorem takeByte_keeps (p : Port) (bytes : List Byte) (b : Byte) (s : State) : Keeps s (takeByte p bytes b s) := by
  unfold takeByte
  extract_lets all
  split
  · exact (setReceive_steady _ _ s).keeps
  · split
    · exact (receiveError_steady _ _ s).keeps
    · split
      · exact (setReceive_steady _ _ s).keeps
      · split
        · exact frameReceived_keeps _ _ s
        · exact (setReceive_steady _ _ s).keeps

theorem interByteTimeout_keeps (p : Port) (s : State) : Answers s (execInterByteTimeout p s) := by
  unfold execInterByteTimeout
  split
  · exact (receiveError_steady _ _ s).next
  · exact Keeps.next (.refl s)

theorem frameByteReceived_keeps (p : Port) (b : Byte) (s : State) : Answers s (execFrameByteReceived p b s) := by
  unfold execFrameByteReceived
  split
  · split
    · exact (setReceive_steady _ _ s).next
    · exact (receiveError_steady _ _ s).next
  · exact (takeByte_keeps _ _ _ s).next

theorem lengthError_keeps (p : Port) (b : Byte) (s : State) : Answers s (execLengthError p b s) := by
  unfold execLengthError
  split
  · split
    · exact (receiveError_steady _ _ s).next
    · exact Keeps.next (.refl s)
  · exact Keeps.next (.refl s)

theorem frameCrcMismatch_keeps (p : Port) (b : Byte) (s : State) : Answers s (execFrameCrcMismatch p b s) := by
  unfold execFrameCrcMismatch
  split
  · split
    · split
      · exact Keeps.next (.refl s)
      · exact (receiveError_steady _ _ s).next
    · exact Keeps.next (.refl s)
  · exact Keeps.next (.refl s)

theorem length_tail_le {α : Type} (l : List α) {n : Nat} (h : l.length ≤ n) : l.tail.length ≤ n := by
  rw [List.length_tail]
  exact (Nat.sub_le _ _).trans h

theorem downstreamSendEnd_keeps (s : State) : Answers s (execDownstreamSendEnd s) :=
  (updLpu_keeps _ s (length_tail_le _) id id).next

/-- R161: the frame sent leaves its source. -/
theorem sent_keeps (s : State) : Keeps s (s.updLpu Lpu.sent) := by
  refine updLpu_keeps _ s ?_ ?_ ?_
  all_goals
    unfold Lpu.sent
    split
  · exact id
  · simp
  · simp
  · exact id
  · simpa using fun h => h.trans (Nat.le_succ 2)
  · simp
  · exact id
  · simp
  · simpa using fun h => h.trans (Nat.le_succ 2)

/-! ### The resets (R17, R55, R74, R87, R105, R122, R137, R155, R171, R172) -/

/-- R155: the posts at the end of a reset. -/
theorem repost_steady (s : State) : Steady s (repost s) :=
  Steady.foldl (f := fun t k => post k none t) (fun t k => post_steady k none t) _ s

/-- A state a reset builds meets the invariants once the release is commanded and the conditions are posted. -/
theorem resetEnd_keeps (s : State) (h : s.tbc.panel = .empty) : Keeps s (repost (releaseAtReset s)) :=
  (commandHandler_keeps .release s (fun _ => .inl h)).steady (repost_steady _)

/-- R17 to R172: the state a power-on reset builds before the release and the posts. -/
def poweredOn (pins : BitVec 5) (estop : LineState) (tension : Tension) (limits : LimitState) (s : State) : State :=
  { State.reset with
    pending := s.pending
    lpu := { Lpu.reset with addressPins := pins, address := addressOf pins }
    tpc := { Tpc.reset with tension := tension }
    tbc := { Tbc.reset with limits := limits }
    alc := { Alc.reset with estop := estop }
    nextUid := s.nextUid
    resets := s.resets + 1 }

theorem execPowerOnReset_eq (pins : BitVec 5) (e : LineState) (b : Tension) (l : LimitState) (s : State) :
    execPowerOnReset pins e b l s = .next (repost (releaseAtReset (poweredOn pins e b l s))) := rfl

theorem poweredOn_keeps (pins : BitVec 5) (e : LineState) (b : Tension) (l : LimitState) (s : State) :
    Keeps s (poweredOn pins e b l s) := by
  obtain ⟨-, -, hbounds, hchain, -, -, hsignature, hpanel⟩ := resetHoldsWhatStepsKeep
  exact ⟨⟨fun _ => hbounds, fun _ => hchain, fun _ => hsignature, fun _ => hpanel⟩,
    fun _ => ⟨rfl, ⟨List.nodup_nil, fun _ h => (nomatch h)⟩, fun _ h => (nomatch h), fun _ => rfl, fun h => (nomatch h)⟩⟩

theorem powerOnReset_keeps (pins : BitVec 5) (e : LineState) (b : Tension) (l : LimitState) (s : State) :
    Answers s (execPowerOnReset pins e b l s) := by
  rw [execPowerOnReset_eq]
  exact ((poweredOn_keeps pins e b l s).trans (resetEnd_keeps _ rfl)).next

/-- R171: the state a soft reset builds before the release and the posts. -/
def softened (s : State) : State :=
  { pending := s.pending, lpu := s.lpu.soft, rrg := ⟨[], 0, 0⟩, pin := Pin.soft s.tbc.current, tables := s.tables,
    csq := Csq.soft s.tables.constants, shu := s.shu.soft, tpc := s.tpc.soft, hdc := Hdc.reset, csu := s.csu.soft,
    tbc := s.tbc.soft, alc := s.alc.soft, out := s.out.soft (s.csq.cycle == .step), nextUid := s.nextUid,
    resets := s.resets + 1 }

theorem softReset_eq (s : State) : softReset s = repost (releaseAtReset (softened s)) := rfl

/-- R172: the forward buffers are kept, the answer queue is empty. -/
theorem lpuSoft_queues (l : Lpu) :
    l.soft.downForward = l.downForward ∧ l.soft.upForward = l.upForward ∧ l.soft.answers = [] := by
  simp [Lpu.soft, Lpu.reset]

/-- R74: the Substitution Table is kept and no sweep runs. -/
theorem shuSoft_subst (h : Shu) : h.soft.subst = h.subst ∧ h.soft.sweep = none := by
  unfold Shu.soft
  split
  case h_1 hnone => exact ⟨rfl, hnone⟩
  case h_2 => exact ⟨rfl, rfl⟩

theorem softened_keeps (s : State) : Keeps s (softened s) where
  bounds := fun ⟨_, hs, hd, hu, _, _, _⟩ => by
    obtain ⟨hdown, hup, hans⟩ := lpuSoft_queues s.lpu
    refine ⟨Nat.zero_le _, ?_, ?_, ?_, ?_, Nat.zero_le _, Nat.le_refl _⟩
    · exact (congrArg List.length (shuSoft_subst s.shu).1).trans_le hs
    · exact (congrArg List.length hdown).trans_le hd
    · exact (congrArg List.length hup).trans_le hu
    · exact (congrArg List.length hans).trans_le (Nat.zero_le _)
  chain := fun ⟨hc, _⟩ =>
    ⟨hc, List.length_replicate, List.length_replicate, Nat.lt_of_lt_of_le (by decide : 0 < 40) hc.1⟩
  signature := fun ⟨hc, hw, _, _⟩ => ⟨hc, hw, Nat.zero_le _, fun _ h => (nomatch h)⟩
  panel := fun _ => ⟨.inr rfl, fun _ => rfl, fun _ => .inl rfl, fun h => (nomatch h), fun _ _ h => (nomatch h)⟩
  account := fun _ => by
    refine ⟨rfl, ⟨List.nodup_nil, fun _ h => (nomatch h)⟩, fun _ h => (nomatch h), fun _ => rfl, fun h => ?_⟩
    rw [show (softened s).shu.sweep = none from (shuSoft_subst s.shu).2] at h
    contradiction

theorem softReset_keeps (s : State) : Keeps s (softReset s) := by
  rw [softReset_eq]
  exact (softened_keeps s).trans (resetEnd_keeps _ rfl)

theorem upstreamSendEnd_keeps (s : State) : Answers s (execUpstreamSendEnd s) := by
  unfold execUpstreamSendEnd
  split
  case h_2 => exact (sent_keeps s).next
  case h_1 a rest _ hans =>
    split
    · refine Keeps.next (Keeps.trans (updLpu_keeps ({ · with answers := rest, sending := none }) s id id fun h => ?_)
        (softReset_keeps _))
      rw [hans] at h
      exact (Nat.le_succ _).trans h
    · exact (sent_keeps s).next

end Sys2Proof.Machine
end

section
/-! PROOF. Every command, and so every step, keeps the bounds, the chain, the account of entries, the signature ranges and
the panel numbers (Sys2Proof/Machine/Dispatch, Step). -/

namespace Sys2Proof.Machine

theorem exec_keeps (i : Instr) (s : State) : Answers s (exec i s) := by
  cases i
  case powerOnReset pins e b l => exact powerOnReset_keeps pins e b l s
  case millisecondTick => exact millisecondTick_keeps s
  case upstreamFrameReceived f => exact (frameReceived_keeps .upstream f s).next
  case downstreamFrameReceived f => exact (frameReceived_keeps .downstream f s).next
  case framingError p => exact (receiveError_steady p .framing s).next
  case interByteTimeout p => exact interByteTimeout_keeps p s
  case lengthError p b => exact lengthError_keeps p b s
  case downstreamSendEnd => exact downstreamSendEnd_keeps s
  case upstreamSendEnd => exact upstreamSendEnd_keeps s
  case place tag payload => exact request_keeps _ tag _ (actPlace_keeps payload) s
  case tableLoadComponent tag f c body => exact request_keeps _ tag _ (loadComponent_keeps f c body) s
  case tableLoadSpan tag f c body => exact request_keeps _ tag _ (loadSpan_keeps f c body) s
  case tableLoadStationMap tag f c body => exact request_keeps _ tag _ (loadStationMap_keeps f c body) s
  case tableLoadProfile tag f c body => exact request_keeps _ tag _ (loadProfile_keeps f c body) s
  case tableLoadFilterSet tag f c body => exact request_keeps _ tag _ (loadFilterSet_keeps f c body) s
  case tableLoadPanelPattern tag f c body => exact request_keeps _ tag _ (loadPanelPattern_keeps f c body) s
  case tableLoadAlarmMap tag f c body => exact request_keeps _ tag _ (loadAlarmMap_keeps f c body) s
  case tableLoadConstants tag f c body => exact request_keeps _ tag _ (loadConstants_keeps f c body) s
  case tableReadComponent tag f c => exact request_keeps _ tag _ (fun t => readTable_keeps _ f c _ _ _ t) s
  case tableReadSpan tag f c => exact request_keeps _ tag _ (fun t => readTable_keeps _ f c _ _ _ t) s
  case tableReadStationMap tag f c => exact request_keeps _ tag _ (fun t => readTable_keeps _ f c _ _ _ t) s
  case tableReadProfile tag f c => exact request_keeps _ tag _ (fun t => readTable_keeps _ f c _ _ _ t) s
  case tableReadFilterSet tag f c => exact request_keeps _ tag _ (fun t => readTable_keeps _ f c _ _ _ t) s
  case tableReadPanelPattern tag f c => exact request_keeps _ tag _ (fun t => readTable_keeps _ f c _ _ _ t) s
  case tableReadAlarmMap tag f c => exact request_keeps _ tag _ (fun t => readTable_keeps _ f c _ _ _ t) s
  case tableReadConstants tag f c => exact request_keeps _ tag _ (fun t => readTable_keeps _ f c _ _ _ t) s
  case tableReadStationRecords tag f c => exact request_keeps _ tag _ (fun t => readTable_keeps _ f c _ _ _ t) s
  case tableReadSubstitution tag f c => exact request_keeps _ tag _ (fun t => readTable_keeps _ f c _ _ _ t) s
  case tableReadWear tag f c => exact request_keeps _ tag _ (fun t => readTable_keeps _ f c _ _ _ t) s
  case tableReadLastSignature tag f c => exact request_keeps _ tag _ (fun t => readTable_keeps _ f c _ _ _ t) s
  case tableReadImages tag f c => exact request_keeps _ tag _ (fun t => readTable_keeps _ f c _ _ _ t) s
  case stationFlags tag n clear set => exact request_keeps _ tag _ (actStationFlags_keeps n clear set) s
  case run tag => exact request_keeps _ tag _ actRun_keeps s
  case hold tag => exact request_keeps _ tag _ actHold_keeps s
  case stop tag => exact request_keeps _ tag _ actStop_keeps s
  case hornOff tag => exact request_keeps _ tag _ actHornOff_keeps s
  case panelLoad tag => exact request_keeps _ tag _ actPanelLoad_keeps s
  case flush tag => exact request_keeps _ tag _ actFlush_keeps s
  case sweep tag payload => exact request_keeps _ tag _ (actSweep_keeps payload) s
  case sweepResult tag => exact request_keeps _ tag _ actSweepResult_keeps s
  case tapeClear tag => exact request_keeps _ tag _ actTapeClear_keeps s
  case mode tag value => exact request_keeps _ tag _ (actMode_keeps value) s
  case alarmRead tag channel => exact request_keeps _ tag _ (actAlarmRead_keeps channel) s
  case alarmClear tag channel seq => exact request_keeps _ tag _ (actAlarmClear_keeps channel seq) s
  case status tag => exact request_keeps _ tag _ actStatus_keeps s
  case recordReadStart tag => exact request_keeps _ tag _ readRing_keeps s
  case recordReadNext tag => exact request_keeps _ tag _ actRecordReadNext_keeps s
  case reset tag => exact request_keeps _ tag _ actReset_keeps s
  case resumeButton => exact resumeButton_keeps s
  case holdButton => exact (takeHold_steady s).next
  case clearButton => exact clearButton_keeps s
  case skipButton => exact skipButton_keeps s
  case estopAsserted => exact estopAsserted_keeps s
  case estopReleased => exact estopReleased_keeps s
  case tensionBreak => exact tensionBreak_keeps s
  case tensionNormal => exact tensionNormal_keeps s
  case limitActive => exact limitActive_keeps s
  case limitReleased => exact limitReleased_keeps s
  case chainStepStart => exact chainStepStart_keeps s
  case chainIndexEvent clipPresent => exact chainIndexEvent_keeps clipPresent s
  case chainStepTimeout => exact chainStepTimeout_keeps s
  case exchangeSend => exact exchangeSend_keeps s
  case exchangeComplete replies => exact exchangeComplete_keeps replies s
  case unusableStationCascade => exact unusableStationCascade_keeps s
  case tapedEvent => exact tapedEvent_keeps s
  case dumpEvent => exact dumpEvent_keeps s
  case taperTimeout => exact taperTimeout_keeps s
  case taperRestart => exact taperRestart_keeps s
  case markingNoticePin => exact markingNoticePin_keeps s
  case markingNoticeCsq => exact markingNoticeCsq_keeps s
  case markingNoticeTpc => exact markingNoticeTpc_keeps s
  case markingNoticeHdc => exact markingNoticeHdc_keeps s
  case insertCycleStart => exact insertCycleStart_keeps s
  case dumpCycleStart => exact dumpCycleStart_keeps s
  case freeDumpCycleStart => exact freeDumpCycleStart_keeps s
  case axisInPosition axis => exact axisInPosition_keeps axis s
  case spanFault => exact spanFault_keeps s
  case cutDone => exact cutDone_keeps s
  case formDone => exact formDone_keeps s
  case driveDone => exact driveDone_keeps s
  case clinchDone => exact clinchDone_keeps s
  case ejectDone => exact ejectDone_keeps s
  case headUp => exact headUp_keeps s
  case phaseTimeout => exact phaseTimeout_keeps s
  case homingStart => exact homingStart_keeps s
  case homeDone => exact homeDone_keeps s
  case forceSample code => exact forceSample_keeps code s
  case silenceTimeout => exact silenceTimeout_keeps s
  case loadStart => exact loadStart_keeps s
  case unloadStart => exact unloadStart_keeps s
  case clamped => exact clamped_keeps s
  case released => exact released_keeps s
  case handlerTimeout => exact handlerTimeout_keeps s
  case handlerRestart => exact handlerRestart_keeps s
  case surveyMoveStart => exact surveyMoveStart_keeps s
  case insertMoveStart => exact insertMoveStart_keeps s
  case inPosition markPresent => exact inPosition_keeps markPresent s
  case followingError => exact followingError_keeps s
  case moveTimeout => exact moveTimeout_keeps s
  case frameByteReceived p b => exact frameByteReceived_keeps p b s
  case frameCrcMismatch p b => exact frameCrcMismatch_keeps p b s

/-- A step takes a command from the queue, which no invariant reads, or idles. -/
theorem step_keeps {s t : State} (h : step s = .next t) : Keeps s t := by
  unfold step at h
  split at h
  case h_1 =>
    obtain rfl := Host.Outcome.next.inj h
    exact .refl s
  case h_2 c rest hq =>
    have hkeeps := exec_keeps c (s.withPending rest)
    rw [h] at hkeeps
    have htaken : Keeps s (s.withPending rest) := ⟨⟨id, id, id, id⟩, id⟩
    exact htaken.trans hkeeps

end Sys2Proof.Machine

open Sys2Proof Sys2Proof.Machine

/-- Settles O56: `Keeps`, read for the bounds and the chain. -/
theorem boundsAndChainAreKept : Obligations.BoundsAndChainAreKept := by
  unfold Obligations.BoundsAndChainAreKept
  intro s t h
  have hkeeps := step_keeps h
  exact ⟨hkeeps.bounds, hkeeps.chain⟩

/-- Settles O58: `Keeps`, read for the account of entries. -/
theorem everyEntryIsAccountedFor : Obligations.EveryEntryIsAccountedFor := by
  unfold Obligations.EveryEntryIsAccountedFor
  intro s t h
  exact (step_keeps h).account

/-- Settles O59: `Keeps`, read for the signature ranges and the panel numbers. -/
theorem signatureAndPanelAreKept : Obligations.SignatureAndPanelAreKept := by
  unfold Obligations.SignatureAndPanelAreKept
  intro s t h
  have hkeeps := step_keeps h
  exact ⟨hkeeps.signature, hkeeps.panel⟩

end

section
/-! PROOF. Acts that neither read nor change LPU; PLACE and FLUSH as one answer each (R3 to R5, R16, R162). -/

namespace Sys2Proof.Machine

/-! ### Acts that leave LPU alone -/

/-- `f` neither reads nor changes LPU: it goes past every change of LPU. -/
def LpuBlind (f : State → State) : Prop := ∀ g s, f (s.updLpu g) = (f s).updLpu g

theorem LpuBlind.comp {f g : State → State} (hf : LpuBlind f) (hg : LpuBlind g) : LpuBlind (fun s => f (g s)) :=
  fun k s => (congrArg f (hg k s)).trans (hf k (g s))

/-- A choice that LPU has no part in. -/
theorem LpuBlind.ite {f g : State → State} {p : State → Prop} [DecidablePred p] (hp : ∀ k s, p (s.updLpu k) ↔ p s)
    (hf : LpuBlind f) (hg : LpuBlind g) : LpuBlind (fun s => if p s then f s else g s) := by
  intro k s
  by_cases h : p s
  · simp only [if_pos h, if_pos ((hp k s).mpr h), hf k s]
  · simp only [if_neg h, if_neg (h ∘ (hp k s).mp), hg k s]

theorem LpuBlind.id : LpuBlind (fun s => s) := fun _ _ => rfl

/-- An act that neither reads nor changes LPU. -/
def Act.LpuBlind (act : Act) : Prop := ∀ g s, act (s.updLpu g) = ((act s).1.updLpu g, (act s).2)

theorem Act.LpuBlind.lpu {act : Act} (h : act.LpuBlind) (s : State) : (act s).1.lpu = s.lpu :=
  congrArg (fun r : State × ResultCode × List Byte => r.1.lpu) (h (fun _ => s.lpu) s)

/-- R162: a request taken whose act leaves LPU alone is the act, and its answer. -/
theorem request_blind {kind tag : Byte} {act : Act} {s : State} (h : act.LpuBlind) (hs : Takes s) (hk : kind ≠ 0x50#8) :
    request kind tag act s = answered kind tag (act s).2.1 (act s).2.2 (act s).1 :=
  request_answered kind tag act s (act s).1 (act s).2.1 (act s).2.2 hs (.inl hk) (h.lpu s) (h _ s)

/-! ### Takes -/

theorem takeFrom_blind (rs : List QueueRecord) (g : Lpu → Lpu) (s : State) :
    takeFrom rs (s.updLpu g) = ((takeFrom rs s).1.updLpu g, (takeFrom rs s).2) := by
  induction rs generalizing s with
  | nil => rfl
  | cons r rest ih =>
    cases r with
    | boundary =>
      by_cases hm : s.mode = .sequenceOnly
      · rw [takeFrom_boundary_sequenceOnly rest s hm, takeFrom_boundary_sequenceOnly rest (s.updLpu g) hm]
        rfl
      · by_cases hp : s.pin.takePanel = s.tbc.current
        · rw [takeFrom_boundary_current rest s hm hp, takeFrom_boundary_current rest (s.updLpu g) hm hp]
          rfl
        · rw [takeFrom_boundary_ahead rest s hm hp, takeFrom_boundary_ahead rest (s.updLpu g) hm hp]
          rfl
    | placement p =>
      have hgo : ∀ images c, takeFrom rest (afterRejects p images c (s.updLpu g)) =
          ((takeFrom rest (afterRejects p images c s)).1.updLpu g, (takeFrom rest (afterRejects p images c s)).2) :=
        fun images c => ih (afterRejects p images c s)
      cases hv : componentValid s.tables p.component with
      | false =>
        rw [takeFrom_invalid p rest s hv, takeFrom_invalid p rest (s.updLpu g) hv]
        exact hgo _ _
      | true =>
        by_cases hi : p.image = 0
        · obtain ⟨hnone, hone, hmore⟩ := takeFrom_allImages p rest s hv hi
          obtain ⟨hnone', hone', hmore'⟩ := takeFrom_allImages p rest (s.updLpu g) hv hi
          rcases hg : goodLeft s with _ | ⟨n, _ | ⟨m, more⟩⟩
          · rw [hnone hg, hnone' hg]
            exact hgo _ _
          · rw [hone n hg, hone' n hg]
            rfl
          · rw [hmore n m more hg, hmore' n m more hg]
            rfl
        · cases hb : knownBad s.mode s.tbc s.pin.takePanel p.image with
          | true =>
            rw [takeFrom_knownBad p rest s hv hi hb, takeFrom_knownBad p rest (s.updLpu g) hv hi hb]
            exact hgo _ _
          | false =>
            rw [takeFrom_oneImage p rest s hv hi hb, takeFrom_oneImage p rest (s.updLpu g) hv hi hb]
            rfl

theorem takeForHead_blind : LpuBlind takeForHead := by
  intro g s
  have htake : take (s.updLpu g) = ((take s).1.updLpu g, (take s).2) := takeFrom_blind s.pin.queue g s
  unfold takeForHead
  rw [htake]
  rcases take s with ⟨t, _ | e⟩ <;> rfl

theorem retakeAsk_blind : LpuBlind retakeAsk :=
  .ite (p := fun s => s.pin.ask = true) (fun _ _ => .rfl) takeForHead_blind .id

theorem askPin_blind : LpuBlind askPin :=
  .ite (p := fun s => s.mode = .insertOnly ∧ s.tpc.tape = [] ∧ s.tpc.verified = true ∧ s.pin.ask = false)
    (fun _ _ => .rfl) takeForHead_blind .id

/-! ### Records of a PLACE frame join the queue (R3, R4, R5) -/

/-- R3: a record joins the queue. -/
def joinQueue (r : StreamRecord) (s : State) : State := s.updPin (fun p => { p with queue := p.queue ++ [r.queued] })

/-- R3: the first `n` of the records have joined the queue. -/
def joined (rs : List StreamRecord) (n : Nat) (s : State) : State :=
  { s with pin := { s.pin with queue := s.pin.queue ++ (rs.take n).map StreamRecord.queued } }

theorem joined_zero (rs : List StreamRecord) (s : State) : joined rs 0 s = s := by simp [joined]

theorem joined_cons (r : StreamRecord) (rest : List StreamRecord) (n : Nat) (s : State) :
    joined (r :: rest) (n + 1) s = joined rest n (joinQueue r s) := by
  simp [joined, joinQueue, State.updPin]

theorem placeRecords_ok {r : StreamRecord} {s : State} (h : checkRecord s r = .ok) (rest : List StreamRecord) :
    placeRecords (r :: rest) s =
      ((placeRecords rest (joinQueue r s)).1,
       (placeRecords rest (joinQueue r s)).2.1,
       (placeRecords rest (joinQueue r s)).2.2 + 1) := by
  rw [placeRecords, h]
  rfl

theorem placeRecords_refused {r : StreamRecord} {s : State} (h : checkRecord s r ≠ .ok) (rest : List StreamRecord) :
    placeRecords (r :: rest) s = (s, checkRecord s r, 0) := by
  rw [placeRecords]
  split
  · contradiction
  · rfl

/-- R3: the records before the first refused one join the queue, and that one's code is the result. -/
structure Joins (rs : List StreamRecord) (s : State) (code : ResultCode) (k : Nat) : Prop where
  atMost : k ≤ rs.length
  accepted : ∀ i r, i < k → rs[i]? = some r → checkRecord (joined rs i s) r = .ok
  whole : k = rs.length → code = .ok
  refused : ∀ r, rs[k]? = some r → checkRecord (joined rs k s) r = code ∧ code ≠ .ok

theorem placeRecords_joins (rs : List StreamRecord) (s : State) : ∃ code k,
    placeRecords rs s = (joined rs k s, code, k) ∧ Joins rs s code k := by
  induction rs generalizing s with
  | nil =>
    exact ⟨.ok, 0, by rw [joined_zero, placeRecords], Nat.le_refl 0, fun _ _ h => absurd h (Nat.not_lt_zero _),
      fun _ => rfl, fun _ h => by simp at h⟩
  | cons r rest ih =>
    by_cases hr : checkRecord s r = .ok
    · obtain ⟨code, k, heq, h⟩ := ih (joinQueue r s)
      refine ⟨code, k + 1, ?_, Nat.succ_le_succ h.atMost, fun i x hi hx => ?_, fun hk => h.whole (Nat.succ.inj hk),
        fun x hx => ?_⟩
      · rw [placeRecords_ok hr, heq, joined_cons]
      · cases i with
        | zero =>
          obtain rfl : r = x := by simpa using hx
          rw [joined_zero, hr]
        | succ i =>
          rw [joined_cons]
          exact h.accepted i x (Nat.lt_of_succ_lt_succ hi) (by simpa using hx)
      · rw [joined_cons]
        exact h.refused x (by simpa using hx)
    · refine ⟨checkRecord s r, 0, ?_, Nat.zero_le _, fun _ _ h => absurd h (Nat.not_lt_zero _), fun h => ?_,
        fun x hx => ?_⟩
      · rw [placeRecords_refused hr, joined_zero]
      · simp at h
      · obtain rfl : r = x := by simpa using hx
        rw [joined_zero]
        exact ⟨rfl, hr⟩

theorem checkRecord_updLpu (g : Lpu → Lpu) (s : State) (r : StreamRecord) :
    checkRecord (s.updLpu g) r = checkRecord s r := by
  cases r <;> rfl

theorem placeRecords_blind (rs : List StreamRecord) (g : Lpu → Lpu) (s : State) :
    placeRecords rs (s.updLpu g) = ((placeRecords rs s).1.updLpu g, (placeRecords rs s).2) := by
  induction rs generalizing s with
  | nil => rfl
  | cons r rest ih =>
    by_cases hr : checkRecord s r = .ok
    · rw [placeRecords_ok hr, placeRecords_ok ((checkRecord_updLpu g s r).trans hr)]
      have hjoin : joinQueue r (s.updLpu g) = (joinQueue r s).updLpu g := rfl
      rw [hjoin, ih]
    · rw [placeRecords_refused hr, placeRecords_refused (by rwa [checkRecord_updLpu]), checkRecord_updLpu]

/-! ### PLACE (R3, R14, R165) -/

theorem actPlace_badLength {payload : List Byte} (h : walkRecords payload = none) (s : State) :
    actPlace payload s = (s, .badLength, []) := by
  unfold actPlace
  rw [h]

theorem actPlace_count {payload : List Byte} {rs : List StreamRecord} (h : walkRecords payload = some rs)
    (hn : rs.length = 0 ∨ 24 < rs.length) (s : State) : actPlace payload s = (s, .badLength, []) := by
  unfold actPlace
  rw [h]
  exact if_pos hn

theorem actPlace_records {payload : List Byte} {rs : List StreamRecord} (h : walkRecords payload = some rs)
    (hn : ¬ (rs.length = 0 ∨ 24 < rs.length)) {s : State} {code : ResultCode} {k : Nat}
    (hp : placeRecords rs s = (joined rs k s, code, k)) :
    actPlace payload s = (if k = 0 then s else retakeAsk (joined rs k s), code,
      [byte k, byte (64 - (joined rs k s).pin.queue.length)]) := by
  unfold actPlace
  rw [h]
  refine (if_neg hn).trans ?_
  rw [hp]
  by_cases hk : k = 0
  · subst hk
    rw [joined_zero]
  · simp only [if_neg hk]

theorem actPlace_blind (payload : List Byte) : (actPlace payload).LpuBlind := by
  intro g s
  unfold actPlace
  split
  · rfl
  · split
    · rfl
    · rw [placeRecords_blind]
      simp only []
      split
      · rfl
      · rw [retakeAsk_blind]
        rfl

theorem exec_place {tag : Byte} {payload : List Byte} {s : State} (hs : Takes s) :
    exec (.place tag payload) s = .next (answered 0x10 tag (actPlace payload s).2.1 (actPlace payload s).2.2
      (actPlace payload s).1) :=
  congrArg Host.Outcome.next (request_blind (actPlace_blind payload) hs (by decide))

/-- A frame of one record that passes its checks. -/
theorem exec_place_one {tag : Byte} {payload : List Byte} {r : StreamRecord} {s : State} (hs : Takes s)
    (hw : walkRecords payload = some [r]) (hr : checkRecord s r = .ok) :
    exec (.place tag payload) s = .next (answered 0x10 tag .ok [1, byte (63 - s.pin.queue.length)]
      (retakeAsk { s with pin := { s.pin with queue := s.pin.queue ++ [r.queued] } })) := by
  have hp : placeRecords [r] s = (joined [r] 1 s, .ok, 1) := by
    rw [placeRecords_ok hr, joined_cons, joined_zero]
    rfl
  have hfree : 64 - (joined [r] 1 s).pin.queue.length = 63 - s.pin.queue.length := by
    simp only [joined, List.take_succ_cons, List.take_zero, List.map_cons, List.map_nil, List.length_append,
      List.length_singleton]
    omega
  rw [exec_place hs, actPlace_records hw (by simp) hp, hfree]
  rfl

/-- A frame of one record that is refused. -/
theorem exec_place_refused {tag : Byte} {payload : List Byte} {r : StreamRecord} {c : ResultCode} {s : State}
    (hs : Takes s) (hw : walkRecords payload = some [r]) (hr : checkRecord s r = c) (hc : c ≠ .ok) :
    exec (.place tag payload) s = .next (answered 0x10 tag c [0, byte (64 - s.pin.queue.length)] s) := by
  subst hr
  have hp : placeRecords [r] s = (joined [r] 0 s, checkRecord s r, 0) := by
    rw [placeRecords_refused hc, joined_zero]
  rw [exec_place hs, actPlace_records hw (by simp) hp, joined_zero]
  rfl

end Sys2Proof.Machine

open Sys2Proof Sys2Proof.Machine

/-- Settles O15: a boundary is a frame of one record. -/
theorem boundaryNeedsRoomAlone : Obligations.BoundaryNeedsRoomAlone := by
  unfold Obligations.BoundaryNeedsRoomAlone
  intro tag s hs
  refine ⟨fun hroom => exec_place_one (r := .boundary) hs rfl (if_pos hroom), fun hfull => ?_⟩
  have hfree : 64 - s.pin.queue.length = 0 := Nat.sub_eq_zero_of_le hfull
  have href := exec_place_refused (tag := tag) (payload := [2]) (r := .boundary) hs rfl
    (if_neg (Nat.not_lt.mpr hfull)) (by decide)
  rw [hfree] at href
  exact href

/-- Settles O17: the walk, the count, and the first refused record. -/
theorem placeTakesUpToTheFirstRefused : Obligations.PlaceTakesUpToTheFirstRefused := by
  unfold Obligations.PlaceTakesUpToTheFirstRefused
  refine ⟨fun s type p ht => if_pos (bne_iff_ne.mpr ht), fun tag payload s hs => ⟨fun hw => ?_, fun rs hw => ⟨fun hn => ?_,
    fun h1 h24 => ?_⟩⟩⟩
  · rw [exec_place hs, actPlace_badLength hw]
  · rw [exec_place hs, actPlace_count hw hn]
  · obtain ⟨code, k, hp, h⟩ := placeRecords_joins rs s
    refine ⟨k, code, h.atMost, h.accepted, h.whole, h.refused, ?_⟩
    rw [exec_place hs, actPlace_records hw (by omega) hp]
    rfl

end

section
/-! PROOF. The checks of a placement record in order, and FLUSH (R4, R16, R165). -/

namespace Sys2Proof.Machine

/-! ### A placement record's ten bytes (R165) -/

theorem u16_be16 {n : Nat} (h : n < 65536) : u16 (byte (n / 256)) (byte n) = n := by
  simp only [u16, byte, BitVec.toNat_ofNat]
  omega

/-- R165: bit 7 of the last byte is the orientation, the rest the image number. -/
theorem imageByte_spec {p : Placement} (h : p.image < 128) :
    (if (byte (p.image + if p.orientation = .deg90 then 128 else 0)).toNat < 128 then Orientation.deg0 else .deg90)
        = p.orientation
      ∧ (byte (p.image + if p.orientation = .deg90 then 128 else 0)).toNat % 128 = p.image := by
  simp only [byte, BitVec.toNat_ofNat]
  cases p.orientation
  · simp only [reduceCtorEq, if_false]
    exact ⟨if_pos (by omega), by omega⟩
  · simp only [if_true]
    exact ⟨if_neg (by omega), by omega⟩

theorem placementOf_bytes {p : Placement} (hc : p.component < 65536) (hx : p.x < 65536) (hy : p.y < 65536)
    (hi : p.image < 128) :
    placementOf (byte (p.step.toNat / 256)) (byte p.step.toNat) (byte (p.component / 256)) (byte p.component)
      (byte (p.x / 256)) (byte p.x) (byte (p.y / 256)) (byte p.y)
      (byte (p.image + if p.orientation = .deg90 then 128 else 0)) = p := by
  obtain ⟨horient, himage⟩ := imageByte_spec hi
  unfold placementOf
  rw [u16_be16 hc, u16_be16 hx, u16_be16 hy, u16_be16 p.step.isLt, BitVec.ofNat_toNat, BitVec.setWidth_eq, horient,
    himage]

/-- R165: ten bytes whose first is not a boundary's walk into one record of that type. -/
theorem walkRecords_tenByte {p : Placement} (hc : p.component < 65536) (hx : p.x < 65536) (hy : p.y < 65536)
    (hi : p.image < 128) {type : Byte} (ht : type ≠ 2) :
    walkRecords (type :: (placementBytes p).tail) = some [.tenByte type p] := by
  simp only [placementBytes, be16, List.cons_append, List.nil_append, List.tail_cons]
  rw [walkRecords, placementOf_bytes hc hx hy hi, walkRecords]
  · rfl
  · exact ht

/-! ### The checks in order (R4) -/

section

variable {s : State} {p : Placement}

theorem checkRecord_unknown (h : componentValid s.tables p.component = false) :
    checkRecord s (.tenByte 1 p) = .unknownComponent := by
  simp [checkRecord, h]

theorem checkRecord_busy (h : componentValid s.tables p.component = true) (hq : s.tbc.pattern = none) :
    checkRecord s (.tenByte 1 p) = .busy := by
  simp [checkRecord, h, hq]

/-- R4 checks 4 to 6, with the component valid and a pattern loaded. -/
theorem checkRecord_pattern {q : Pattern} (h : componentValid s.tables p.component = true)
    (hq : s.tbc.pattern = some q) : checkRecord s (.tenByte 1 p) =
      if q.count < p.image then .badIndex
      else if !(imagesChecked q.count p.image).all (fun n => inTravel (q.target n p.x p.y)) then .offTable
      else if s.pin.queue.length < 64 then .ok else .full := by
  simp [checkRecord, h, hq, Config.queueCapacity]

end

/-- R4 check 5: the images whose target is checked. -/
theorem mem_imagesChecked {n count image : Nat} (hi : image ≤ count) :
    n ∈ imagesChecked count image ↔ 1 ≤ n ∧ n ≤ count ∧ (image = 0 ∨ image = n) := by
  unfold imagesChecked
  split
  case isTrue h =>
    rw [List.mem_range'_1]
    omega
  case isFalse h =>
    rw [List.mem_singleton]
    omega

theorem inTravel_target (q : Pattern) (n x y : Nat) : inTravel (q.target n x y) = true ↔
    0 ≤ (q.imageOrigin n).1 + x ∧ (q.imageOrigin n).1 + x ≤ 45000
      ∧ 0 ≤ (q.imageOrigin n).2 + y ∧ (q.imageOrigin n).2 + y ≤ 36000 :=
  decide_eq_true_iff

/-! ### FLUSH (R16) -/

/-- The placement records among queue records. -/
def placementsOf (q : List QueueRecord) : List Placement :=
  q.filterMap (fun r => match r with
    | .placement p => some p
    | .boundary => none)

theorem placementCount_eq (q : List QueueRecord) : placementCount q = (placementsOf q).length := by
  unfold placementCount placementsOf
  induction q with
  | nil => rfl
  | cons r q ih => cases r <;> simpa using ih

/-- R16: every placement record is counted and recorded, from the queue's head to its tail. -/
theorem flushRecords_eq (q : List QueueRecord) (s : State) : q.foldl (fun t r => flushRecord r t) s = { s with
    pin := { s.pin with flushed := s.pin.flushed + BitVec.ofNat 32 (placementsOf q).length }
    rrg := (placementsOf q).foldl
      (fun g p => g.write ⟨.flushed, p.step, s.pin.takePanel, p.image, p.component, 0, none⟩) s.rrg } := by
  induction q generalizing s with
  | nil => simp [placementsOf]
  | cons r q ih =>
    cases r with
    | boundary => exact ih s
    | placement p =>
      have hcount : s.pin.flushed + 1#32 + BitVec.ofNat 32 (placementsOf q).length =
          s.pin.flushed + BitVec.ofNat 32 ((placementsOf q).length + 1) := by
        rw [Nat.add_comm (placementsOf q).length, BitVec.ofNat_add, ← BitVec.add_assoc]
      have hcons : placementsOf (.placement p :: q) = p :: placementsOf q := rfl
      rw [List.foldl_cons, ih, hcons, List.length_cons, ← hcount]
      rfl

theorem flushQueue_eq (s : State) : flushQueue s = { s with
    pin := { s.pin with
      queue := [], cursor := none, ask := false
      flushed := s.pin.flushed + BitVec.ofNat 32 (placementsOf s.pin.queue).length }
    rrg := (placementsOf s.pin.queue).foldl
      (fun g p => g.write ⟨.flushed, p.step, s.pin.takePanel, p.image, p.component, 0, none⟩) s.rrg } := by
  rw [flushQueue, flushRecords_eq]
  rfl

theorem actFlush_blind : actFlush.LpuBlind := fun g s => by
  unfold actFlush
  rw [flushQueue_eq, flushQueue_eq]
  rfl

/-- What stands in the middle of three parts. -/
theorem drop_take_middle {α : Type} {a b : List α} (c : List α) {m n : Nat} (ha : a.length = m) (hb : b.length = n) :
    ((a ++ b ++ c).drop m).take n = b := by
  rw [List.append_assoc, List.drop_left' ha, List.take_left' hb]

/-- R167: bytes 43 to 46 of the status record. -/
theorem statusRecord_flushed (s : State) : ((statusRecord s).drop 43).take 4 = be32 s.pin.flushed.toNat := by
  unfold statusRecord
  simp only [List.append_assoc (_ ++ be32 s.pin.flushed.toNat)]
  refine drop_take_middle _ ?_ ?_
  all_goals simp [be16, be32]

end Sys2Proof.Machine

open Sys2Proof Sys2Proof.Machine

/-- Settles O16: a placement is a frame of one record, whose checks are those of `checkRecord`. -/
theorem placementChecksInOrder : Obligations.PlacementChecksInOrder := by
  unfold Obligations.PlacementChecksInOrder
  intro tag p s hs hlen hc hx hy hi refused targets
  have hw : walkRecords (placementBytes p) = some [.tenByte 1 p] := walkRecords_tenByte hc hx hy hi (by decide)
  refine ⟨fun type h1 h2 => ?_, fun hv => ?_, fun hv hq => ?_, fun q hv hq => ?_⟩
  · exact exec_place_refused hs (walkRecords_tenByte hc hx hy hi h2) (if_pos (bne_iff_ne.mpr h1)) (by decide)
  · exact exec_place_refused hs hw (checkRecord_unknown hv) (by decide)
  · exact exec_place_refused hs hw (checkRecord_busy hv hq) (by decide)
  · have hcheck := checkRecord_pattern hv hq
    refine ⟨fun hbig => ?_, fun hsmall n h1 hn hp hoff => ?_, fun hsmall hall => ?_⟩
    · rw [if_pos hbig] at hcheck
      exact exec_place_refused hs hw hcheck (by decide)
    · have hmem := (mem_imagesChecked hsmall).mpr ⟨h1, hn, hp⟩
      have hoffTable : (!(imagesChecked q.count p.image).all (fun n => inTravel (q.target n p.x p.y))) = true := by
        rw [Bool.not_eq_true', List.all_eq_false]
        exact ⟨n, hmem, fun h => hoff ((inTravel_target q n p.x p.y).mp h)⟩
      rw [if_neg (Nat.not_lt.mpr hsmall), if_pos hoffTable] at hcheck
      exact exec_place_refused hs hw hcheck (by decide)
    · have hin : ¬ (!(imagesChecked q.count p.image).all (fun n => inTravel (q.target n p.x p.y))) = true := by
        rw [Bool.not_eq_true', Bool.not_eq_false, List.all_eq_true]
        intro n hmem
        obtain ⟨h1, hn, hp⟩ := (mem_imagesChecked hsmall).mp hmem
        exact (inTravel_target q n p.x p.y).mpr (hall n h1 hn hp)
      rw [if_neg (Nat.not_lt.mpr hsmall), if_neg hin] at hcheck
      refine ⟨fun hfull => ?_, fun hroom => ?_⟩
      · rw [if_neg (by omega)] at hcheck
        exact exec_place_refused hs hw hcheck (by decide)
      · rw [if_pos hroom] at hcheck
        exact exec_place_one hs hw hcheck

/-- Settles O18: the order is the queue's own. -/
theorem flushEmptiesTheQueue : Obligations.FlushEmptiesTheQueue := by
  unfold Obligations.FlushEmptiesTheQueue
  refine ⟨fun tag s hs => ⟨placementsOf s.pin.queue, .refl _, ?_⟩, statusRecord_flushed⟩
  have hexec : exec (.flush tag) s = .next (answered 0x25 tag .ok [byte (placementCount s.pin.queue)] (flushQueue s)) :=
    congrArg Host.Outcome.next (request_blind actFlush_blind hs (by decide))
  rw [hexec, placementCount_eq, flushQueue_eq]
  rfl

end

section
/-! PROOF. TAPE CLEAR, and what an ask of the head does (R14, R86, R104). -/

namespace Sys2Proof.Machine

/-! ### The ask of the head (R14) -/

/-- R14, R82: the Tape List entry an ask of the head that yields `e` makes, tested on joining. -/
def askedEntry (s : State) (e : Entry) : TapeEntry :=
  ⟨e, capturedOf s.tables e.component (componentAt s.tables e.component).station, knownBad s.mode s.tbc e.panel e.image⟩

theorem takeForHead_none {s t : State} (h : take s = (t, none)) :
    takeForHead s = { t with pin := { t.pin with ask := true } } := by
  unfold takeForHead
  rw [h]
  rfl

theorem takeForHead_some {s t : State} {e : Entry} (h : take s = (t, some e)) : takeForHead s = { t with
    pin := { t.pin with ask := false }
    tpc := { t.tpc with tape := s.tpc.tape ++ [askedEntry s e] }
    csq := { t.csq with
      seq := heldOf s.alc.effective (festoonFull s.tables (s.tpc.tape ++ [askedEntry s e])) s.csq.seq } } := by
  obtain ⟨n, heffect⟩ := take_effect_of_eq h
  obtain ⟨-, htables, hcsq, -, htpc, -, -, htbc, halc⟩ := heffect.same
  unfold takeForHead
  rw [h]
  simp only [joinTape, heldTest, askedEntry, State.mode, State.updCsq, State.updTpc, State.updPin, htables, hcsq, htpc,
    htbc, halc, Bool.false_or]

theorem take_ask {s t : State} {o : Option Entry} (h : take s = (t, o)) : t.pin.ask = s.pin.ask := by
  obtain ⟨n, heffect⟩ := take_effect_of_eq h
  rw [heffect.frame]

theorem festoonFull_insertOnly {t : Tables} (h : t.constants.mode = .insertOnly) (tape : List TapeEntry) :
    festoonFull t tape = false := by
  rw [festoonFull, h]
  rfl

/-! ### TAPE CLEAR (R86) -/

theorem tapeClearBusy_iff (s : State) : tapeClearBusy s = true ↔
    (s.hdc.head ≠ .idle ∧ s.hdc.head ≠ .fault) ∨ ∃ p, s.tpc.transfer = some ⟨.tape, p⟩ ∧ p ≠ .waitTape := by
  unfold tapeClearBusy
  rw [Bool.or_eq_true]
  refine or_congr (by simp) ?_
  split
  case h_1 p h => simp [h]
  case h_2 h =>
    refine ⟨fun hf => absurd hf (by decide), fun ⟨p, hp, _⟩ => ?_⟩
    exact (h p hp).elim

/-- R86 steps 1 to 3 with the count told (R83): the tape is empty and verified, every entry is lost and recorded. -/
def tapeCleared (s : State) : State := { s with
  hdc := { s.hdc with lost := s.hdc.lost + BitVec.ofNat 32 s.tpc.tape.length }
  rrg := s.tpc.tape.foldl (fun g e => g.write
    ⟨.lost, e.entry.step, e.entry.panel, e.entry.image, e.entry.component, e.captured.station, none⟩) s.rrg
  tbc := { s.tbc with
    inPosition := if s.tpc.tape.any (fun e => s.tbc.inPosition == .entry e.entry.uid) then .none else s.tbc.inPosition }
  tpc := { s.tpc with tape := [], verified := true, reel := if s.mode = .sequenceOnly then 0 else s.tpc.reel }
  csq := { s.csq with seq := heldOf s.alc.effective (festoonFull s.tables []) s.csq.seq } }

theorem clearTape_eq (s : State) : clearTape s = askPin (commandWaiting (tapeCleared s)) := by
  unfold clearTape
  rw [loseEntries_eq]
  rfl

/-- R85: a taping that waits for the tape is commanded, and no other transfer. -/
theorem commandWaiting_eq (s : State) : commandWaiting s =
    if s.tpc.transfer = some ⟨.tape, .waitTape⟩ then { s with
      tpc := { s.tpc with
        transfer := some ⟨.tape, if s.alc.estop = .asserted then .suspended else .running⟩
        timer := if s.alc.estop = .asserted then .suspended s.tables.constants.taperTimeout
          else .running s.tables.constants.taperTimeout }
      out := { s.out with reTaper := .start } }
    else s := by
  unfold commandWaiting
  split
  case h_1 h =>
    rw [if_pos h]
    by_cases he : s.alc.estop = .asserted
    · simp [commandTransfer, driveTransfer, he, State.updTpc, State.updOut]
    · simp [commandTransfer, driveTransfer, he, State.updTpc, State.updOut]
  case h_2 h => rw [if_neg h]

theorem commandWaiting_blind : LpuBlind commandWaiting := by
  intro g s
  rw [commandWaiting_eq, commandWaiting_eq]
  by_cases h : s.tpc.transfer = some ⟨.tape, .waitTape⟩
  · rw [if_pos h, if_pos (show (s.updLpu g).tpc.transfer = _ from h)]
    rfl
  · rw [if_neg h, if_neg (show ¬ (s.updLpu g).tpc.transfer = _ from h)]

theorem actTapeClear_blind : actTapeClear.LpuBlind := by
  intro g s
  have hclear : clearTape (s.updLpu g) = (clearTape s).updLpu g := by
    rw [clearTape_eq, clearTape_eq]
    exact (askPin_blind.comp commandWaiting_blind) g (tapeCleared s)
  unfold actTapeClear
  by_cases h : tapeClearBusy s = true
  · rw [if_pos h, if_pos (show tapeClearBusy (s.updLpu g) = true from h)]
  · rw [if_neg h, if_neg (show ¬ tapeClearBusy (s.updLpu g) = true from h), hclear]
    rfl

theorem exec_tapeClear {tag : Byte} {s : State} (hs : Takes s) :
    exec (.tapeClear tag) s = .next (answered 0x32 tag (actTapeClear s).2.1 (actTapeClear s).2.2 (actTapeClear s).1) :=
  congrArg Host.Outcome.next (request_blind actTapeClear_blind hs (by decide))

end Sys2Proof.Machine

open Sys2Proof Sys2Proof.Machine

/-- Settles O37: the closed form of the five steps, and the two asks by what the take yields. -/
theorem tapeClearRequest : Obligations.TapeClearRequest := by
  unfold Obligations.TapeClearRequest
  refine ⟨fun tag s hs => ?_, fun s t o htake => ?_, fun s t o htake => ?_⟩
  · intro busy n named cleared full commanded
    rw [exec_tapeClear hs, actTapeClear]
    refine ⟨fun h => ?_, fun h => ?_⟩
    · rw [if_pos ((tapeClearBusy_iff s).mpr h)]
    · rw [if_neg (h ∘ (tapeClearBusy_iff s).mp), clearTape_eq, commandWaiting_eq]
      rfl
  · intro asks
    refine ⟨fun h => if_neg h, fun h ho => ?_, fun e h ho => ?_⟩
    · subst ho
      exact (if_pos h).trans (takeForHead_none htake)
    · subst ho
      refine ((if_pos h).trans (takeForHead_some htake)).trans ?_
      obtain ⟨hmode, htape, -, -⟩ := h
      rw [htape, List.nil_append, festoonFull_insertOnly hmode]
      rfl
  · refine ⟨fun h => if_neg (by rw [h]; decide), fun h ho => ?_, fun e h ho => ?_⟩
    · subst ho
      have hask : t.pin.ask = true := (take_ask htake).trans h
      refine ⟨((if_pos h).trans (takeForHead_none htake)).trans ?_, hask⟩
      rw [← hask]
    · subst ho
      exact (if_pos h).trans (takeForHead_some htake)

end

section
/-! PROOF. The posts after a power-on reset, and the state it leaves (R137, R142, R143, R155, R168, R172). -/

namespace Sys2Proof.Machine

/-! ### Posts to the STOP channel while requested STOP stands -/

/-- R142, R155: the entries of the kinds posted, numbered from 0, in a part that has just been reset. -/
def firstEntries (kinds : List AlarmKind) : List AlarmEntry :=
  kinds.zipIdx.map (fun x => ⟨BitVec.ofNat 16 x.2, x.1, none, .stop, 0, 0, 0⟩)

@[simp] theorem firstEntries_length (kinds : List AlarmKind) : (firstEntries kinds).length = kinds.length := by
  simp [firstEntries]

theorem firstEntries_append (kinds : List AlarmKind) (k : AlarmKind) :
    firstEntries (kinds ++ [k]) = firstEntries kinds ++ [⟨BitVec.ofNat 16 kinds.length, k, none, .stop, 0, 0, 0⟩] := by
  simp [firstEntries, List.zipIdx_append]

/-- A property of the kind alone holds of an entry when it holds of a kind posted. -/
theorem firstEntries_any (kinds : List AlarmKind) (p : AlarmKind → Bool) :
    (firstEntries kinds).any (fun e => p e.kind) = kinds.any p := by
  have hkinds : (firstEntries kinds).map AlarmEntry.kind = kinds := by
    simp [firstEntries, Function.comp_def]
  conv_rhs => rw [← hkinds, List.any_map]
  rfl

/-- R142, R143, R148: ALC of a part that has just been reset, after those posts. -/
def Alc.afterPosts (estop : LineState) (kinds : List AlarmKind) : Alc :=
  { Alc.reset with
    estop := estop
    stopCh := ⟨firstEntries kinds, 0, 0⟩
    nextSeq := BitVec.ofNat 16 kinds.length
    horn := !kinds.isEmpty
    red := !kinds.isEmpty }

/-- R159, R172: LPU after power-on, before any notice. -/
def Lpu.powered (pins : BitVec 5) : Lpu := { Lpu.reset with addressPins := pins, address := addressOf pins }

/-- R168: the ALARM NOTICE of an entry. -/
def noticeOf (l : Lpu) (e : AlarmEntry) : OwnFrame := ⟨mkFrame l.sender 0x81 0 (alarmBytes e), false⟩

/-- R161, R168: LPU after power-on and the notices of `es`: two wait, the first of them is being sent, the others are
dropped. -/
def Lpu.afterNotices (pins : BitVec 5) (es : List AlarmEntry) : Lpu :=
  { Lpu.powered pins with
    answers := (es.take 2).map (noticeOf (Lpu.powered pins))
    noticeDrops := es.length - 2
    sending := if es = [] then none else some .own }

theorem afterNotices_notice (pins : BitVec 5) (es : List AlarmEntry) (e : AlarmEntry) (hn : es.length < 8) :
    (Lpu.afterNotices pins es).notice e = Lpu.afterNotices pins (es ++ [e]) := by
  match es with
  | [] => rfl
  | [_] => rfl
  | a :: b :: rest =>
    have hdrops : satInc 65535 rest.length = (rest ++ [e]).length := by
      rw [List.length_append]
      exact if_pos (by simp only [List.length_cons] at hn; omega)
    show { Lpu.afterNotices pins (a :: b :: rest) with noticeDrops := satInc 65535 rest.length } = _
    rw [hdrops]
    rfl

/-! ### The posts -/

/-- R155: a part that has just been powered on, after posts to the STOP channel. -/
def afterPosts (pins : BitVec 5) (estop : LineState) (kinds : List AlarmKind) (s : State) : State :=
  { s with alc := Alc.afterPosts estop kinds, lpu := Lpu.afterNotices pins (firstEntries kinds) }

theorem afterPosts_nil {pins : BitVec 5} {estop : LineState} {s : State} (hl : s.lpu = Lpu.powered pins)
    (ha : s.alc = { Alc.reset with estop := estop }) : afterPosts pins estop [] s = s := by
  have hlpu : Lpu.afterNotices pins (firstEntries []) = s.lpu := hl.symm
  have halc : Alc.afterPosts estop [] = s.alc := ha.symm
  rw [afterPosts, hlpu, halc]

/-- R38, R147: a recomputation at requested STOP sets the lamps alone while the sequencer is PURGING. -/
theorem recompute_stopped {s : State} (hr : s.alc.requested = .stop) (he : s.alc.effective = .stop)
    (hq : s.csq.seq = .purging) : recompute s = s.updAlc lampsOf := by
  have heff : effectiveOf s.alc = .stop := by
    rw [effectiveOf_eq, if_pos (.inr (.inr hr))]
  have hsame : s.updAlc (fun a => lampsOf { a with effective := effectiveOf a }) = s.updAlc lampsOf := by
    simp only [State.updAlc, heff, ← he]
  have hidle : idleTest (s.updAlc lampsOf) = s.updAlc lampsOf :=
    if_neg fun ⟨h, _⟩ => by rw [updAlc_csq, hq] at h; exact h.elim nofun nofun
  unfold recompute
  rw [hsame]
  exact (congrArg idleTest (if_pos rfl)).trans hidle

/-- R142: the entry a kind posted next gets. -/
def nextEntry (kinds : List AlarmKind) (k : AlarmKind) : AlarmEntry :=
  ⟨BitVec.ofNat 16 kinds.length, k, none, .stop, 0, 0, 0⟩

theorem afterPosts_append (estop : LineState) (kinds : List AlarmKind) (k : AlarmKind) :
    lampsOf ((Alc.afterPosts estop kinds).append .stop (nextEntry kinds k)) = Alc.afterPosts estop (kinds ++ [k]) := by
  have hseq : BitVec.ofNat 16 kinds.length + 1#16 = BitVec.ofNat 16 (kinds ++ [k]).length := by
    rw [List.length_append, BitVec.ofNat_add]
    rfl
  have hlamp : (!(firstEntries (kinds ++ [k])).isEmpty) = true := by
    rw [firstEntries_append]
    simp
  have hne : (!(kinds ++ [k]).isEmpty) = true := by simp
  simp only [Alc.append, Alc.afterPosts, Alc.channel, Alc.setChannel, lampsOf, nextEntry, ← firstEntries_append, hlamp,
    hne, ← hseq]
  simp [latched, Alc.reset]

/-- R142 step 4, R168: the entry of one more kind has joined its channel and had its notice. -/
def noticed (pins : BitVec 5) (estop : LineState) (kinds : List AlarmKind) (k : AlarmKind) (s : State) : State :=
  ((afterPosts pins estop kinds s).updAlc (·.append .stop (nextEntry kinds k))).updLpu (·.notice (nextEntry kinds k))

theorem noticed_lamps {kinds : List AlarmKind} (hn : kinds.length < 8) (pins : BitVec 5) (estop : LineState)
    (k : AlarmKind) (s : State) :
    (noticed pins estop kinds k s).updAlc lampsOf = afterPosts pins estop (kinds ++ [k]) s := by
  have hroom : (firstEntries kinds).length < 8 := by rwa [firstEntries_length]
  rw [afterPosts, ← afterPosts_append, firstEntries_append, ← afterNotices_notice pins _ _ hroom]
  rfl

theorem abortSweep_none {s : State} (h : s.shu.sweep = none) : abortSweep s = s := by
  unfold abortSweep
  rw [h]

/-- R142 to R144: one more kind is posted. -/
theorem post_afterPosts {pins : BitVec 5} {estop : LineState} {kinds : List AlarmKind} {k : AlarmKind} {s : State}
    (hq : s.csq.seq = .purging) (hs : s.shu.sweep = none) (hk : Alc.reset.mapOf k = ⟨.stop, false⟩)
    (hnew : k ∉ kinds) (hn : kinds.length < 8) :
    post k none (afterPosts pins estop kinds s) = afterPosts pins estop (kinds ++ [k]) s := by
  have hmap : (afterPosts pins estop kinds s).alc.mapOf k = ⟨.stop, false⟩ := hk
  have hfresh : ¬ (firstEntries kinds).any (·.sameAs k none) = true := by
    intro h
    obtain ⟨e, he, hsame⟩ := List.any_eq_true.mp h
    obtain ⟨x, hx, rfl⟩ := List.mem_map.mp he
    simp only [AlarmEntry.sameAs, Bool.and_eq_true, beq_iff_eq] at hsame
    exact hnew (hsame.1 ▸ List.fst_mem_of_mem_zipIdx hx)
  have hroom : (firstEntries kinds).length < 8 := by rwa [firstEntries_length]
  have hpost : post k none (afterPosts pins estop kinds s) = recompute (abortSweep (noticed pins estop kinds k s)) := by
    unfold post postWith
    rw [hmap]
    exact (if_neg hfresh).trans (if_pos hroom)
  rw [hpost, abortSweep_none (s := noticed pins estop kinds k s) hs,
    recompute_stopped (s := noticed pins estop kinds k s) rfl rfl hq, noticed_lamps hn]

/-- R155: the posts of a list of kinds, one after another. -/
theorem posts_afterPosts {pins : BitVec 5} {estop : LineState} {s : State} (hq : s.csq.seq = .purging)
    (hs : s.shu.sweep = none) (kinds done : List AlarmKind) (hk : ∀ k ∈ kinds, Alc.reset.mapOf k = ⟨.stop, false⟩)
    (hnodup : (done ++ kinds).Nodup) (hn : (done ++ kinds).length ≤ 8) :
    kinds.foldl (fun t k => post k none t) (afterPosts pins estop done s) = afterPosts pins estop (done ++ kinds) s := by
  induction kinds generalizing done with
  | nil => simp
  | cons k rest ih =>
    have hnew : k ∉ done := fun h => (List.nodup_append.mp hnodup).2.2 k h k List.mem_cons_self rfl
    have hsplit : done ++ k :: rest = (done ++ [k]) ++ rest := by simp
    have hroom : done.length < 8 := by
      rw [List.length_append, List.length_cons] at hn
      omega
    rw [List.foldl_cons, post_afterPosts hq hs (hk k List.mem_cons_self) hnew hroom, hsplit]
    exact ih (done ++ [k]) (fun x hx => hk x (List.mem_cons_of_mem k hx)) (hsplit ▸ hnodup) (hsplit ▸ hn)

/-! ### The conditions posted (R155) -/

/-- R155: in whatever order, the conditions that stand are posted, each once. -/
theorem repostsDue_perm (s : State) :
    (repostsDue s).Perm ([AlarmKind.estop, .tapeBreak, .tableLimit].filter (conditionStands s)) := by
  unfold repostsDue
  split
  case h_1 h => rw [h]
  case h_2 k h => rw [h]
  case h_3 h =>
    have hlt : Config.repostOrder s.resets % 6 < repostOrders.length := Nat.mod_lt _ (by decide)
    have hall : ∀ o ∈ repostOrders, o.Perm [AlarmKind.estop, .tapeBreak, .tableLimit] := by decide
    rw [List.getD_eq_getElem _ _ hlt]
    exact (hall _ (List.getElem_mem hlt)).filter _

theorem mem_repostsDue {s : State} {k : AlarmKind} : k ∈ repostsDue s ↔
    (k = .estop ∧ s.alc.estop = .asserted) ∨ (k = .tapeBreak ∧ s.tpc.tension = .broken)
      ∨ (k = .tableLimit ∧ s.tbc.limits = .active) := by
  rw [(repostsDue_perm s).mem_iff, List.mem_filter]
  simp only [List.mem_cons, List.not_mem_nil, or_false]
  constructor
  · rintro ⟨rfl | rfl | rfl, h⟩
    · exact .inl ⟨rfl, by simpa [conditionStands] using h⟩
    · exact .inr (.inl ⟨rfl, by simpa [conditionStands] using h⟩)
    · exact .inr (.inr ⟨rfl, by simpa [conditionStands] using h⟩)
  · rintro (⟨rfl, h⟩ | ⟨rfl, h⟩ | ⟨rfl, h⟩)
    · exact ⟨.inl rfl, by simp [conditionStands, h]⟩
    · exact ⟨.inr (.inl rfl), by simp [conditionStands, h]⟩
    · exact ⟨.inr (.inr rfl), by simp [conditionStands, h]⟩

theorem repostsDue_nodup (s : State) : (repostsDue s).Nodup := by
  rw [(repostsDue_perm s).nodup_iff]
  exact List.Nodup.filter _ (by decide)

theorem repostsDue_length (s : State) : (repostsDue s).length ≤ 3 := by
  rw [(repostsDue_perm s).length_eq]
  exact List.length_filter_le _ _

/-- R139: the three kinds go to STOP by the map of a power-on reset. -/
theorem repostsDue_map {s : State} : ∀ k ∈ repostsDue s, Alc.reset.mapOf k = ⟨.stop, false⟩ := by
  intro k hk
  rcases mem_repostsDue.mp hk with ⟨rfl, -⟩ | ⟨rfl, -⟩ | ⟨rfl, -⟩ <;> rfl

/-! ### The state after a power-on reset -/

/-- R128, R137: the release is commanded, and waits while the E-stop line is asserted. -/
theorem release_poweredOn (pins : BitVec 5) (e : LineState) (b : Tension) (l : LimitState) (s : State) :
    releaseAtReset (poweredOn pins e b l s) = { poweredOn pins e b l s with
      tbc := { Tbc.reset with
        limits := l
        handler := some ⟨.release, if e = .asserted then .suspended else .running⟩
        handlerTimer := if e = .asserted then .suspended 3000 else .running 3000 } } := by
  cases e <;> rfl

/-- The conditions that stand after a power-on reset. -/
def powerOnPosts (pins : BitVec 5) (e : LineState) (b : Tension) (l : LimitState) (s : State) : List AlarmKind :=
  repostsDue (releaseAtReset (poweredOn pins e b l s))

theorem exec_powerOnReset (pins : BitVec 5) (e : LineState) (b : Tension) (l : LimitState) (s : State) :
    exec (.powerOnReset pins e b l) s = .next (afterPosts pins e (powerOnPosts pins e b l s)
      (releaseAtReset (poweredOn pins e b l s))) := by
  have hframe := release_poweredOn pins e b l s
  have hposts := posts_afterPosts (pins := pins) (estop := e) (s := releaseAtReset (poweredOn pins e b l s))
    (by rw [hframe]; rfl) (by rw [hframe]; rfl) (powerOnPosts pins e b l s) [] repostsDue_map
    (repostsDue_nodup _) ((repostsDue_length _).trans (by decide))
  rw [afterPosts_nil (by rw [hframe]; rfl) (by rw [hframe]; rfl)] at hposts
  exact congrArg Host.Outcome.next hposts

theorem mem_powerOnPosts {pins : BitVec 5} {e : LineState} {b : Tension} {l : LimitState} {s : State} {k : AlarmKind} :
    k ∈ powerOnPosts pins e b l s ↔
      (k = .estop ∧ e = .asserted) ∨ (k = .tapeBreak ∧ b = .broken) ∨ (k = .tableLimit ∧ l = .active) := by
  rw [powerOnPosts, mem_repostsDue, release_poweredOn]
  rfl

theorem powerOnPosts_perm (pins : BitVec 5) (e : LineState) (b : Tension) (l : LimitState) (s : State) :
    (powerOnPosts pins e b l s).Perm ((if e = .asserted then [.estop] else [])
      ++ (if b = .broken then [.tapeBreak] else []) ++ (if l = .active then [.tableLimit] else [])) := by
  refine (repostsDue_perm _).trans (.of_eq ?_)
  rw [release_poweredOn]
  cases e <;> cases b <;> cases l <;> rfl

theorem firstEntries_channel {kinds : List AlarmKind} {x : AlarmEntry} (h : x ∈ firstEntries kinds) :
    x.channel = .stop := by
  obtain ⟨i, -, rfl⟩ := List.mem_map.mp h
  rfl

theorem firstEntries_isEmpty (kinds : List AlarmKind) : (firstEntries kinds).isEmpty = kinds.isEmpty := by
  rw [Bool.eq_iff_iff, List.isEmpty_iff_length_eq_zero, List.isEmpty_iff_length_eq_zero, firstEntries_length]

/-- R141: the entries posted stand in the STOP channel and in no other. -/
theorem afterPosts_channel (estop : LineState) (kinds : List AlarmKind) (c : ChannelId) :
    (Alc.afterPosts estop kinds).channel c = ⟨(firstEntries kinds).filter (fun x => x.channel == c), 0, 0⟩ := by
  by_cases hc : c = .stop
  · subst hc
    have hall : (firstEntries kinds).filter (fun x => x.channel == .stop) = firstEntries kinds :=
      List.filter_eq_self.mpr fun x hx => by rw [firstEntries_channel hx]; rfl
    rw [hall]
    rfl
  · have hnone : (firstEntries kinds).filter (fun x => x.channel == c) = [] :=
      List.filter_eq_nil_iff.mpr fun x hx => by
        rw [firstEntries_channel hx, beq_iff_eq]
        exact Ne.symm hc
    rw [hnone]
    cases c
    case stop => exact absurd rfl hc
    all_goals rfl

theorem afterPosts_horn (estop : LineState) (kinds : List AlarmKind) : (Alc.afterPosts estop kinds).horn =
    (firstEntries kinds).any (fun x => x.channel == .stop || x.channel == .hold) := by
  show (!kinds.isEmpty) = _
  rw [← firstEntries_isEmpty, Bool.eq_iff_iff, Bool.not_eq_true', List.isEmpty_eq_false_iff_exists_mem, List.any_eq_true]
  exact ⟨fun ⟨x, hx⟩ => ⟨x, hx, by rw [firstEntries_channel hx]; rfl⟩, fun ⟨x, hx, _⟩ => ⟨x, hx⟩⟩

theorem afterPosts_levels (estop : LineState) (kinds : List AlarmKind) : LevelsFollow (Alc.afterPosts estop kinds) := by
  have hred : (!kinds.isEmpty) = true ↔ firstEntries kinds ≠ [] := by
    rw [← firstEntries_isEmpty, Bool.not_eq_true', List.isEmpty_eq_false_iff]
  exact ⟨(if_pos (.inr (.inr rfl))).symm, hred, by simp [Alc.afterPosts, Alc.reset], by simp [Alc.afterPosts, Alc.reset]⟩

/-- R142, R155, R168: what the posts leave in the channels and the answer queue. -/
theorem afterPosts_reposted {pins : BitVec 5} {estop : LineState} {kinds : List AlarmKind} {s : State}
    (hk : ∀ k ∈ kinds, Alc.reset.mapOf k = ⟨.stop, false⟩) : RepostedAre kinds (afterPosts pins estop kinds s) := by
  have hkept : kinds.filter (fun k => !((Alc.afterPosts estop kinds).mapOf k).suppress) = kinds :=
    List.filter_eq_self.mpr fun k h => by
      show (!(Alc.reset.mapOf k).suppress) = true
      rw [hk k h]
      rfl
  have hentries : kinds.zipIdx.map (fun x => (⟨BitVec.ofNat 16 x.2, x.1, none,
      ((Alc.afterPosts estop kinds).mapOf x.1).channel, 0, 0, 0⟩ : AlarmEntry)) = firstEntries kinds :=
    List.map_congr_left fun x hx => by
      have hx : Alc.reset.mapOf x.1 = ⟨.stop, false⟩ := hk x.1 (List.fst_mem_of_mem_zipIdx hx)
      show (⟨_, x.1, none, (Alc.reset.mapOf x.1).channel, 0, 0, 0⟩ : AlarmEntry) = _
      rw [hx]
  have hnone : ∀ c, kinds.filter (fun k => ((Alc.afterPosts estop kinds).mapOf k).suppress
      && ((Alc.afterPosts estop kinds).mapOf k).channel == c) = [] := fun c =>
    List.filter_eq_nil_iff.mpr fun k h => by
      show ¬ ((Alc.reset.mapOf k).suppress && (Alc.reset.mapOf k).channel == c) = true
      rw [hk k h]
      simp
  unfold RepostedAre
  rw [show (afterPosts pins estop kinds s).alc = Alc.afterPosts estop kinds from rfl, hkept, hentries]
  refine ⟨fun c => ?_, ?_, ?_, ?_, rfl, rfl⟩
  · rw [hnone c]
    exact afterPosts_channel estop kinds c
  · rw [firstEntries_length]
    rfl
  · exact afterPosts_horn estop kinds
  · exact afterPosts_levels estop kinds

end Sys2Proof.Machine

open Sys2Proof Sys2Proof.Machine

/-- Settles O5: the conditions that stand are posted one after another to an empty STOP channel. -/
theorem powerOnResetFromAnyState : Obligations.PowerOnResetFromAnyState := by
  unfold Obligations.PowerOnResetFromAnyState
  intro pins e b l s
  refine ⟨_, exec_powerOnReset pins e b l s, ?_⟩
  have hframe := release_poweredOn pins e b l s
  generalize releaseAtReset (poweredOn pins e b l s) = u at hframe
  subst hframe
  refine ⟨rfl, rfl, ?_, rfl, rfl, rfl, rfl, rfl, rfl, rfl, rfl, rfl, rfl, rfl, rfl, rfl, rfl, fun k => ?_, rfl, rfl, rfl,
    ⟨powerOnPosts pins e b l s, powerOnPosts_perm pins e b l s, afterPosts_reposted repostsDue_map⟩, rfl⟩
  · simp [afterPosts, Lpu.afterNotices, Lpu.powered, State.reset]
  · show (firstEntries (powerOnPosts pins e b l s)).any (fun a => a.kind == k) = _
    rw [firstEntries_any _ (· == k), Bool.eq_iff_iff, List.any_beq', List.contains_iff_mem, mem_powerOnPosts]
    simp only [Bool.or_eq_true, Bool.and_eq_true, beq_iff_eq, or_assoc]

end

section
/-! PROOF. Entries unwound and rejected, as functions of the chain alone (R35 step 2, R37, R51). -/

namespace Sys2Proof.Machine

/-! ### Releasing the clip of an entry (R35 step 2) -/

/-- The chain with another window. -/
def Csq.withWindow (q : Csq) (l : List WindowEntry) : Csq := { q with window := l }

/-- R51, R45: a command of an exchange WAITING is withdrawn; the exchange is COMPLETE when none is left, and the cycle may
settle. -/
def withdrawCsq (transfer : Option Transfer) (station : Nat) (q : Csq) : Csq :=
  let commands := q.commands.set (station - 1) .none
  { q with
    commands := commands
    exchange := if ∀ x ∈ commands, x = .none then .complete else .waiting
    cycle := if (∀ x ∈ commands, x = .none) ∧ q.cycle = .settle ∧ transfer = none then .rest else q.cycle }

/-- R34: a booked fire is no longer booked. -/
def Csq.fireDown (q : Csq) (d : Nat) : Csq := { q with fireLoad := q.fireLoad.modify d (· - 1) }

/-- R35 step 2: the booked fire of a RESERVED clip is removed, but for one of an exchange IN FLIGHT. -/
def unbookCsq (t : Tables) (transfer : Option Transfer) (station clip : Nat) (q : Csq) : Csq :=
  let d := clip - dropPosition t station
  if 1 ≤ d then q.fireDown d
  else match q.exchange with
    | .inFlight => q
    | .waiting => withdrawCsq transfer station (q.fireDown 0)
    | .none => q.fireDown 0
    | .complete => q.fireDown 0

/-- R32: the clip at a position has another state. -/
def Csq.withClip (q : Csq) (p : Nat) (c : ClipState) : Csq :=
  { q with ring := q.ring.set ((q.base + p) % q.ring.length) c }

/-- R35 step 2, on the chain alone. -/
def releaseCsq (t : Tables) (transfer : Option Transfer) (w : WindowEntry) (q : Csq) : Csq :=
  match w.clip with
  | none => q
  | some p =>
    match clipAt q p with
    | .loaded => q.withClip p .reject
    | .reserved => unbookCsq t transfer ((w.captured.map Captured.station).getD 0) p (q.withClip p .empty)
    | _ => q

/-- R38: with an entry in the window nothing goes IDLE. -/
theorem idleTest_window {s : State} (h : s.csq.window ≠ []) : idleTest s = s := if_neg fun ⟨_, _, hw, _⟩ => h hw

theorem settleTest_window {s : State} (h : s.csq.window ≠ []) : settleTest s =
    if s.csq.cycle = .settle ∧ s.csq.exchange = .complete ∧ s.tpc.transfer = none
    then s.updCsq ({ · with cycle := .rest }) else s := by
  unfold settleTest
  split
  · exact idleTest_window h
  · rfl

theorem emptiedTest_withdraw {s : State} (station : Nat) (h : s.csq.window ≠ []) (hx : s.csq.exchange = .waiting) :
    emptiedTest (clearCommand station s) = { s with csq := withdrawCsq s.tpc.transfer station s.csq } := by
  have hnone : ((clearCommand station s).csq.commands.all (· == .none) = true) ↔
      ∀ x ∈ s.csq.commands.set (station - 1) .none, x = .none := by
    simp [clearCommand]
  unfold emptiedTest
  by_cases hall : ∀ x ∈ s.csq.commands.set (station - 1) .none, x = .none
  · rw [if_pos ⟨hx, hnone.mpr hall⟩,
      settleTest_window (s := (clearCommand station s).updCsq ({ · with exchange := .complete })) h]
    by_cases hset : s.csq.cycle = .settle ∧ s.tpc.transfer = none
    · rw [if_pos ⟨hset.1, rfl, hset.2⟩]
      simp only [withdrawCsq, if_pos hall, if_pos (And.intro hall hset)]
      rfl
    · rw [if_neg (fun hc => hset ⟨hc.1, hc.2.2⟩)]
      simp only [withdrawCsq, if_pos hall, if_neg (fun hc : _ ∧ _ => hset hc.2)]
      rfl
  · rw [if_neg (fun hc => hall (hnone.mp hc.2))]
    simp only [withdrawCsq, if_neg hall, if_neg (fun hc : _ ∧ _ => hall hc.1), ← hx]
    rfl

theorem unbook_csq {s : State} (station clip : Nat) (h : s.csq.window ≠ []) :
    unbook station clip s = { s with csq := unbookCsq s.tables s.tpc.transfer station clip s.csq } := by
  by_cases hd : 1 ≤ clip - dropPosition s.tables station
  · simp only [unbook, unbookCsq, if_pos hd]
    rfl
  · cases hx : s.csq.exchange
    case waiting =>
      simp only [unbook, unbookCsq, if_neg hd, hx]
      exact emptiedTest_withdraw (s := fireLoadDown 0 s) station h hx
    all_goals simp [unbook, unbookCsq, hd, hx, fireLoadDown, State.updCsq, Csq.fireDown]

/-- R35 step 2: while the entry stands in the window, the release of its clip is a matter of the chain alone. -/
theorem releaseClip_csq {s : State} (w : WindowEntry) (h : s.csq.window ≠ []) :
    releaseClip w s = { s with csq := releaseCsq s.tables s.tpc.transfer w s.csq } := by
  cases hw : w.clip with
  | none => simp only [releaseClip, releaseCsq, hw]
  | some p =>
    cases hc : clipAt s.csq p
    case reserved =>
      simp only [releaseClip, releaseCsq, hw, hc]
      exact unbook_csq (s := setClip p .empty s) _ p h
    case loaded =>
      simp only [releaseClip, releaseCsq, hw, hc]
      rfl
    all_goals simp only [releaseClip, releaseCsq, hw, hc]

theorem unbookCsq_withWindow (t : Tables) (transfer : Option Transfer) (station clip : Nat) (q : Csq)
    (l : List WindowEntry) :
    unbookCsq t transfer station clip (q.withWindow l) = (unbookCsq t transfer station clip q).withWindow l := by
  have hx : (q.withWindow l).exchange = q.exchange := rfl
  simp only [unbookCsq, hx]
  split
  · rfl
  · cases q.exchange <;> rfl

theorem releaseCsq_withWindow (t : Tables) (transfer : Option Transfer) (w : WindowEntry) (q : Csq)
    (l : List WindowEntry) :
    releaseCsq t transfer w (q.withWindow l) = (releaseCsq t transfer w q).withWindow l := by
  unfold releaseCsq
  cases w.clip with
  | none => rfl
  | some p =>
    have hc : clipAt (q.withWindow l) p = clipAt q p := rfl
    simp only [hc]
    cases clipAt q p
    case reserved => exact unbookCsq_withWindow t transfer _ p (q.withClip p .empty) l
    all_goals rfl

end Sys2Proof.Machine
end

section
/-! PROOF. Marking notices and the cascade of an unusable station (R10, R36, R37, R84, R95, R133). -/

namespace Sys2Proof.Machine

/-! ### The clips of several entries -/

/-- R35 step 2: the clips of entries released one after another, on the chain alone. -/
def releaseAll (t : Tables) (transfer : Option Transfer) (l : List WindowEntry) (q : Csq) : Csq :=
  l.foldl (fun q w => releaseCsq t transfer w q) q

theorem unbookCsq_frame (t : Tables) (transfer : Option Transfer) (station clip : Nat) (q : Csq) :
    (unbookCsq t transfer station clip q).window = q.window ∧ (unbookCsq t transfer station clip q).seq = q.seq
      ∧ (unbookCsq t transfer station clip q).unusable = q.unusable := by
  unfold unbookCsq
  extract_lets d
  split
  · exact ⟨rfl, rfl, rfl⟩
  · split <;> exact ⟨rfl, rfl, rfl⟩

theorem releaseCsq_frame (t : Tables) (transfer : Option Transfer) (w : WindowEntry) (q : Csq) :
    (releaseCsq t transfer w q).window = q.window ∧ (releaseCsq t transfer w q).seq = q.seq
      ∧ (releaseCsq t transfer w q).unusable = q.unusable := by
  unfold releaseCsq
  split
  · exact ⟨rfl, rfl, rfl⟩
  · split
    · exact ⟨rfl, rfl, rfl⟩
    · exact unbookCsq_frame _ _ _ _ _
    · exact ⟨rfl, rfl, rfl⟩

theorem releaseAll_frame (t : Tables) (transfer : Option Transfer) (l : List WindowEntry) (q : Csq) :
    (releaseAll t transfer l q).window = q.window ∧ (releaseAll t transfer l q).seq = q.seq
      ∧ (releaseAll t transfer l q).unusable = q.unusable := by
  induction l generalizing q with
  | nil => exact ⟨rfl, rfl, rfl⟩
  | cons w rest ih =>
    obtain ⟨hw, hs, hu⟩ := releaseCsq_frame t transfer w q
    obtain ⟨hw', hs', hu'⟩ := ih (releaseCsq t transfer w q)
    exact ⟨hw'.trans hw, hs'.trans hs, hu'.trans hu⟩

theorem releaseAll_withWindow (t : Tables) (transfer : Option Transfer) (l : List WindowEntry) (q : Csq)
    (window : List WindowEntry) :
    releaseAll t transfer l (q.withWindow window) = (releaseAll t transfer l q).withWindow window := by
  induction l generalizing q with
  | nil => rfl
  | cons w rest ih => exact (congrArg (releaseAll t transfer rest) (releaseCsq_withWindow t transfer w q window)).trans (ih _)

theorem releaseClips_csq {s : State} (l : List WindowEntry) (h : s.csq.window ≠ []) :
    l.foldl (fun t w => releaseClip w t) s = { s with csq := releaseAll s.tables s.tpc.transfer l s.csq } := by
  induction l generalizing s with
  | nil => rfl
  | cons w rest ih =>
    have hwindow : (releaseCsq s.tables s.tpc.transfer w s.csq).window ≠ [] := by
      rwa [(releaseCsq_frame s.tables s.tpc.transfer w s.csq).1]
    rw [List.foldl_cons, releaseClip_csq w h]
    exact ih (s := { s with csq := releaseCsq s.tables s.tpc.transfer w s.csq }) hwindow

/-! ### A marking notice at the window (R37) -/

/-- R37: the entries of `l` that a marking notice rejects. -/
def goneOf (l : List WindowEntry) : List WindowEntry := l.filter (fun v => v.status != .taping)

/-- R37: the window after a marking notice for the entries of `l`, one after another. -/
def markWindow (l window : List WindowEntry) : List WindowEntry :=
  l.foldl (fun window w =>
    if w.status = .taping then window.map (fun v => if v.entry.uid = w.entry.uid then { v with discard := true } else v)
    else window.filter (·.entry.uid != w.entry.uid)) window

theorem markEntry_taping {w : WindowEntry} (h : w.status = .taping) (s : State) : markEntry w s =
    { s with csq := s.csq.withWindow (s.csq.window.map (fun v =>
      if v.entry.uid = w.entry.uid then { v with discard := true } else v)) } := by
  rcases markEntry_cases w s with ⟨-, heq⟩ | ⟨hno, -⟩
  · exact heq
  · exact absurd h hno

theorem markEntry_rejected {w : WindowEntry} (h : w.status ≠ .taping) {s : State} (hw : s.csq.window ≠ []) :
    markEntry w s = { s with
      csq := (releaseCsq s.tables s.tpc.transfer w s.csq).withWindow (s.csq.window.filter (·.entry.uid != w.entry.uid))
      pin := { s.pin with rejected := s.pin.rejected + 1 }
      rrg := s.rrg.write ⟨.rejected, w.entry.step, w.entry.panel, w.entry.image, w.entry.component,
        (w.captured.map Captured.station).getD 0, none⟩ } := by
  rcases markEntry_cases w s with ⟨hyes, -⟩ | ⟨-, heq⟩
  · exact absurd hyes h
  · rw [heq, releaseClip_csq w hw, ← (releaseCsq_frame s.tables s.tpc.transfer w s.csq).1]
    rfl

/-- R37: what a marking notice does to several entries of the window, each there once. -/
theorem markEntries_eq (l : List WindowEntry) (s : State) (hn : (l.map (·.entry.uid)).Nodup)
    (hm : ∀ v ∈ l, v.entry.uid ∈ windowIds s.csq) : l.foldl (fun t w => markEntry w t) s = { s with
      csq := (releaseAll s.tables s.tpc.transfer (goneOf l) s.csq).withWindow (markWindow l s.csq.window)
      pin := { s.pin with rejected := s.pin.rejected + BitVec.ofNat 32 (goneOf l).length }
      rrg := (goneOf l).foldl (fun g v => g.write ⟨.rejected, v.entry.step, v.entry.panel, v.entry.image,
        v.entry.component, (v.captured.map Captured.station).getD 0, none⟩) s.rrg } := by
  induction l generalizing s with
  | nil => simp [goneOf, releaseAll, markWindow, Csq.withWindow]
  | cons w rest ih =>
    have hrest := (List.nodup_cons.mp hn).2
    have hwindow : s.csq.window ≠ [] := fun h => by
      have hw := hm w List.mem_cons_self
      rw [windowIds, h] at hw
      exact absurd hw List.not_mem_nil
    rw [List.foldl_cons]
    by_cases hw : w.status = .taping
    · have hgone : goneOf (w :: rest) = goneOf rest := List.filter_cons_of_neg (by simp [hw])
      have hids : windowIds (markEntry w s).csq = windowIds s.csq := by
        rw [markEntry_taping hw]
        exact congrArg View.windowIds (markTaping_steady w s).sameView
      have hmark : ∀ window, markWindow (w :: rest) window = markWindow rest (window.map (fun v =>
          if v.entry.uid = w.entry.uid then { v with discard := true } else v)) := fun window =>
        congrArg (markWindow rest) (if_pos hw)
      rw [ih _ hrest (fun v hv => hids ▸ hm v (List.mem_cons_of_mem w hv)), hgone, hmark, markEntry_taping hw,
        releaseAll_withWindow]
      rfl
    · have hgone : goneOf (w :: rest) = w :: goneOf rest := List.filter_cons_of_pos (by simp [hw])
      have hcount : s.pin.rejected + 1#32 + BitVec.ofNat 32 (goneOf rest).length =
          s.pin.rejected + BitVec.ofNat 32 ((goneOf rest).length + 1) := by
        rw [Nat.add_comm (goneOf rest).length, BitVec.ofNat_add, ← BitVec.add_assoc]
      have hmark : ∀ window, markWindow (w :: rest) window =
          markWindow rest (window.filter (·.entry.uid != w.entry.uid)) := fun window =>
        congrArg (markWindow rest) (if_neg hw)
      have hin : ∀ v ∈ rest, v.entry.uid ∈ windowIds (markEntry w s).csq := by
        rw [markEntry_rejected hw hwindow]
        exact expel_mem (station := (w.captured.map Captured.station).getD 0) hn hm
      rw [ih _ hrest hin, hgone, hmark, markEntry_rejected hw hwindow, releaseAll_withWindow, List.length_cons, ← hcount]
      rfl

/-- R37: the entry is one of `l` that the notice rejects, or one that it marks. -/
def rejectedBy (l : List WindowEntry) (v : WindowEntry) : Bool :=
  l.any (fun w => w.entry.uid == v.entry.uid && w.status != .taping)

def markedBy (l : List WindowEntry) (v : WindowEntry) : Bool :=
  l.any (fun w => w.entry.uid == v.entry.uid && w.status == .taping)

/-- The window after a marking notice, entry by entry. -/
theorem markWindow_eq (l window : List WindowEntry) : markWindow l window =
    (window.filter (fun v => !rejectedBy l v)).map (fun v => if markedBy l v then { v with discard := true } else v) := by
  induction l generalizing window with
  | nil => simp [markWindow, rejectedBy, markedBy]
  | cons w rest ih =>
    by_cases hw : w.status = .taping
    · have hmark : markWindow (w :: rest) window = markWindow rest (window.map (fun v =>
          if v.entry.uid = w.entry.uid then { v with discard := true } else v)) :=
        congrArg (markWindow rest) (if_pos hw)
      rw [hmark, ih, List.filter_map, List.map_map]
      have hreject : (fun v => !rejectedBy rest v) ∘ (fun v : WindowEntry =>
          if v.entry.uid = w.entry.uid then { v with discard := true } else v) =
          fun v => !rejectedBy (w :: rest) v := by
        funext v
        by_cases hv : v.entry.uid = w.entry.uid <;> simp [rejectedBy, hw, hv]
      rw [hreject]
      refine List.map_congr_left fun v _ => ?_
      by_cases hv : v.entry.uid = w.entry.uid
      · simp [markedBy, hw, hv]
      · simp [markedBy, hv, Ne.symm hv]
    · have hmark : markWindow (w :: rest) window =
          markWindow rest (window.filter (·.entry.uid != w.entry.uid)) :=
        congrArg (markWindow rest) (if_neg hw)
      rw [hmark, ih, List.filter_filter]
      have hreject : (fun v : WindowEntry => !rejectedBy rest v && v.entry.uid != w.entry.uid) =
          fun v => !rejectedBy (w :: rest) v := by
        funext v
        by_cases hv : v.entry.uid = w.entry.uid
        · simp [rejectedBy, hw, hv]
        · have hne : (w.entry.uid == v.entry.uid) = false := beq_eq_false_iff_ne.mpr (Ne.symm hv)
          have hne' : (v.entry.uid != w.entry.uid) = true := bne_iff_ne.mpr hv
          simp [rejectedBy, hne, hne']
      rw [hreject]
      refine List.map_congr_left fun v _ => ?_
      simp [markedBy, hw]

/-- With each entry once in the window, one picked from it is named by its number. -/
theorem any_filter_uid {window : List WindowEntry} (hn : (window.map (·.entry.uid)).Nodup) (named q : WindowEntry → Bool)
    {v : WindowEntry} (hv : v ∈ window) :
    (window.filter named).any (fun w => w.entry.uid == v.entry.uid && q w) = (named v && q v) := by
  rw [Bool.eq_iff_iff, List.any_eq_true, Bool.and_eq_true]
  constructor
  · rintro ⟨w, hw, hq⟩
    rw [Bool.and_eq_true, beq_iff_eq] at hq
    obtain rfl := List.inj_on_of_nodup_map hn (List.mem_of_mem_filter hw) hv hq.1
    exact ⟨(List.mem_filter.mp hw).2, hq.2⟩
  · rintro ⟨hnamed, hq⟩
    exact ⟨v, List.mem_filter.mpr ⟨hv, hnamed⟩, by rw [beq_self_eq_true, hq]; rfl⟩

/-- R37: the window after a marking notice. -/
def keptOf (named : WindowEntry → Bool) (window : List WindowEntry) : List WindowEntry :=
  (window.filter (fun v => !(named v && v.status != .taping))).map (fun v =>
    if named v then { v with discard := true } else v)

theorem markWindow_named {window : List WindowEntry} (hn : (window.map (·.entry.uid)).Nodup) (named : WindowEntry → Bool) :
    markWindow (window.filter named) window = keptOf named window := by
  have hreject : window.filter (fun v => !rejectedBy (window.filter named) v) =
      window.filter (fun v => !(named v && v.status != .taping)) :=
    List.filter_congr fun v hv => congrArg (!·) (any_filter_uid hn named (·.status != .taping) hv)
  rw [markWindow_eq, hreject, keptOf]
  refine List.map_congr_left fun v hv => ?_
  obtain ⟨hv, hstays⟩ := List.mem_filter.mp hv
  have hmark : markedBy (window.filter named) v = (named v && v.status == .taping) :=
    any_filter_uid hn named (·.status == .taping) hv
  rw [hmark]
  cases hnamed : named v
  · rfl
  · rw [hnamed] at hstays
    have htaping : v.status = .taping := by simpa using hstays
    simp [htaping]

/-- R37: the entries a marking notice rejects. -/
theorem goneOf_named (named : WindowEntry → Bool) (window : List WindowEntry) :
    goneOf (window.filter named) = window.filter (fun v => named v && v.status != .taping) := by
  simp [goneOf, List.filter_filter, Bool.and_comm]

/-! ### MARKING_NOTICE_CSQ (R37, R38) -/

/-- R37: the entry is one for the panel and image of a notice. -/
def MarkNotice.names (m : MarkNotice) (e : Entry) : Bool := e.panel == m.panel && e.image == m.image

theorem MarkNotice.names_iff (m : MarkNotice) (e : Entry) : m.names e = true ↔ e.panel = m.panel ∧ e.image = m.image := by
  simp [MarkNotice.names]

theorem idleTest_eq {s : State} {q : SeqState} (h : s.csq.seq = q) : idleTest s = { s with csq := { s.csq with
    seq := if (q = .running ∨ q = .held) ∧ s.alc.requested = .stop ∧ s.csq.window = [] ∧ s.csq.cycle = .rest then .idle
      else q } } := by
  subst h
  unfold idleTest
  split
  · rfl
  · rfl

/-- R37: the chain once the clips of the entries rejected are released. -/
def freedCsq (s : State) (m : MarkNotice) (more : List MarkNotice) : Csq :=
  releaseAll s.tables s.tpc.transfer (s.csq.window.filter (fun v => m.names v.entry && v.status != .taping))
    { s.csq with marks := more }

theorem exec_markingNoticeCsq {s : State} {m : MarkNotice} {more : List MarkNotice} (hm : s.csq.marks = m :: more)
    (hn : (s.csq.window.map (·.entry.uid)).Nodup) :
    let gone := s.csq.window.filter (fun v => m.names v.entry && v.status != .taping)
    let kept := keptOf (fun v => m.names v.entry) s.csq.window
    exec .markingNoticeCsq s = .next { s with
      csq := { freedCsq s m more with
        window := kept
        seq := if (s.csq.seq = .running ∨ s.csq.seq = .held) ∧ s.alc.requested = .stop ∧ kept = []
          ∧ (freedCsq s m more).cycle = .rest then .idle else s.csq.seq }
      pin := { s.pin with rejected := s.pin.rejected + BitVec.ofNat 32 gone.length }
      rrg := gone.foldl (fun g v => g.write ⟨.rejected, v.entry.step, v.entry.panel, v.entry.image, v.entry.component,
        (v.captured.map Captured.station).getD 0, none⟩) s.rrg } := by
  intro gone kept
  have hhits := markEntries_eq (s.csq.window.filter (fun v => m.names v.entry)) (s.updCsq ({ · with marks := more }))
    (hn.sublist (List.filter_sublist.map _)) (fun v hv => List.mem_map_of_mem (List.mem_of_mem_filter hv))
  rw [goneOf_named, updCsq_csq, markWindow_named hn] at hhits
  have hseq : (freedCsq s m more).seq = s.csq.seq := (releaseAll_frame _ _ _ _).2.1
  have hexec : exec .markingNoticeCsq s = .next (idleTest ((s.csq.window.filter (fun v => m.names v.entry)).foldl
      (fun t w => markEntry w t) (s.updCsq ({ · with marks := more })))) := by
    show execMarkingNoticeCsq s = _
    unfold execMarkingNoticeCsq
    rw [hm]
    rfl
  rw [hexec, hhits]
  refine congrArg Host.Outcome.next ((idleTest_eq (q := s.csq.seq) ?_).trans ?_)
  · exact hseq
  · rfl

end Sys2Proof.Machine
end

section
/-! PROOF. What waits for a block is taken: each notice by what it names (R10, R36, R37, R84, R95, R133). -/

namespace Sys2Proof.Machine

/-! ### Marking notices at the chain (R37) -/

theorem exec_markingNoticeCsq_none {s : State} {m : MarkNotice} {more : List MarkNotice} (hm : s.csq.marks = m :: more)
    (hw : s.csq.window ≠ []) (hno : ∀ v ∈ s.csq.window, m.names v.entry = false) :
    exec .markingNoticeCsq s = .next { s with csq := { s.csq with marks := more } } := by
  have hhits : s.csq.window.filter (fun v => m.names v.entry) = [] :=
    List.filter_eq_nil_iff.mpr fun v hv => by rw [hno v hv]; decide
  have hidle : idleTest (s.updCsq ({ · with marks := more })) = s.updCsq ({ · with marks := more }) :=
    idleTest_window (s := s.updCsq ({ · with marks := more })) hw
  show execMarkingNoticeCsq s = _
  unfold execMarkingNoticeCsq
  rw [hm]
  show Host.Outcome.next (idleTest ((s.csq.window.filter (fun v => m.names v.entry)).foldl _ _)) = _
  rw [hhits]
  exact congrArg Host.Outcome.next hidle

/-- R37: the clips of the entries rejected, released one after another. -/
theorem freed_csq (s : State) (m : MarkNotice) (more : List MarkNotice) :
    ((s.csq.window.filter (fun v => m.names v.entry && v.status != .taping)).foldl (fun t v => releaseClip v t)
      { s with csq := { s.csq with marks := more } }).csq = freedCsq s m more := by
  by_cases hw : s.csq.window = []
  · have hcsq : freedCsq s m more = { s.csq with marks := more } := by
      rw [freedCsq, hw]
      rfl
    rw [hcsq, hw]
    rfl
  · rw [releaseClips_csq (s := { s with csq := { s.csq with marks := more } }) _ hw]
    rfl

/-- A list with one member that `p` holds of. -/
theorem filter_single {α : Type} {p : α → Bool} {before after : List α} {a : α} (ha : p a = true)
    (hno : ∀ x ∈ before ++ after, p x = false) : (before ++ a :: after).filter p = [a] := by
  have hb : before.filter p = [] := List.filter_eq_nil_iff.mpr fun x hx => by
    rw [hno x (List.mem_append_left _ hx)]; decide
  have ht : after.filter p = [] := List.filter_eq_nil_iff.mpr fun x hx => by
    rw [hno x (List.mem_append_right _ hx)]; decide
  rw [List.filter_append, List.filter_cons_of_pos ha, hb, ht]
  rfl

section

variable {named : WindowEntry → Bool} {before after : List WindowEntry} {w : WindowEntry}
  (hw : named w = true) (hno : ∀ v ∈ before ++ after, named v = false)

include hw hno

/-- R37: one entry named, which the notice marks. -/
theorem keptOf_taping (ht : w.status = .taping) :
    keptOf named (before ++ w :: after) = before ++ { w with discard := true } :: after := by
  have hfilter : (before ++ w :: after).filter (fun v => !(named v && v.status != .taping)) = before ++ w :: after :=
    List.filter_eq_self.mpr fun v hv => by
      rcases List.mem_append.mp hv with hv | hv
      · simp [hno v (List.mem_append_left _ hv)]
      · rcases List.mem_cons.mp hv with rfl | hv
        · simp [ht]
        · simp [hno v (List.mem_append_right _ hv)]
  have hsame : ∀ l : List WindowEntry, (∀ v ∈ l, named v = false) →
      l.map (fun v => if named v then { v with discard := true } else v) = l := fun l hl =>
    (List.map_congr_left fun v hv => if_neg (by rw [hl v hv]; decide)).trans (List.map_id l)
  rw [keptOf, hfilter, List.map_append, List.map_cons, if_pos hw, hsame before fun v hv => hno v (List.mem_append_left _ hv),
    hsame after fun v hv => hno v (List.mem_append_right _ hv)]

/-- R37: one entry named, which the notice rejects. -/
theorem keptOf_rejected (ht : w.status ≠ .taping) : keptOf named (before ++ w :: after) = before ++ after := by
  have hsame : ∀ l : List WindowEntry, (∀ v ∈ l, named v = false) → keptOf named l = l := fun l hl => by
    rw [keptOf, List.filter_eq_self.mpr fun v hv => by simp [hl v hv]]
    exact (List.map_congr_left fun v hv => if_neg (by rw [hl v hv]; decide)).trans (List.map_id l)
  have hsplit : keptOf named (before ++ w :: after) = keptOf named before ++ keptOf named after := by
    simp [keptOf, hw, ht]
  rw [hsplit, hsame before fun v hv => hno v (List.mem_append_left _ hv),
    hsame after fun v hv => hno v (List.mem_append_right _ hv)]

end

section

variable {s : State} {m : MarkNotice} {more : List MarkNotice} {before after : List WindowEntry} {w : WindowEntry}
  (hm : s.csq.marks = m :: more) (hwindow : s.csq.window = before ++ w :: after)
  (hn : (s.csq.window.map (·.entry.uid)).Nodup) (hno : ∀ v ∈ before ++ after, m.names v.entry = false)
  (hw : m.names w.entry = true)

include hm hwindow hn hno hw

theorem exec_markingNoticeCsq_taping (ht : w.status = .taping) : exec .markingNoticeCsq s =
    .next { s with csq := { s.csq with marks := more, window := before ++ { w with discard := true } :: after } } := by
  have hgone : s.csq.window.filter (fun v => m.names v.entry && v.status != .taping) = [] := by
    rw [hwindow]
    refine List.filter_eq_nil_iff.mpr fun v hv => ?_
    rcases List.mem_append.mp hv with hv | hv
    · simp [hno v (List.mem_append_left _ hv)]
    · rcases List.mem_cons.mp hv with rfl | hv
      · simp [ht]
      · simp [hno v (List.mem_append_right _ hv)]
  have hkept : keptOf (fun v => m.names v.entry) s.csq.window = before ++ { w with discard := true } :: after := by
    rw [hwindow]
    exact keptOf_taping hw hno ht
  have hne : before ++ { w with discard := true } :: after ≠ [] := by simp
  have hfreed : freedCsq s m more = { s.csq with marks := more } := by
    rw [freedCsq, hgone]
    rfl
  rw [exec_markingNoticeCsq hm hn, hgone, hkept, hfreed, if_neg (fun h => hne h.2.2.1)]
  simp

/-- R37: the one entry named is rejected, its clip released. -/
theorem exec_markingNoticeCsq_rejected (hrest : before ++ after ≠ []) (ht : w.status ≠ .taping) {q : Csq}
    (hq : releaseCsq s.tables s.tpc.transfer w { s.csq with marks := more } = q) : exec .markingNoticeCsq s =
    .next { s with
      csq := { q with window := before ++ after }
      pin := { s.pin with rejected := s.pin.rejected + 1 }
      rrg := s.rrg.write ⟨.rejected, w.entry.step, w.entry.panel, w.entry.image, w.entry.component,
        (w.captured.map Captured.station).getD 0, none⟩ } := by
  have hgone : s.csq.window.filter (fun v => m.names v.entry && v.status != .taping) = [w] := by
    rw [hwindow]
    exact filter_single (by rw [hw]; simpa using ht) fun v hv => by rw [hno v hv]; rfl
  have hkept : keptOf (fun v => m.names v.entry) s.csq.window = before ++ after := by
    rw [hwindow]
    exact keptOf_rejected hw hno ht
  have hfreed : freedCsq s m more = q := by
    rw [freedCsq, hgone, ← hq]
    rfl
  have hseq : q.seq = s.csq.seq := by
    rw [← hq]
    exact (releaseCsq_frame _ _ _ _).2.1
  rw [exec_markingNoticeCsq hm hn, hgone, hkept, hfreed, if_neg (fun h => hrest h.2.2.1), ← hseq]
  rfl

end

/-! ### The clip of one entry -/

section

variable {t : Tables} {transfer : Option Transfer} {w : WindowEntry} {q : Csq} {p : Nat}

theorem releaseCsq_none (hw : w.clip = none) : releaseCsq t transfer w q = q := by
  unfold releaseCsq
  rw [hw]

theorem releaseCsq_loaded (hw : w.clip = some p) (hc : clipAt q p = .loaded) :
    releaseCsq t transfer w q = q.withClip p .reject := by
  simp only [releaseCsq, hw, hc]

theorem releaseCsq_reserved {n : Nat} (hw : w.clip = some p) (hc : clipAt q p = .reserved)
    (hn : w.captured.map Captured.station = some n) :
    releaseCsq t transfer w q = unbookCsq t transfer n p (q.withClip p .empty) := by
  simp only [releaseCsq, hw, hc, hn, Option.getD_some]

theorem unbookCsq_booked {n : Nat} (hd : 1 ≤ p - dropPosition t n) :
    unbookCsq t transfer n p q = q.fireDown (p - dropPosition t n) := if_pos hd

/-- R35 step 2: a fire at the exchange, by the state of the exchange. -/
theorem unbookCsq_atExchange {n : Nat} (hd : p - dropPosition t n = 0) :
    (q.exchange = .inFlight → unbookCsq t transfer n p q = q)
    ∧ (q.exchange = .none ∨ q.exchange = .complete → unbookCsq t transfer n p q = q.fireDown 0)
    ∧ (q.exchange = .waiting → unbookCsq t transfer n p q = withdrawCsq transfer n (q.fireDown 0)) := by
  have hnot : ¬ 1 ≤ p - dropPosition t n := by omega
  refine ⟨fun hx => ?_, fun hx => ?_, fun hx => ?_⟩
  · simp only [unbookCsq, if_neg hnot, hx]
  · rcases hx with hx | hx
    · simp only [unbookCsq, if_neg hnot, hx]
    · simp only [unbookCsq, if_neg hnot, hx]
  · simp only [unbookCsq, if_neg hnot, hx]

end

/-! ### UNUSABLE_STATION_CASCADE (R36) -/

/-- R36: the entry is RESERVED for the station. -/
def WindowEntry.bookedFor (n : Nat) (w : WindowEntry) : Bool :=
  w.status == .reserved && (w.captured.map Captured.station) == some n

theorem bookedFor_iff (n : Nat) (w : WindowEntry) :
    w.bookedFor n = true ↔ w.status = .reserved ∧ w.captured.map Captured.station = some n := by
  rw [WindowEntry.bookedFor, Bool.and_eq_true, beq_iff_eq, beq_iff_eq]

theorem exec_unusable {s : State} {n : Nat} {rest : List Nat} (h : s.csq.unusable = n :: rest) :
    (s.csq.window.find? (WindowEntry.bookedFor n) = none →
      exec .unusableStationCascade s = .next { s with csq := { s.csq with unusable := rest } })
    ∧ ∀ w, s.csq.window.find? (WindowEntry.bookedFor n) = some w → exec .unusableStationCascade s =
      .next (unwindFrom w.entry.uid { s with csq := { s.csq with unusable := rest } }) := by
  have hopen : exec .unusableStationCascade s = match s.csq.window.find? (WindowEntry.bookedFor n) with
      | none => .next { s with csq := { s.csq with unusable := rest } }
      | some w => .next (unwindFrom w.entry.uid { s with csq := { s.csq with unusable := rest } }) := by
    show execUnusableStationCascade s = _
    unfold execUnusableStationCascade
    rw [h]
    rfl
  exact ⟨fun hnone => by rw [hopen, hnone], fun w hw => by rw [hopen, hw]⟩

/-- R35 step 2: the entry has lost its clip. -/
def WindowEntry.unwound (v : WindowEntry) : WindowEntry := { v with status := .unassigned, clip := none }

/-- R35 step 2: what unwinding an entry of the window does. -/
theorem unwindFrom_eq {s : State} {before after : List WindowEntry} {w : WindowEntry}
    (hwindow : s.csq.window = before ++ w :: after) (hn : (s.csq.window.map (·.entry.uid)).Nodup) :
    unwindFrom w.entry.uid s = { s with
      csq := (releaseAll s.tables s.tpc.transfer ((w :: after).filter WindowEntry.holds) s.csq).withWindow
        (before ++ (w :: after).map WindowEntry.unwound) } := by
  have hne : ∀ v ∈ before, (v.entry.uid != w.entry.uid) = true := fun v hv => by
    rw [hwindow, List.map_append, List.map_cons] at hn
    exact bne_iff_ne.mpr ((List.nodup_append.mp hn).2.2 _ (List.mem_map_of_mem hv) _ List.mem_cons_self)
  have hbefore : s.csq.window.takeWhile (fun v => v.entry.uid != w.entry.uid) = before := by
    rw [hwindow, List.takeWhile_append_of_pos hne, List.takeWhile_cons_of_neg (by simp), List.append_nil]
  have hafter : s.csq.window.dropWhile (fun v => v.entry.uid != w.entry.uid) = w :: after := by
    rw [hwindow, List.dropWhile_append_of_pos hne, List.dropWhile_cons_of_neg (by simp)]
  have hstands : s.csq.window ≠ [] := by rw [hwindow]; simp
  unfold unwindFrom
  rw [hbefore, hafter]
  dsimp only
  rw [releaseClips_csq _ hstands]
  rfl

/-! ### MARKING_NOTICE_TPC (R84, R133) -/

/-- R133: reports given for entries are withdrawn. -/
theorem withdrawEntries_eq (l : List TapeEntry) (s : State) :
    l.foldl (fun t e => withdraw e.entry.uid t) s = { s with tbc := { s.tbc with
      inPosition := if l.any (fun e => s.tbc.inPosition == .entry e.entry.uid) then .none else s.tbc.inPosition } } := by
  induction l generalizing s with
  | nil => simp
  | cons e rest ih =>
    rw [List.foldl_cons, ih]
    by_cases hpos : s.tbc.inPosition = .entry e.entry.uid
    · simp [withdraw, State.updTbc, hpos]
    · simp [withdraw, State.updTbc, hpos]

/-- R84: the Tape List entry is one the notice marks. -/
def tapeMarked (s : State) (m : MarkNotice) (e : TapeEntry) : Bool :=
  e.entry.panel == m.panel && e.entry.image == m.image && cycleEntryUid s.hdc != some e.entry.uid

theorem exec_markingNoticeTpc {s : State} {m : MarkNotice} {more : List MarkNotice} (hm : s.tpc.marks = m :: more) :
    exec .markingNoticeTpc s = .next { s with
      tpc := { s.tpc with
        marks := more
        tape := s.tpc.tape.map (fun e => if tapeMarked s m e then { e with discard := true } else e) }
      tbc := { s.tbc with
        inPosition := if s.tpc.tape.any (fun e => tapeMarked s m e && s.tbc.inPosition == .entry e.entry.uid) then .none
          else s.tbc.inPosition } } := by
  show execMarkingNoticeTpc s = _
  unfold execMarkingNoticeTpc
  rw [hm]
  refine congrArg Host.Outcome.next ((withdrawEntries_eq _ _).trans ?_)
  rw [List.any_filter]
  rfl

/-! ### MARKING_NOTICE_HDC (R95) -/

theorem exec_markingNoticeHdc {s : State} {m : MarkNotice} {more : List MarkNotice} (hm : s.hdc.marks = m :: more) :
    (∀ c e, s.hdc.head = .waitTable → s.hdc.cycle = some c → c.entry = some e → m.names e.entry = true →
      exec .markingNoticeHdc s = .next { s with
        hdc := { s.hdc with
          marks := more, head := .eject, timer := .running s.tables.constants.headTimeout
          cycle := some { c with kind := .dump } }
        out := { s.out with cam := .phase .eject } })
    ∧ (s.hdc.head ≠ .waitTable ∨ (∀ c e, s.hdc.cycle = some c → c.entry = some e → m.names e.entry = false) →
      exec .markingNoticeHdc s = .next { s with hdc := { s.hdc with marks := more } }) := by
  have hopen : exec .markingNoticeHdc s = execMarkingNoticeHdc s := rfl
  rw [hopen]
  unfold execMarkingNoticeHdc
  rw [hm]
  refine ⟨fun c e hhead hc he hnames => ?_, fun hno => ?_⟩
  · simp only [hhead, hc, Option.bind_some, he]
    rw [if_pos ((m.names_iff e.entry).mp hnames)]
    simp [turnToDump, enterPhase, State.updHdc, State.updOut, hc, he]
  · simp only []
    split
    case h_1 e hhead he =>
      obtain ⟨c, hc, he⟩ := Option.bind_eq_some_iff.mp he
      have hnames := hno.resolve_left (fun h => h hhead) c e hc he
      rw [if_neg (fun h => by rw [(m.names_iff e.entry).mpr h] at hnames; contradiction)]
      rfl
    case h_2 => rfl

end Sys2Proof.Machine

open Sys2Proof Sys2Proof.Machine

/-- Settles O45: clause by clause, each notice by what it names. -/
theorem noticesAreTaken : Obligations.NoticesAreTaken := by
  unfold Obligations.NoticesAreTaken
  intro s n rest m more booked hits
  have hnamed : ∀ e, hits e → m.names e = true := fun e => (m.names_iff e).mpr
  have hnot : ∀ e, ¬ hits e → m.names e = false := fun e h => Bool.eq_false_iff.mpr (h ∘ (m.names_iff e).mp)
  refine ⟨fun hu hno => ?_, fun before w after hu hwindow hno hbooked hn => ?_, fun hm => ?_, fun hm hw hno => ?_,
    fun hm hn => ?_, fun before w after hm hwindow hrest hn hno hw => ⟨fun ht => ?_, fun ring hring ht => ?_,
      fun p c hst hp hc hclip => ?_⟩, fun hm => ?_, fun c e hm hhead hc he hhit => ?_, fun hm hno => ?_⟩
  · exact (exec_unusable hu).1 (List.find?_eq_none.mpr fun v hv h => hno v hv ((bookedFor_iff n v).mp h))
  · have hfind : s.csq.window.find? (WindowEntry.bookedFor n) = some w := by
      rw [hwindow, List.find?_append, List.find?_eq_none.mpr fun v hv h => hno v hv ((bookedFor_iff n v).mp h),
        List.find?_cons_of_pos ((bookedFor_iff n w).mpr hbooked)]
      rfl
    obtain ⟨hstatus, hstation⟩ := hbooked
    have hexec := (exec_unusable hu).2 w hfind
    rw [unwindFrom_eq (s := { s with csq := { s.csq with unusable := rest } }) hwindow hn] at hexec
    refine ⟨_, hexec, (releaseAll_frame _ _ _ _).2.2, rfl, rfl, rfl, fun hlast p hp hclip hd => ?_⟩
    subst hlast
    have hholds : [w].filter WindowEntry.holds = [w] :=
      List.filter_cons_of_pos (by rw [WindowEntry.holds, hstatus]; rfl)
    have hfreed : releaseCsq s.tables s.tpc.transfer w { s.csq with unusable := rest } = _ :=
      (releaseCsq_reserved (q := { s.csq with unusable := rest }) hp hclip hstation).trans (unbookCsq_booked hd)
    show (releaseAll s.tables s.tpc.transfer ([w].filter WindowEntry.holds) _).withWindow _ = _
    rw [hholds]
    exact congrArg (Csq.withWindow · _) hfreed
  · show Host.Outcome.next (s.updPin (fun p => { p with marks := p.marks.tail })) = _
    simp only [State.updPin, hm, List.tail_cons]
  · exact exec_markingNoticeCsq_none hm hw fun v hv => hnot v.entry (hno v hv)
  · intro named gone kept freed idles
    have hfreed : freed.csq = freedCsq s m more := freed_csq s m more
    have hexec := exec_markingNoticeCsq hm hn
    rw [← hfreed] at hexec
    exact hexec
  · exact exec_markingNoticeCsq_taping hm hwindow hn (fun v hv => hnot v.entry (hno v hv)) (hnamed w.entry hw) ht
  · have hrejected := fun q => exec_markingNoticeCsq_rejected hm hwindow hn (fun v hv => hnot v.entry (hno v hv))
      (hnamed w.entry hw) hrest ht (q := q)
    rcases hring with ⟨hclip, rfl⟩ | ⟨p, hp, hclip, rfl⟩
    · exact hrejected _ (releaseCsq_none hclip)
    · exact hrejected _ (releaseCsq_loaded hp hclip)
  · intro d rejected commands settled
    have hstation : w.captured.map Captured.station = some c.station := by rw [hc]; rfl
    have hrejected := fun q => exec_markingNoticeCsq_rejected hm hwindow hn (fun v hv => hnot v.entry (hno v hv))
      (hnamed w.entry hw) hrest (by rw [hst]; decide) (q := q)
    rw [hstation, Option.getD_some] at hrejected
    have hrelease : releaseCsq s.tables s.tpc.transfer w { s.csq with marks := more } = _ :=
      releaseCsq_reserved hp hclip hstation
    refine ⟨fun hd => ?_, fun hd hx => ?_, fun hd hx => ?_, fun hd hx => ?_⟩
    · exact hrejected _ (hrelease.trans (unbookCsq_booked hd))
    · exact hrejected _ (hrelease.trans ((unbookCsq_atExchange hd).1 hx))
    · exact hrejected _ (hrelease.trans ((unbookCsq_atExchange hd).2.1 hx))
    · exact hrejected _ (hrelease.trans ((unbookCsq_atExchange hd).2.2 hx))
  · exact exec_markingNoticeTpc hm
  · exact (exec_markingNoticeHdc hm).1 c e hhead hc he (hnamed e.entry hhit)
  · exact (exec_markingNoticeHdc hm).2 (hno.imp_right fun h c e hc he => hnot e.entry (h c e hc he))

end

section
/-! PROOF. TABLE LOAD in its shared form: the checks of R18 in order, the first entry at fault, entries and their bytes
(R18, R162, R166). -/

namespace Sys2Proof.Machine

/-! ### A request and its answer (R162) -/

/-- R162: a request taken whose act leaves LPU alone, from what the act does. -/
theorem next_request {kind tag : Byte} {act : Act} {s t : State} {code : ResultCode} {data : List Byte}
    (hb : act.LpuBlind) (hs : Takes s) (hk : kind ≠ 0x50#8) (h : act s = (t, code, data)) :
    (.next (request kind tag act s) : Result) = .next (answered kind tag code data t) := by
  rw [request_blind hb hs hk, h]

/-! ### The checks of R18 in order -/

section

variable {t : TableName} {count : Byte} {body : List Byte} {k : LoadCheck} {write : State → State} {s : State}

theorem loadTable_wrongLength (hl : loadLengthRight t count.toNat body = false) :
    loadTable t count body k write s = (s, .badLength, []) := by
  simp only [loadTable, hl, Bool.not_false, if_true]

theorem loadTable_wrongIndex (hl : loadLengthRight t count.toNat body = true) (hi : k.indexRight = false) :
    loadTable t count body k write s = (s, .badIndex, [0, 0, 0]) := by
  simp only [loadTable, hl, hi, Bool.not_true, Bool.not_false, if_true, Bool.false_eq_true, if_false]
  rfl

variable (hl : loadLengthRight t count.toNat body = true) (hi : k.indexRight = true)
include hl hi

/-- R18 check 4. -/
theorem loadTable_refused {c : ResultCode} (hc : k.stateAllows = c) (hne : c ≠ .ok) :
    loadTable t count body k write s = (s, c, [0, 0, 0]) := by
  simp only [loadTable, hl, hi, hc, Bool.not_true, Bool.false_eq_true, if_false]
  cases c
  case ok => contradiction
  all_goals rfl

/-- R18 check 5. -/
theorem loadTable_fault {i : Nat} (hok : k.stateAllows = .ok) (hf : k.fault = some i) :
    loadTable t count body k write s = (s, .badValue, [0] ++ be16 i) := by
  simp only [loadTable, hl, hi, hok, hf, Bool.not_true, Bool.false_eq_true, if_false]
  rfl

/-- R18 check 6. -/
theorem loadTable_cross {c : ResultCode} {i : Nat} (hok : k.stateAllows = .ok) (hf : k.fault = none)
    (hx : k.cross = some (c, i)) : loadTable t count body k write s = (s, c, [0] ++ be16 i) := by
  simp only [loadTable, hl, hi, hok, hf, hx, Bool.not_true, Bool.false_eq_true, if_false]
  rfl

/-- R18: every check passed. -/
theorem loadTable_written (hok : k.stateAllows = .ok) (hf : k.fault = none) (hx : k.cross = none) :
    loadTable t count body k write s = (write s, .ok, [count, 0, 0]) := by
  have hdata : loadData count.toNat 0 = [count, 0, 0] := by
    simp only [loadData, byte, be16, BitVec.ofNat_toNat, BitVec.setWidth_eq]
    rfl
  simp only [loadTable, hl, hi, hok, hf, hx, Bool.not_true, Bool.false_eq_true, if_false, hdata]

end

/-- A load whose write leaves LPU alone does so itself. -/
theorem loadTable_blind {write : State → State} (hw : LpuBlind write) (t : TableName) (count : Byte) (body : List Byte)
    (k : LoadCheck) (g : Lpu → Lpu) (s : State) : loadTable t count body k write (s.updLpu g) =
      ((loadTable t count body k write s).1.updLpu g, (loadTable t count body k write s).2) := by
  unfold loadTable
  rw [hw g s]
  split
  · rfl
  · split
    · rfl
    · split <;> rfl

/-! ### The first entry at fault (R18 check 5) -/

theorem firstFault_eq_none {α : Type} {first : Nat} {bad : Nat → α → Bool} {l : List α}
    (h : ∀ (i : Nat) (e : α), l[i]? = some e → bad (first + i) e = false) : firstFault first bad l = none := by
  induction l generalizing first with
  | nil => rfl
  | cons a rest ih =>
    have ha : bad first a = false := h 0 a rfl
    rw [firstFault, ha, if_neg Bool.false_ne_true]
    refine ih fun i e he => ?_
    rw [Nat.add_right_comm]
    exact h (i + 1) e he

theorem firstFault_eq_some {α : Type} {first i : Nat} {bad : Nat → α → Bool} {l : List α} {e : α}
    (he : l[i]? = some e) (hbad : bad (first + i) e = true)
    (hgood : ∀ (j : Nat) (w : α), j < i → l[j]? = some w → bad (first + j) w = false) :
    firstFault first bad l = some (first + i) := by
  induction l generalizing first i with
  | nil => exact absurd he (by simp)
  | cons a rest ih =>
    cases i with
    | zero =>
      obtain rfl : a = e := Option.some.inj he
      exact if_pos hbad
    | succ i =>
      have ha : bad first a = false := hgood 0 a (Nat.succ_pos i) rfl
      rw [firstFault, ha, if_neg Bool.false_ne_true, ih (i := i) he (by rwa [Nat.add_right_comm]) fun j w hj hw => ?_]
      · rw [Nat.add_right_comm, Nat.add_assoc]
      · rw [Nat.add_right_comm]
        exact hgood (j + 1) w (Nat.succ_lt_succ hj) hw

/-- The entries before the one at fault are right, whatever follows it. -/
theorem firstFault_append {α : Type} {first : Nat} {bad : Nat → α → Bool} {before after : List α} {e : α}
    (hgood : ∀ (i : Nat) (w : α), before[i]? = some w → bad (first + i) w = false)
    (hbad : bad (first + before.length) e = true) :
    firstFault first bad (before ++ e :: after) = some (first + before.length) := by
  refine firstFault_eq_some (by simp) hbad fun j w hj hw => hgood j w ?_
  rwa [List.getElem?_append_left hj] at hw

/-! ### Entries and their bytes (R166) -/

theorem byte_toNat {n : Nat} (h : n < 256) : (byte n).toNat = n := Nat.mod_eq_of_lt h

theorem length_flatMap_const {α : Type} {enc : α → List Byte} {size : Nat} (hlen : ∀ e, (enc e).length = size)
    (es : List α) : (es.flatMap enc).length = es.length * size := by
  simp [List.length_flatMap, hlen]

theorem chunks_flatMap {α : Type} {enc : α → List Byte} {size : Nat} (hlen : ∀ e, (enc e).length = size) (es : List α)
    (n : Nat) (rest : List Byte) :
    chunks size (es.length + n) (es.flatMap enc ++ rest) = es.map enc ++ chunks size n rest := by
  induction es with
  | nil => simp
  | cons e es ih =>
    rw [List.length_cons, Nat.add_right_comm, chunks, List.flatMap_cons, List.append_assoc, List.take_left' (hlen e),
      List.drop_left' (hlen e), ih]
    rfl

/-- The entries of a body that is the bytes of a list of entries. -/
theorem decode_chunks {α β : Type} {enc : α → List Byte} {dec : List Byte → β} {g : α → β} {size : Nat} {es : List α}
    (hlen : ∀ e, (enc e).length = size) (hdec : ∀ e ∈ es, dec (enc e) = g e) {n : Nat} (hn : n = es.length) :
    (chunks size n (es.flatMap enc)).map dec = es.map g := by
  have h := chunks_flatMap hlen es 0 []
  rw [List.append_nil, Nat.add_zero, chunks, List.append_nil] at h
  rw [hn, h, List.map_map]
  exact List.map_congr_left hdec

/-- The entries of a body in which one more row, and whatever follows it, stands behind the bytes of other entries. -/
theorem decode_chunks_row {α β : Type} {enc : α → List Byte} {dec : List Byte → β} {g : α → β} {size : Nat}
    {es : List α} {row tail : List Byte} {n : Nat} (hlen : ∀ e, (enc e).length = size)
    (hdec : ∀ e ∈ es, dec (enc e) = g e) (hrow : row.length = size) (hpos : 0 < size)
    (hbody : (es.flatMap enc ++ row ++ tail).length = n * size) :
    ∃ rest, (chunks size n (es.flatMap enc ++ row ++ tail)).map dec = es.map g ++ dec row :: rest := by
  have hle : (es.length + 1) * size ≤ n * size := by
    rw [← hbody, List.length_append, List.length_append, length_flatMap_const hlen, hrow, Nat.succ_mul]
    exact Nat.le_add_right _ _
  obtain ⟨m, rfl⟩ := Nat.exists_eq_add_of_le (Nat.le_of_mul_le_mul_right hle hpos)
  refine ⟨(chunks size m tail).map dec, ?_⟩
  rw [List.append_assoc, Nat.add_assoc, Nat.add_comm 1, chunks_flatMap hlen, chunks, List.take_left' hrow,
    List.drop_left' hrow, List.map_append, List.map_map, List.map_cons]
  exact congrArg (· ++ _) (List.map_congr_left hdec)

theorem u24_be24 {n : Nat} (h : n < 16777216) : u24 (byte (n / 65536)) (byte (n / 256)) (byte n) = n := by
  simp only [u24, byte, BitVec.toNat_ofNat]
  omega

theorem s16_be16 {v : Int} (h : -32768 ≤ v ∧ v ≤ 32767) :
    s16 (byte ((v % 65536).toNat / 256)) (byte (v % 65536).toNat) = v := by
  rw [s16, u16_be16 (by omega)]
  split <;> omega

/-! ### Which payloads are of the right form (R18 checks 1 and 3) -/

theorem indicesIn_iff {lo hi : Nat} {first : Word16} {count : Byte} : indicesIn lo hi first count = true ↔
    1 ≤ count.toNat ∧ lo ≤ first.toNat ∧ first.toNat + count.toNat ≤ hi + 1 :=
  decide_eq_true_iff

theorem wholeRecord_iff {first : Word16} {count : Byte} : wholeRecord first count = true ↔ first = 0 ∧ count = 1 := by
  rw [wholeRecord, Bool.and_eq_true, beq_iff_eq, beq_iff_eq]

theorem loadLengthRight_iff {t : TableName} (ht : t ≠ .panelPattern) {n : Nat} {body : List Byte} :
    loadLengthRight t n body = true ↔ body.length = n * t.entrySize := by
  unfold loadLengthRight
  split
  · contradiction
  · exact decide_eq_true_iff

/-- R18 check 1: the bytes of entries of the table's size. -/
theorem loadLengthRight_flatMap {α : Type} {t : TableName} (ht : t ≠ .panelPattern) {enc : α → List Byte}
    (hlen : ∀ e, (enc e).length = t.entrySize) {es : List α} {n : Nat} (hn : n = es.length) :
    loadLengthRight t n (es.flatMap enc) = true :=
  (loadLengthRight_iff ht).mpr (hn ▸ length_flatMap_const hlen es)

/-- R166: the bytes of `n` panel pattern entries are `n` parts, each as long as its selector count says. -/
theorem patternBytes_eq_length {n : Nat} {body : List Byte} : patternBytes n body = some body.length ↔
    ∃ parts : List (List Byte), parts.length = n ∧ body = parts.flatten
      ∧ ∀ p ∈ parts, ∃ k, p[29]? = some k ∧ p.length = 39 + k.toNat := by
  induction n generalizing body with
  | zero =>
    rw [patternBytes, Option.some.injEq, eq_comm, List.length_eq_zero_iff]
    constructor
    · rintro rfl
      exact ⟨[], rfl, rfl, by simp⟩
    · rintro ⟨parts, hn, rfl, -⟩
      rw [List.length_eq_zero_iff.mp hn, List.flatten_nil]
  | succ n ih =>
    constructor
    · intro h
      unfold patternBytes at h
      split at h
      · contradiction
      next k hk =>
        split at h
        · contradiction
        next rest hrest =>
          have hlen : 39 + k.toNat + rest = body.length := Option.some.inj h
          have hdrop : rest = (body.drop (39 + k.toNat)).length := by rw [List.length_drop]; omega
          obtain ⟨parts, hn, hparts, hall⟩ := ih.mp (hdrop ▸ hrest)
          refine ⟨body.take (39 + k.toNat) :: parts, by rw [List.length_cons, hn], ?_, ?_⟩
          · rw [List.flatten_cons, ← hparts, List.take_append_drop]
          · refine List.forall_mem_cons.mpr ⟨⟨k, ?_, ?_⟩, hall⟩
            · rw [List.getElem?_take_of_lt (by omega), hk]
            · rw [List.length_take]; omega
    · rintro ⟨parts, hn, rfl, hall⟩
      obtain _ | ⟨p, parts⟩ := parts
      · contradiction
      obtain ⟨⟨k, hk, hp⟩, hall⟩ := List.forall_mem_cons.mp hall
      have hk' : (p ++ parts.flatten)[29]? = some k := by rw [List.getElem?_append_left (by omega), hk]
      have hrest := ih.mpr ⟨parts, Nat.succ.inj hn, rfl, hall⟩
      simp only [patternBytes, List.flatten_cons, hk', List.drop_left' hp, hrest, List.length_append, hp]

end Sys2Proof.Machine
end

section
/-! PROOF. Each TABLE LOAD as the checks of R18 on its entries, and the loads of a wrong form (R18, R166). -/

namespace Sys2Proof.Machine

/-! ### The mode and the constants, taken up (R30, R31) -/

/-- R31: the tape unverified, no ask, and a purge where a clip is UNKNOWN in a mode with sequencing. -/
theorem takeUpMode_eq (s : State) : takeUpMode s = { s with
    tpc := { s.tpc with verified := false }
    pin := { s.pin with ask := false }
    csq := { s.csq with seq := if s.mode ≠ .insertOnly ∧ .unknown ∈ s.csq.ring then .purging else s.csq.seq } } := by
  have hall : s.csq.ring.all (· != .unknown) = true ↔ .unknown ∉ s.csq.ring := by
    simp only [List.all_eq_true, bne_iff_ne]
    exact ⟨fun h hm => h _ hm rfl, fun h x hx hu => h (hu ▸ hx)⟩
  unfold takeUpMode
  extract_lets s1
  have hring : s1.csq.ring = s.csq.ring := rfl
  rw [hring]
  by_cases hm : s.mode = .insertOnly
  · rw [if_pos hm, if_neg fun h => h.1 hm]
    rfl
  · by_cases hu : .unknown ∈ s.csq.ring
    · rw [if_neg hm, if_neg fun h => hall.mp h hu, if_pos ⟨hm, hu⟩]
      rfl
    · rw [if_neg hm, if_pos (hall.mpr hu), if_neg fun h => hu h.2]
      rfl

/-- R30: the record written, with the chain built anew for a new L. -/
def recordWritten (k : MachineConstants) (s : State) : State := { s with
  tables := { s.tables with constants := k }
  csq := if k.chainLength = s.tables.constants.chainLength then s.csq else Csq.rebuilt k s.csq }

theorem writeConstants_eq (k : MachineConstants) (s : State) : writeConstants k s =
    if k.mode = s.mode then recordWritten k s else takeUpMode (recordWritten k s) := by
  unfold writeConstants recordWritten
  by_cases hl : k.chainLength = s.tables.constants.chainLength
  · simp only [if_pos hl]
    rfl
  · simp only [if_neg hl]
    rfl

theorem writeConstants_blind (k : MachineConstants) : LpuBlind (writeConstants k) := by
  intro g s
  rw [writeConstants_eq, writeConstants_eq]
  by_cases hm : k.mode = s.mode
  · rw [if_pos hm, if_pos (c := k.mode = (s.updLpu g).mode) hm]
    rfl
  · rw [if_neg hm, if_neg (c := k.mode = (s.updLpu g).mode) hm, takeUpMode_eq, takeUpMode_eq]
    rfl

/-! ### Each load as its checks and its write -/

section

variable (first : Word16) (count : Byte) (body : List Byte) (s : State)

theorem loadComponent_eq {entries : List (Option ComponentEntry)}
    (h : (chunks 6 count.toNat body).map componentOf = entries) : loadComponent first count body s =
      loadTable .component count body ⟨indicesIn 1 511 first count, .ok,
        firstFault first.toNat (fun _ e => !(e.map (componentInRange s.tables s.csu)).getD false) entries, none⟩
        (fun t => retakeAsk (t.updTables fun b =>
          { b with components := writeAt first.toNat (entries.filterMap id) b.components })) s := by
  subst h; rfl

theorem loadSpan_eq {entries : List Nat} (h : (chunks 2 count.toNat body).map spanOf = entries) :
    loadSpan first count body s = loadTable .span count body ⟨indicesIn 0 15 first count, .ok,
      firstFault first.toNat (fun _ v => decide (v < 50 ∨ 260 < v)) entries, none⟩
      (·.updTables fun b => { b with spans := writeAt first.toNat (entries.map some) b.spans }) s := by
  subst h; rfl

theorem loadStationMap_eq {entries map : List StationMapEntry}
    (h : (chunks 2 count.toNat body).map stationMapEntryOf = entries)
    (hmap : writeAt (first.toNat - 1) entries s.tables.stations = map) :
    loadStationMap first count body s = loadTable .stationMap count body ⟨indicesIn 1 96 first count,
      if s.csq.seq = .idle ∧ s.csq.window = [] then .ok else .locked,
      firstFault first.toNat (fun n e => !stationInRange s.tables.constants n e) entries,
      (firstFault first.toNat (fun _ e => dropShared map e) entries).map (ResultCode.badValue, ·)⟩
      (fun t => alignSubstitutions (t.updTables ({ · with stations := map }))) s := by
  subst h hmap; rfl

theorem loadProfile_eq {entries : List (Option Profile)} (h : (chunks 22 count.toNat body).map profileOf = entries) :
    loadProfile first count body s = loadTable .profile count body ⟨indicesIn 0 31 first count, .ok,
      firstFault first.toNat (fun _ e => !(e.map profileInRange).getD false) entries, none⟩
      (·.updCsu fun c => { c with
        profiles := writeAt first.toNat ((entries.filterMap id).map some) c.profiles
        wear := writeAt first.toNat ((entries.filterMap id).map wearStart) c.wear }) s := by
  subst h; rfl

theorem loadFilterSet_eq {entries : List FilterSet} (h : (chunks 11 count.toNat body).map filterOf = entries) :
    loadFilterSet first count body s = loadTable .filterSet count body ⟨indicesIn 0 3 first count, .ok, none, none⟩
      (·.updCsu fun c => { c with filters := writeAt first.toNat entries c.filters }) s := by
  subst h; rfl

theorem loadAlarmMap_eq {entries : List (Nat × Nat)} (h : (chunks 2 count.toNat body).map mapEntryOf = entries) :
    loadAlarmMap first count body s = loadTable .alarmMap count body ⟨indicesIn 0 21 first count, .ok,
      firstFault first.toNat mapFault entries, none⟩
      (·.updAlc fun a => { a with
        map := writeAt first.toNat (entries.map fun e => ⟨(ChannelId.ofCode e.1).getD .note, e.2 == 1⟩) a.map }) s := by
  subst h; rfl

theorem loadPanelPattern_eq : loadPanelPattern first count body s =
    loadTable .panelPattern count body ⟨wholeRecord first count,
      if s.tbc.panel = .empty ∧ noPlacements s then .ok else .busy,
      firstFault 1 (fun _ ok => !ok) (patternPlaces (rawPatternOf body)),
      (imageOffTable (patternOfRaw (rawPatternOf body))).map (ResultCode.offTable, ·)⟩
      (·.updTbc ({ · with pattern := some (patternOfRaw (rawPatternOf body)) })) s := rfl

theorem loadConstants_eq {new : List Nat} (h : rawConstantsOf body = new) : loadConstants first count body s =
    loadTable .constants count body ⟨wholeRecord first count, constantsState s new, constantsFault new,
      constantsCross s new⟩ (writeConstants (MachineConstants.ofPlaces new)) s := by
  subst h; rfl

end

/-! ### No load has a part in LPU -/

/-- A load whose checks do not read LPU, and whose write leaves it alone. -/
theorem Act.LpuBlind.of_load {act : Act} {t : TableName} {count : Byte} {body : List Byte} {check : State → LoadCheck}
    {write : State → State → State} (heq : ∀ s, act s = loadTable t count body (check s) (write s) s)
    (hcheck : ∀ g s, check (s.updLpu g) = check s) (hsame : ∀ g s, write (s.updLpu g) = write s)
    (hwrite : ∀ s, Machine.LpuBlind (write s)) : act.LpuBlind := by
  intro g s
  rw [heq, heq, hcheck, hsame]
  exact loadTable_blind (hwrite s) t count body (check s) g s

section

variable (first : Word16) (count : Byte) (body : List Byte)

theorem loadComponent_blind : (loadComponent first count body).LpuBlind :=
  .of_load (fun s => loadComponent_eq first count body s rfl) (fun _ _ => rfl) (fun _ _ => rfl)
    fun _ => retakeAsk_blind.comp fun _ _ => rfl

theorem loadSpan_blind : (loadSpan first count body).LpuBlind :=
  .of_load (fun s => loadSpan_eq first count body s rfl) (fun _ _ => rfl) (fun _ _ => rfl) fun _ _ _ => rfl

theorem loadStationMap_blind : (loadStationMap first count body).LpuBlind :=
  .of_load (fun s => loadStationMap_eq first count body s rfl rfl) (fun _ _ => rfl) (fun _ _ => rfl) fun _ _ _ => rfl

theorem loadProfile_blind : (loadProfile first count body).LpuBlind :=
  .of_load (fun s => loadProfile_eq first count body s rfl) (fun _ _ => rfl) (fun _ _ => rfl) fun _ _ _ => rfl

theorem loadFilterSet_blind : (loadFilterSet first count body).LpuBlind :=
  .of_load (fun s => loadFilterSet_eq first count body s rfl) (fun _ _ => rfl) (fun _ _ => rfl) fun _ _ _ => rfl

theorem loadAlarmMap_blind : (loadAlarmMap first count body).LpuBlind :=
  .of_load (fun s => loadAlarmMap_eq first count body s rfl) (fun _ _ => rfl) (fun _ _ => rfl) fun _ _ _ => rfl

theorem loadPanelPattern_blind : (loadPanelPattern first count body).LpuBlind :=
  .of_load (fun s => loadPanelPattern_eq first count body s) (fun _ _ => rfl) (fun _ _ => rfl) fun _ _ _ => rfl

theorem loadConstants_blind : (loadConstants first count body).LpuBlind :=
  .of_load (fun s => loadConstants_eq first count body s rfl) (fun _ _ => rfl) (fun _ _ => rfl)
    fun _ => writeConstants_blind _

end

/-! ### Loads of a wrong form (R18 checks 1 and 3) -/

/-- The answer to a load of a wrong length, and to one of a wrong index. -/
theorem next_load_wrongForm {tag : Byte} {act : Act} {t : TableName} {count : Byte} {body : List Byte} {k : LoadCheck}
    {write : State → State} {s : State} {lengthRight inTable : Prop} (hs : Takes s) (hb : act.LpuBlind)
    (heq : act s = loadTable t count body k write s) (hl : loadLengthRight t count.toNat body = true ↔ lengthRight)
    (hi : k.indexRight = true ↔ inTable) :
    (¬ lengthRight → (.next (request 0x11 tag act s) : Result) = .next (answered 0x11 tag .badLength [] s))
    ∧ (lengthRight → ¬ inTable →
      (.next (request 0x11 tag act s) : Result) = .next (answered 0x11 tag .badIndex [0, 0, 0] s)) := by
  refine ⟨fun h => next_request hb hs (by decide) ?_, fun h hn => next_request hb hs (by decide) ?_⟩
  · rw [heq, loadTable_wrongLength (Bool.eq_false_iff.mpr (h ∘ hl.mp))]
  · rw [heq, loadTable_wrongIndex (hl.mpr h) (Bool.eq_false_iff.mpr (hn ∘ hi.mp))]

end Sys2Proof.Machine

open Sys2Proof Sys2Proof.Machine

/-- Settles O20: each load's first two checks, with the parts of a panel pattern by `patternBytes_eq_length`. -/
theorem loadsRefuseWrongForm : Obligations.LoadsRefuseWrongForm := by
  unfold Obligations.LoadsRefuseWrongForm
  intro tag first count body s hs reply within whole
  refine ⟨?_, ?_, ?_, ?_, ?_, ?_, ?_, ?_⟩
  · exact next_load_wrongForm hs (loadComponent_blind first count body) (loadComponent_eq first count body s rfl)
      (loadLengthRight_iff (by decide)) indicesIn_iff
  · exact next_load_wrongForm hs (loadSpan_blind first count body) (loadSpan_eq first count body s rfl)
      (loadLengthRight_iff (by decide)) indicesIn_iff
  · exact next_load_wrongForm hs (loadStationMap_blind first count body) (loadStationMap_eq first count body s rfl rfl)
      (loadLengthRight_iff (by decide)) indicesIn_iff
  · exact next_load_wrongForm hs (loadProfile_blind first count body) (loadProfile_eq first count body s rfl)
      (loadLengthRight_iff (by decide)) indicesIn_iff
  · exact next_load_wrongForm hs (loadFilterSet_blind first count body) (loadFilterSet_eq first count body s rfl)
      (loadLengthRight_iff (by decide)) indicesIn_iff
  · exact next_load_wrongForm hs (loadAlarmMap_blind first count body) (loadAlarmMap_eq first count body s rfl)
      (loadLengthRight_iff (by decide)) indicesIn_iff
  · exact next_load_wrongForm hs (loadConstants_blind first count body) (loadConstants_eq first count body s rfl)
      (loadLengthRight_iff (by decide)) wholeRecord_iff
  · exact next_load_wrongForm hs (loadPanelPattern_blind first count body) (loadPanelPattern_eq first count body s)
      (decide_eq_true_iff.trans patternBytes_eq_length) wholeRecord_iff

end

section
/-! PROOF. SPAN and COMPONENT loads (R14, R18, R20, R23, R166). -/

namespace Sys2Proof.Machine

theorem writeAt_map {α β : Type} (place : Nat) (f : β → α) (es : List β) (l : List α) :
    writeAt place (es.map f) l = l.take place ++ es.map f ++ l.drop (place + es.length) := by
  rw [writeAt, List.length_map]

/-! ### The bytes of a span, and of a component entry (R166) -/

theorem be16_length (n : Nat) : (be16 n).length = 2 := rfl

theorem componentBytes_length (e : ComponentEntry) : (componentBytes e).length = 6 := rfl

/-- Every field of a component entry is a byte. -/
def ComponentEntry.Fits (e : ComponentEntry) : Prop :=
  e.station < 256 ∧ e.spanCode < 256 ∧ e.profile < 256 ∧ e.form < 256 ∧ e.checkSkip < 256

theorem componentOf_bytes {e : ComponentEntry} (h : e.Fits) : componentOf (componentBytes e) = some e := by
  obtain ⟨h1, h2, h3, h4, h5⟩ := h
  obtain ⟨valid, station, spanCode, profile, form, checkSkip⟩ := e
  simp only [componentOf, componentBytes, byte_toNat h1, byte_toNat h2, byte_toNat h3, byte_toNat h4, byte_toNat h5]
  cases valid <;> rfl

/-- Log 38: a valid byte above 1 is no entry. -/
theorem componentOf_none {row : List Byte} {v : Byte} (hv : row[0]? = some v) (h : 1 < v.toNat) :
    componentOf row = none := by
  unfold componentOf
  split
  · obtain rfl := Option.some.inj hv
    exact if_neg (Nat.not_le.mpr h)
  · rfl

/-- R20: what a valid entry's fields must be. -/
def ComponentEntry.Right (t : Tables) (c : Csu) (e : ComponentEntry) : Prop :=
  e.valid = true → 1 ≤ e.station ∧ e.station ≤ 96 ∧ e.spanCode ≤ 15 ∧ e.profile ≤ 31 ∧ e.form ≤ 1 ∧ e.checkSkip ≤ 1
    ∧ (∃ v, t.spans[e.spanCode]? = some (some v))
    ∧ (e.checkSkip = 0 → ∃ p, c.profiles[e.profile]? = some (some p))

/-- A place of a table of loaded entries holds one. -/
theorem getD_isSome {α : Type} {l : List (Option α)} {i : Nat} :
    (l.getD i none).isSome = true ↔ ∃ a, l[i]? = some (some a) := by
  rw [List.getD_eq_getElem?_getD, Option.isSome_iff_exists]
  cases l[i]? <;> simp

theorem componentInRange_iff {t : Tables} {c : Csu} {e : ComponentEntry} :
    componentInRange t c e = true ↔ e.Right t c := by
  unfold componentInRange ComponentEntry.Right
  simp only [Bool.or_eq_true, Bool.and_eq_true, Bool.not_eq_true', decide_eq_true_eq, getD_isSome, beq_iff_eq]
  constructor
  · rintro (hretired | ⟨⟨⟨h1, h96, h15, h31, hform, hskip⟩, hspan⟩, hprofile⟩) hvalid
    · rw [hretired] at hvalid
      contradiction
    · exact ⟨h1, h96, Nat.le_of_lt_succ h15, Nat.le_of_lt_succ h31, hform, hskip, hspan,
        fun h0 => hprofile.resolve_left (by omega)⟩
  · intro h
    cases hvalid : e.valid with
    | false => exact .inl rfl
    | true =>
      obtain ⟨h1, h96, h15, h31, hform, hskip, hspan, hprofile⟩ := h hvalid
      refine .inr ⟨⟨⟨h1, h96, Nat.lt_succ_of_le h15, Nat.lt_succ_of_le h31, hform, hskip⟩, hspan⟩, ?_⟩
      by_cases h0 : e.checkSkip = 0
      · exact .inr (hprofile h0)
      · exact .inl (by omega)

/-- R20: the check of one row of a COMPONENT load, on the entry its bytes are. -/
def componentFault (s : State) (e : Option ComponentEntry) : Bool :=
  !(e.map (componentInRange s.tables s.csu)).getD false

theorem componentFault_some {s : State} {e : ComponentEntry} :
    componentFault s (some e) = false ↔ e.Right s.tables s.csu := by
  rw [← componentInRange_iff]
  exact Iff.of_eq (Bool.not_eq_false' _)

/-- Entries that are right pass check 5. -/
theorem componentFault_right {s : State} {es : List ComponentEntry} (h : ∀ e ∈ es, e.Fits ∧ e.Right s.tables s.csu)
    (i : Nat) (e : Option ComponentEntry) (he : (es.map some)[i]? = some e) : componentFault s e = false := by
  obtain ⟨a, ha, rfl⟩ := List.mem_map.mp (List.mem_of_getElem? he)
  exact componentFault_some.mpr (h a ha).2

/-! ### The loads -/

/-- R23: the check of one span. -/
def spanFault (v : Nat) : Bool := decide (v < 50 ∨ 260 < v)

theorem spanFault_right {v : Nat} (h : 50 ≤ v ∧ v ≤ 260) : spanFault v = false := decide_eq_false (by omega)

section

variable {tag : Byte} {first : Word16} {s : State} (hs : Takes s)
include hs

/-- A load of spans, from its checks. -/
theorem exec_loadSpan {vals : List Nat} {t : State} {code : ResultCode} {data : List Byte} (h16 : vals.length ≤ 16)
    (hfits : ∀ v ∈ vals, v < 65536)
    (h : loadTable .span (byte vals.length) (vals.flatMap be16) ⟨indicesIn 0 15 first (byte vals.length), .ok,
      firstFault first.toNat (fun _ => spanFault) vals, none⟩
      (·.updTables fun b => { b with spans := writeAt first.toNat (vals.map some) b.spans }) s = (t, code, data)) :
    exec (.tableLoadSpan tag first (byte vals.length) (vals.flatMap be16)) s =
      .next (answered 0x11 tag code data t) := by
  have hentries : (chunks 2 (byte vals.length).toNat (vals.flatMap be16)).map spanOf = vals :=
    (decode_chunks (g := id) be16_length (fun v hv => u16_be16 (hfits v hv)) (byte_toNat (by omega))).trans
      (List.map_id vals)
  exact next_request (loadSpan_blind _ _ _) hs (by decide) ((loadSpan_eq _ _ _ _ hentries).trans h)

theorem exec_loadComponent_written {es : List ComponentEntry} (h1 : 1 ≤ es.length) (h39 : es.length ≤ 39)
    (hfirst : 1 ≤ first.toNat) (h512 : first.toNat + es.length ≤ 512)
    (he : ∀ e ∈ es, e.Fits ∧ e.Right s.tables s.csu) :
    exec (.tableLoadComponent tag first (byte es.length) (es.flatMap componentBytes)) s =
      .next (answered 0x11 tag .ok [byte es.length, 0, 0] (retakeAsk { s with tables := { s.tables with
        components := s.tables.components.take first.toNat ++ es
          ++ s.tables.components.drop (first.toNat + es.length) } })) := by
  have hcount : (byte es.length).toNat = es.length := byte_toNat (by omega)
  have hentries : (chunks 6 (byte es.length).toNat (es.flatMap componentBytes)).map componentOf = es.map some :=
    decode_chunks componentBytes_length (fun e h => componentOf_bytes (he e h).1) hcount
  have hl : loadLengthRight .component (byte es.length).toNat (es.flatMap componentBytes) = true :=
    loadLengthRight_flatMap (by decide) componentBytes_length hcount
  have hi : indicesIn 1 511 first (byte es.length) = true := indicesIn_iff.mpr (by omega)
  refine next_request (loadComponent_blind _ _ _) hs (by decide) ((loadComponent_eq _ _ _ _ hentries).trans
    ((loadTable_written hl hi rfl (firstFault_eq_none (componentFault_right he)) rfl).trans ?_))
  simp only [List.filterMap_map, Function.id_comp, List.filterMap_some]
  rfl

theorem exec_loadComponent_fault {es : List ComponentEntry} {row tail : List Byte} {count : Byte}
    (hbody : (es.flatMap componentBytes ++ row ++ tail).length = count.toNat * 6) (hrow : row.length = 6)
    (hfirst : 1 ≤ first.toNat) (h512 : first.toNat + count.toNat ≤ 512)
    (he : ∀ e ∈ es, e.Fits ∧ e.Right s.tables s.csu) (hbad : componentFault s (componentOf row) = true) :
    exec (.tableLoadComponent tag first count (es.flatMap componentBytes ++ row ++ tail)) s =
      .next (answered 0x11 tag .badValue ([0] ++ be16 (first.toNat + es.length)) s) := by
  obtain ⟨rest, hentries⟩ := decode_chunks_row (dec := componentOf) (g := some) componentBytes_length
    (fun e h => componentOf_bytes (he e h).1) hrow (by decide) hbody
  have hpos : 1 ≤ count.toNat := by
    simp only [List.length_append, hrow] at hbody
    omega
  have hsome := firstFault_append (first := first.toNat) (bad := fun _ => componentFault s) (after := rest)
    (componentFault_right he) hbad
  rw [List.length_map] at hsome
  exact next_request (loadComponent_blind _ _ _) hs (by decide) ((loadComponent_eq _ _ _ _ hentries).trans
    (loadTable_fault ((loadLengthRight_iff (by decide)).mpr hbody) (indicesIn_iff.mpr ⟨hpos, hfirst, h512⟩) rfl hsome))

end

end Sys2Proof.Machine

open Sys2Proof Sys2Proof.Machine

/-- Settles O21: the entries of each body, and the first of them at fault. -/
theorem spanAndComponentLoads : Obligations.SpanAndComponentLoads := by
  unfold Obligations.SpanAndComponentLoads
  intro tag first s hs atFault right fits
  refine ⟨fun vals h1 h16 hfits => ?_, fun es h1 h39 hf h512 he => exec_loadComponent_written hs h1 h39 hf h512 he, ?_⟩
  · have hcount : (byte vals.length).toNat = vals.length := byte_toNat (by omega)
    have hl : loadLengthRight .span (byte vals.length).toNat (vals.flatMap be16) = true :=
      loadLengthRight_flatMap (by decide) be16_length hcount
    have hi : indicesIn 0 15 first (byte vals.length) = true := indicesIn_iff.mpr (by omega)
    refine ⟨fun hin => exec_loadSpan hs (by omega) hfits ?_,
      fun i v hv hbad hgood => exec_loadSpan hs (by omega) hfits ?_⟩
    · have hnone := firstFault_eq_none (first := first.toNat) (bad := fun _ => spanFault)
        fun i v hv => spanFault_right (hin v (List.mem_of_getElem? hv))
      refine (loadTable_written hl hi rfl hnone rfl).trans ?_
      simp only [writeAt_map]
      rfl
    · exact loadTable_fault hl hi rfl (firstFault_eq_some (bad := fun _ => spanFault) hv (decide_eq_true hbad)
        fun j w hj hw => spanFault_right (hgood j w hj hw))
  · intro es row tail count body hbody hrow hf h512 he hbad
    refine exec_loadComponent_fault hs hbody hrow hf h512 he ?_
    rcases hbad with ⟨e, rfl, hfits, hwrong⟩ | ⟨v, hv, hbig⟩
    · rw [componentOf_bytes hfits, ← Bool.not_eq_false, componentFault_some]
      exact hwrong
    · rw [componentOf_none hv hbig]
      rfl

end

section
/-! PROOF. PROFILE, FILTER SET and ALARM MAP loads (R18, R106, R107, R108, R140, R166). -/

namespace Sys2Proof.Machine

/-! ### Profiles (R106) -/

theorem profileBytes_length (p : Profile) : (profileBytes (some p)).length = 22 := rfl

/-- R106: what a profile's fields must be. -/
def Profile.Right (p : Profile) : Prop :=
  p.filterSet ≤ 3 ∧ 8 ≤ p.windowLength ∧ p.windowLength ≤ 64 ∧ p.emptyLevel ≤ 32767 ∧ p.contactLevel ≤ 32767
    ∧ p.peakMin ≤ p.peakMax ∧ p.peakMax ≤ 32767 ∧ p.indexMin ≤ p.indexMax ∧ p.indexMax < p.windowLength
    ∧ p.areaMin ≤ p.areaMax ∧ p.areaMax ≤ 2097088 ∧ p.contactMin ≤ p.windowLength ∧ p.wearLevel ≤ 32767

/-- Every field of a profile fits its bytes. -/
def Profile.Fits (p : Profile) : Prop :=
  p.filterSet < 256 ∧ p.windowLength < 256 ∧ p.emptyLevel < 65536 ∧ p.contactLevel < 65536 ∧ p.peakMin < 65536
    ∧ p.peakMax < 65536 ∧ p.indexMin < 256 ∧ p.indexMax < 256 ∧ p.areaMin < 16777216 ∧ p.areaMax < 16777216
    ∧ p.contactMin < 256 ∧ p.wearLevel < 65536

theorem Profile.Right.fits {p : Profile} (h : p.Right) : p.Fits := by
  obtain ⟨h1, h2, h3, h4, h5, h6, h7, h8, h9, h10, h11, h12, h13⟩ := h
  refine ⟨?_, ?_, ?_, ?_, ?_, ?_, ?_, ?_, ?_, ?_, ?_, ?_⟩ <;> omega

theorem profileInRange_iff {p : Profile} : profileInRange p = true ↔ p.Right := by
  refine decide_eq_true_iff.trans ⟨?_, ?_⟩
  · rintro ⟨hset, h8, h64, hempty, hcontact, hpeak, hpeaks, hindex, hindices, harea, hareas, hmin, hwear⟩
    exact ⟨Nat.le_of_lt_succ hset, h8, h64, hempty, hcontact, hpeaks, hpeak, hindices, hindex, hareas, harea, hmin,
      hwear⟩
  · rintro ⟨hset, h8, h64, hempty, hcontact, hpeaks, hpeak, hindices, hindex, hareas, harea, hmin,
      hwear⟩
    exact ⟨Nat.lt_succ_of_le hset, h8, h64, hempty, hcontact, hpeak, hpeaks, hindex, hindices, harea, hareas, hmin,
      hwear⟩

theorem policy_ofCode (p : FaultPolicy) : FaultPolicy.ofCode (byte p.code).toNat = some p := by
  cases p <;> rfl

theorem profileOf_bytes {p : Profile} (h : p.Fits) : profileOf (profileBytes (some p)) = some p := by
  obtain ⟨h1, h2, h3, h4, h5, h6, h7, h8, h9, h10, h11, h12⟩ := h
  simp only [profileBytes, be16, be24, List.cons_append, List.nil_append, profileOf, policy_ofCode, byte_toNat h1,
    byte_toNat h2, u16_be16 h3, u16_be16 h4, u16_be16 h5, u16_be16 h6, byte_toNat h7, byte_toNat h8, u24_be24 h9,
    u24_be24 h10, byte_toNat h11, u16_be16 h12]

theorem policy_ofCode_none {n : Nat} (h : 2 < n) : FaultPolicy.ofCode n = none := by
  match n, h with
  | n + 3, _ => rfl

/-- R106: a byte that names no policy is no profile. -/
theorem profileOf_none {row : List Byte} {b : Byte} (hb : row[19]? = some b) (h : 2 < b.toNat) :
    profileOf row = none := by
  unfold profileOf
  split
  · obtain rfl := Option.some.inj hb
    rw [policy_ofCode_none h]
  · rfl

/-- R106: the check of one row of a PROFILE load, on the profile its bytes are. -/
def profileFault (e : Option Profile) : Bool := !(e.map profileInRange).getD false

theorem profileFault_some {p : Profile} : profileFault (some p) = false ↔ p.Right := by
  rw [← profileInRange_iff]
  exact Iff.of_eq (Bool.not_eq_false' _)

/-- Profiles that are right pass check 5. -/
theorem profileFault_right {ps : List Profile} (h : ∀ p ∈ ps, p.Right) (i : Nat) (e : Option Profile)
    (he : (ps.map some)[i]? = some e) : profileFault e = false := by
  obtain ⟨a, ha, rfl⟩ := List.mem_map.mp (List.mem_of_getElem? he)
  exact profileFault_some.mpr (h a ha)

/-! ### Filter sets (R108) -/

theorem filterBytes_length (f : FilterSet) : (filterBytes f).length = 11 := rfl

theorem filterOf_bytes {f : FilterSet} (h : ∀ v ∈ [f.b0, f.b1, f.b2, f.a1, f.a2], -32768 ≤ v ∧ v ≤ 32767) :
    filterOf (filterBytes f) = f := by
  simp only [List.forall_mem_cons] at h
  obtain ⟨h1, h2, h3, h4, h5, -⟩ := h
  obtain ⟨b0, b1, b2, a1, a2, bypass⟩ := f
  simp only [filterBytes, be16s, be16, List.cons_append, List.nil_append, filterOf, s16_be16 h1, s16_be16 h2,
    s16_be16 h3, s16_be16 h4, s16_be16 h5]
  cases bypass <;> rfl

/-! ### The alarm map (R140) -/

/-- The bytes of an alarm map entry. -/
def mapBytes (m : MapEntry) : List Byte := [byte m.channel.code, flagByte m.suppress]

/-- The entry written for two bytes that pass. -/
def mapEntryWritten (e : Nat × Nat) : MapEntry := ⟨(ChannelId.ofCode e.1).getD .note, e.2 == 1⟩

theorem mapBytes_length (m : MapEntry) : (mapBytes m).length = 2 := rfl

theorem mapEntryOf_bytes (m : MapEntry) : mapEntryOf (mapBytes m) = (m.channel.code, m.suppress.toNat) := by
  obtain ⟨channel, suppress⟩ := m
  cases channel <;> cases suppress <;> rfl

theorem mapEntryWritten_code (m : MapEntry) : mapEntryWritten (m.channel.code, m.suppress.toNat) = m := by
  obtain ⟨channel, suppress⟩ := m
  cases channel <;> cases suppress <;> rfl

theorem ChannelId.code_le (c : ChannelId) : c.code ≤ 3 := by cases c <;> decide

theorem ChannelId.code_eq_zero {c : ChannelId} : c.code = 0 ↔ c = .stop := by cases c <;> decide

/-- R140: an entry that suppresses nothing in STOP is refused only as kind ESTOP. -/
theorem mapFault_code {kind : Nat} {m : MapEntry} (hstop : m.channel = .stop → m.suppress = false)
    (hestop : kind = 0 → m = ⟨.stop, false⟩) : mapFault kind (m.channel.code, m.suppress.toNat) = false := by
  refine decide_eq_false ?_
  rintro (hchannel | hsuppress | ⟨hkind, h⟩ | ⟨hzero, hset⟩)
  · exact absurd hchannel (Nat.not_lt.mpr m.channel.code_le)
  · exact absurd hsuppress (Nat.not_lt.mpr m.suppress.toNat_le)
  · rw [hestop hkind] at h
    exact absurd h (by decide)
  · refine hset ?_
    rw [hstop (ChannelId.code_eq_zero.mp hzero)]
    rfl

theorem mapRow_length (x : Byte × Byte) : [x.1, x.2].length = 2 := rfl

/-- R140: what refuses an entry, on the two bytes. -/
theorem mapFault_pair {kind : Nat} {x : Byte × Byte} : mapFault kind (x.1.toNat, x.2.toNat) = true ↔
    3 < x.1.toNat ∨ 1 < x.2.toNat ∨ (kind = 0 ∧ ¬ (x.1 = 0 ∧ x.2 = 0)) ∨ (x.1 = 0 ∧ x.2 = 1) := by
  have h10 : x.1 = 0 ↔ x.1.toNat = 0 := BitVec.toNat_inj.symm
  have h20 : x.2 = 0 ↔ x.2.toNat = 0 := BitVec.toNat_inj.symm
  have h21 : x.2 = 1 ↔ x.2.toNat = 1 := BitVec.toNat_inj.symm
  refine decide_eq_true_iff.trans ?_
  rw [h10, h20, h21]
  omega

/-! ### The loads -/

section

variable {tag : Byte} {first : Word16} {s : State} (hs : Takes s)
include hs

theorem exec_loadProfile_written {ps : List Profile} (h1 : 1 ≤ ps.length) (h32 : first.toNat + ps.length ≤ 32)
    (hps : ∀ p ∈ ps, p.Right) :
    exec (.tableLoadProfile tag first (byte ps.length) (ps.flatMap fun p => profileBytes (some p))) s =
      .next (answered 0x11 tag .ok [byte ps.length, 0, 0] { s with csu := { s.csu with
        profiles := s.csu.profiles.take first.toNat ++ ps.map some ++ s.csu.profiles.drop (first.toNat + ps.length)
        wear := s.csu.wear.take first.toNat ++ ps.map wearStart ++ s.csu.wear.drop (first.toNat + ps.length) } }) := by
  have hcount : (byte ps.length).toNat = ps.length := byte_toNat (by omega)
  have hentries := decode_chunks (dec := profileOf) (g := some) profileBytes_length
    (fun p hp => profileOf_bytes (hps p hp).fits) hcount
  have hl : loadLengthRight .profile (byte ps.length).toNat (ps.flatMap fun p => profileBytes (some p)) = true :=
    loadLengthRight_flatMap (by decide) profileBytes_length hcount
  have hi : indicesIn 0 31 first (byte ps.length) = true := indicesIn_iff.mpr (by omega)
  refine next_request (loadProfile_blind _ _ _) hs (by decide) ((loadProfile_eq _ _ _ _ hentries).trans
    ((loadTable_written hl hi rfl (firstFault_eq_none (profileFault_right hps)) rfl).trans ?_))
  simp only [List.filterMap_map, Function.id_comp, List.filterMap_some, writeAt_map]
  rfl

theorem exec_loadProfile_fault {ps : List Profile} {row tail : List Byte} {count : Byte}
    (hbody : ((ps.flatMap fun p => profileBytes (some p)) ++ row ++ tail).length = count.toNat * 22)
    (hrow : row.length = 22) (h32 : first.toNat + count.toNat ≤ 32) (hps : ∀ p ∈ ps, p.Right)
    (hbad : profileFault (profileOf row) = true) :
    exec (.tableLoadProfile tag first count ((ps.flatMap fun p => profileBytes (some p)) ++ row ++ tail)) s =
      .next (answered 0x11 tag .badValue ([0] ++ be16 (first.toNat + ps.length)) s) := by
  obtain ⟨rest, hentries⟩ := decode_chunks_row (dec := profileOf) (g := some) profileBytes_length
    (fun p hp => profileOf_bytes (hps p hp).fits) hrow (by decide) hbody
  have hpos : 1 ≤ count.toNat := by
    simp only [List.length_append, hrow] at hbody
    omega
  have hfirst := firstFault_append (first := first.toNat) (bad := fun _ => profileFault) (after := rest)
    (profileFault_right hps) hbad
  rw [List.length_map] at hfirst
  exact next_request (loadProfile_blind _ _ _) hs (by decide) ((loadProfile_eq _ _ _ _ hentries).trans
    (loadTable_fault ((loadLengthRight_iff (by decide)).mpr hbody) (indicesIn_iff.mpr ⟨hpos, Nat.zero_le _, h32⟩) rfl
      hfirst))

theorem exec_loadFilterSet_written {fs : List FilterSet} (h1 : 1 ≤ fs.length) (h4 : first.toNat + fs.length ≤ 4)
    (hfs : ∀ f ∈ fs, ∀ v ∈ [f.b0, f.b1, f.b2, f.a1, f.a2], -32768 ≤ v ∧ v ≤ 32767) :
    exec (.tableLoadFilterSet tag first (byte fs.length) (fs.flatMap filterBytes)) s =
      .next (answered 0x11 tag .ok [byte fs.length, 0, 0] { s with csu := { s.csu with
        filters := s.csu.filters.take first.toNat ++ fs ++ s.csu.filters.drop (first.toNat + fs.length) } }) := by
  have hcount : (byte fs.length).toNat = fs.length := byte_toNat (by omega)
  have hentries := (decode_chunks (dec := filterOf) (g := id) filterBytes_length (fun f hf => filterOf_bytes (hfs f hf))
    hcount).trans (List.map_id fs)
  have hl : loadLengthRight .filterSet (byte fs.length).toNat (fs.flatMap filterBytes) = true :=
    loadLengthRight_flatMap (by decide) filterBytes_length hcount
  have hi : indicesIn 0 3 first (byte fs.length) = true := indicesIn_iff.mpr (by omega)
  exact next_request (loadFilterSet_blind _ _ _) hs (by decide) ((loadFilterSet_eq _ _ _ _ hentries).trans
    (loadTable_written hl hi rfl rfl rfl))

theorem exec_loadAlarmMap_written {ms : List MapEntry} (h1 : 1 ≤ ms.length) (h22 : first.toNat + ms.length ≤ 22)
    (hstop : ∀ m ∈ ms, m.channel = .stop → m.suppress = false) (hestop : first = 0 → ms.head? = some ⟨.stop, false⟩) :
    exec (.tableLoadAlarmMap tag first (byte ms.length) (ms.flatMap mapBytes)) s =
      .next (answered 0x11 tag .ok [byte ms.length, 0, 0] { s with alc := { s.alc with
        map := s.alc.map.take first.toNat ++ ms ++ s.alc.map.drop (first.toNat + ms.length) } }) := by
  have hcount : (byte ms.length).toNat = ms.length := byte_toNat (by omega)
  have hentries := decode_chunks (dec := mapEntryOf) (g := fun m => (m.channel.code, m.suppress.toNat)) mapBytes_length
    (fun m _ => mapEntryOf_bytes m) hcount
  have hl : loadLengthRight .alarmMap (byte ms.length).toNat (ms.flatMap mapBytes) = true :=
    loadLengthRight_flatMap (by decide) mapBytes_length hcount
  have hi : indicesIn 0 21 first (byte ms.length) = true := indicesIn_iff.mpr (by omega)
  have hfirst : firstFault first.toNat mapFault (ms.map fun m => (m.channel.code, m.suppress.toNat)) = none := by
    refine firstFault_eq_none fun i e he => ?_
    rw [List.getElem?_map, Option.map_eq_some_iff] at he
    obtain ⟨m, hm, rfl⟩ := he
    refine mapFault_code (hstop m (List.mem_of_getElem? hm)) fun hkind => ?_
    obtain ⟨hzero, rfl⟩ := Nat.add_eq_zero_iff.mp hkind
    have hhead := hestop (BitVec.toNat_inj.mp hzero)
    rw [List.head?_eq_getElem?, hm] at hhead
    exact Option.some.inj hhead
  have hwritten : (ms.map fun m => (m.channel.code, m.suppress.toNat)).map mapEntryWritten = ms := by
    rw [List.map_map]
    exact (List.map_congr_left fun m _ => mapEntryWritten_code m).trans (List.map_id ms)
  refine next_request (loadAlarmMap_blind _ _ _) hs (by decide) ((loadAlarmMap_eq _ _ _ _ hentries).trans
    ((loadTable_written hl hi rfl hfirst rfl).trans ?_))
  exact congrArg (fun l => (s.updAlc fun a => { a with map := writeAt first.toNat l a.map }, ResultCode.ok,
    [byte ms.length, (0 : Byte), 0])) hwritten

theorem exec_loadAlarmMap_fault {before after : List (Byte × Byte)} {m : Byte × Byte}
    (h22 : first.toNat + (before ++ m :: after).length ≤ 22)
    (hgood : ∀ (i : Nat) (x : Byte × Byte), before[i]? = some x →
      ¬ mapFault (first.toNat + i) (x.1.toNat, x.2.toNat) = true)
    (hbad : mapFault (first.toNat + before.length) (m.1.toNat, m.2.toNat) = true) :
    exec (.tableLoadAlarmMap tag first (byte (before ++ m :: after).length)
        ((before ++ m :: after).flatMap fun x => [x.1, x.2])) s =
      .next (answered 0x11 tag .badValue ([0] ++ be16 (first.toNat + before.length)) s) := by
  have hcount : (byte (before ++ m :: after).length).toNat = (before ++ m :: after).length := byte_toNat (by omega)
  have hentries := decode_chunks (dec := mapEntryOf) (g := fun x => (x.1.toNat, x.2.toNat)) mapRow_length
    (fun _ _ => rfl) hcount
  rw [List.map_append, List.map_cons] at hentries
  have hpos : 1 ≤ (before ++ m :: after).length := by
    rw [List.length_append, List.length_cons]
    omega
  have hl : loadLengthRight .alarmMap (byte (before ++ m :: after).length).toNat
      ((before ++ m :: after).flatMap fun x => [x.1, x.2]) = true :=
    loadLengthRight_flatMap (by decide) mapRow_length hcount
  have hi : indicesIn 0 21 first (byte (before ++ m :: after).length) = true := indicesIn_iff.mpr (by omega)
  have hfirst := firstFault_append (first := first.toNat) (bad := mapFault)
    (before := before.map fun x => (x.1.toNat, x.2.toNat)) (after := after.map fun x => (x.1.toNat, x.2.toNat))
    (e := (m.1.toNat, m.2.toNat)) (fun i w hw => ?_) (by rwa [List.length_map])
  · rw [List.length_map] at hfirst
    exact next_request (loadAlarmMap_blind _ _ _) hs (by decide) ((loadAlarmMap_eq _ _ _ _ hentries).trans
      (loadTable_fault hl hi rfl hfirst))
  · rw [List.getElem?_map, Option.map_eq_some_iff] at hw
    obtain ⟨x, hx, rfl⟩ := hw
    exact Bool.eq_false_iff.mpr (hgood i x hx)

end

end Sys2Proof.Machine

open Sys2Proof Sys2Proof.Machine

/-- Settles O22: table by table, what is written and what is refused. -/
theorem profileFilterAndMapLoads : Obligations.ProfileFilterAndMapLoads := by
  unfold Obligations.ProfileFilterAndMapLoads
  intro tag first s hs atFault right fits bytes wrong
  refine ⟨fun ps h1 _ h32 hps => exec_loadProfile_written hs h1 h32 hps, ?_,
    fun fs h1 h4 hfs => exec_loadFilterSet_written hs h1 h4 hfs,
    fun ms h1 h22 hstop hestop => exec_loadAlarmMap_written hs h1 h22 hstop hestop, ?_⟩
  · intro ps row tail count body hbody hrow h32 hps hbad
    refine exec_loadProfile_fault hs hbody hrow h32 hps ?_
    rcases hbad with ⟨p, rfl, hfits, hwrong⟩ | ⟨b, hb, hbig⟩
    · rw [profileOf_bytes hfits, ← Bool.not_eq_false, profileFault_some]
      exact hwrong
    · rw [profileOf_none hb hbig]
      rfl
  · intro before after m rows h22 hgood hbad
    exact exec_loadAlarmMap_fault hs h22 (fun i x hx h => hgood i x hx (mapFault_pair.mp h)) (mapFault_pair.mpr hbad)

end

section
/-! PROOF. STATION MAP loads (R18, R24, R25, R26, R166). -/

namespace Sys2Proof.Machine

/-! ### Station map entries (R24) -/

/-- The bytes of a station map entry. -/
def stationBytes (e : StationMapEntry) : List Byte := [byte e.drop, byte e.spare]

theorem stationBytes_length (e : StationMapEntry) : (stationBytes e).length = 2 := rfl

theorem stationMapEntryOf_bytes {e : StationMapEntry} (h : e.drop < 256 ∧ e.spare < 256) :
    stationMapEntryOf (stationBytes e) = e := by
  rw [stationBytes, stationMapEntryOf, byte_toNat h.1, byte_toNat h.2]

/-- R24: an entry in range is one that passes check 5. -/
theorem stationInRange_iff {k : MachineConstants} {station : Nat} {e : StationMapEntry} :
    (!stationInRange k station e) = false ↔
      (e.drop = 0 ∨ (k.sensePos < e.drop ∧ e.drop < k.chainLength)) ∧ e.spare ≤ 96 ∧ e.spare ≠ station :=
  (Iff.of_eq (Bool.not_eq_false' _)).trans decide_eq_true_iff

/-- R24: `e` is fitted and two places of the map have its drop position. -/
def Shared (map : List StationMapEntry) (e : StationMapEntry) : Prop :=
  e.drop ≠ 0 ∧ ∃ m n : Nat, m < n ∧ (map[m]?).map StationMapEntry.drop = some e.drop
    ∧ (map[n]?).map StationMapEntry.drop = some e.drop

/-- A value stands twice in a list when two of its places hold it. -/
theorem two_le_count_iff {l : List Nat} {d : Nat} :
    2 ≤ l.count d ↔ ∃ m n : Nat, m < n ∧ l[m]? = some d ∧ l[n]? = some d := by
  rw [← List.duplicate_iff_two_le_count, List.duplicate_iff_exists_distinct_get]
  constructor
  · rintro ⟨m, n, hlt, hm, hn⟩
    exact ⟨m, n, hlt, by simp [hm], by simp [hn]⟩
  · rintro ⟨m, n, hlt, hm, hn⟩
    obtain ⟨hml, hm⟩ := List.getElem?_eq_some_iff.mp hm
    obtain ⟨hnl, hn⟩ := List.getElem?_eq_some_iff.mp hn
    exact ⟨⟨m, hml⟩, ⟨n, hnl⟩, hlt, hm.symm, hn.symm⟩

theorem dropShared_iff {map : List StationMapEntry} {e : StationMapEntry} :
    dropShared map e = true ↔ Shared map e := by
  have hcount : map.countP (fun f => f.drop == e.drop) = (map.map StationMapEntry.drop).count e.drop := by
    rw [List.count, List.countP_map]
    rfl
  rw [dropShared, Bool.and_eq_true, bne_iff_ne, decide_eq_true_iff, hcount, Nat.lt_iff_add_one_le, two_le_count_iff]
  simp only [List.getElem?_map]
  rfl

/-! ### Substitutions after a load (R26) -/

/-- R24: a station is fitted when its entry has a drop position. -/
theorem fitted_iff {t : Tables} {n : Nat} :
    fitted t n = true ↔ 1 ≤ n ∧ ∃ e, t.stations[n - 1]? = some e ∧ e.drop ≠ 0 := by
  rw [fitted, bne_iff_ne, dropPosition, stationMapAt]
  by_cases h0 : n = 0
  · simp [h0]
  · rw [if_neg h0, List.getD_eq_getElem?_getD]
    have h1 : 1 ≤ n := Nat.one_le_iff_ne_zero.mpr h0
    cases h : t.stations[n - 1]? with
    | none => simp
    | some e => simp [h1]

end Sys2Proof.Machine

open Sys2Proof Sys2Proof.Machine

/-- Settles O23: the checks in order on the entries, then the substitutions whose two stations stay fitted. -/
theorem stationMapLoads : Obligations.StationMapLoads := by
  unfold Obligations.StationMapLoads
  intro tag first es s hs h1 hfirst h97 hfits load map fittedIn right shared atFault
  have hcount : (byte es.length).toNat = es.length := byte_toNat (by omega)
  have hentries : (chunks 2 (byte es.length).toNat (es.flatMap stationBytes)).map stationMapEntryOf = es :=
    (decode_chunks (g := id) stationBytes_length (fun e he => stationMapEntryOf_bytes (hfits e he)) hcount).trans
      (List.map_id es)
  have hact := loadStationMap_eq first (byte es.length) (es.flatMap stationBytes) s (map := map) hentries rfl
  have hl : loadLengthRight .stationMap (byte es.length).toNat (es.flatMap stationBytes) = true :=
    loadLengthRight_flatMap (by decide) stationBytes_length hcount
  have hi : indicesIn 1 96 first (byte es.length) = true := indicesIn_iff.mpr (by omega)
  have hreply := fun {t : State} {code : ResultCode} {data : List Byte} =>
    next_request (tag := tag) (kind := 0x11) (t := t) (code := code) (data := data)
      (loadStationMap_blind first (byte es.length) (es.flatMap stationBytes)) hs (by decide)
  refine ⟨fun hbusy => ?_, fun hidle hwindow => ?_⟩
  · have hlocked : ¬ (s.csq.seq = .idle ∧ s.csq.window = []) := fun h => hbusy.elim (· h.1) (· h.2)
    exact hreply (hact.trans (loadTable_refused hl hi (if_neg hlocked) (by decide)))
  · have hok : (if s.csq.seq = .idle ∧ s.csq.window = [] then ResultCode.ok else .locked) = .ok :=
      if_pos ⟨hidle, hwindow⟩
    refine ⟨fun i e he hwrong hgood => ?_, fun hright => ?_⟩
    · have hsome := firstFault_eq_some (first := first.toNat)
        (bad := fun n e => !stationInRange s.tables.constants n e) he
        (Bool.not_eq_false _ ▸ hwrong ∘ stationInRange_iff.mp) fun j w hj hw => stationInRange_iff.mpr (hgood j w hj hw)
      exact hreply (hact.trans (loadTable_fault hl hi hok hsome))
    · have hnone := firstFault_eq_none (first := first.toNat) (bad := fun n e => !stationInRange s.tables.constants n e)
        fun i e he => stationInRange_iff.mpr (hright i e he)
      refine ⟨fun i e he hshared hfree => ?_, fun hfree => ?_⟩
      · have hsome := firstFault_eq_some (first := first.toNat) (bad := fun _ e => dropShared map e) he
          (dropShared_iff.mpr hshared) fun j w hj hw => Bool.eq_false_iff.mpr (hfree j w hj hw ∘ dropShared_iff.mp)
        exact hreply (hact.trans (loadTable_cross hl hi hok hnone (congrArg (Option.map _) hsome)))
      · have hcross := firstFault_eq_none (first := first.toNat) (bad := fun _ e => dropShared map e)
          fun i e he => Bool.eq_false_iff.mpr (hfree e (List.mem_of_getElem? he) ∘ dropShared_iff.mp)
        refine ⟨_, hreply (hact.trans (loadTable_written hl hi hok hnone (congrArg (Option.map _) hcross))),
          List.filter_sublist, fun e he => ?_⟩
        rw [List.mem_filter, Bool.and_eq_true, fitted_iff, fitted_iff]
        exact and_iff_right he

end

section
/-! PROOF. The MODE request and CONSTANTS loads (R18, R28 to R31, R164, R166). -/

namespace Sys2Proof.Machine

/-! ### At rest and empty (R29) -/

theorem atRest_iff {s : State} :
    atRest s = true ↔ s.csq.seq = .idle ∧ s.hdc.head = .idle ∧ s.tbc.panel = .empty := by
  simp only [atRest, Bool.and_eq_true, beq_iff_eq, and_assoc]

theorem modeMayChange_iff {s : State} : modeMayChange s = true ↔
    (s.csq.seq = .idle ∧ s.hdc.head = .idle ∧ s.tbc.panel = .empty)
      ∧ s.pin.queue = [] ∧ s.csq.window = [] ∧ s.tpc.tape = [] := by
  simp only [modeMayChange, Bool.and_eq_true, atRest_iff, List.isEmpty_iff, and_assoc]

/-- R31: a new mode with the chain length as it is, taken up with the sequencer IDLE. -/
theorem writeConstants_newMode {k : MachineConstants} {s : State} (hmode : k.mode ≠ s.mode)
    (hchain : k.chainLength = s.tables.constants.chainLength) (hidle : s.csq.seq = .idle) :
    writeConstants k s = { s with
      tables := { s.tables with constants := k }
      tpc := { s.tpc with verified := false }
      pin := { s.pin with ask := false }
      csq := { s.csq with seq := if k.mode ≠ .insertOnly ∧ .unknown ∈ s.csq.ring then .purging else .idle } } := by
  have hcsq : (recordWritten k s).csq = s.csq := if_pos hchain
  rw [writeConstants_eq, if_neg hmode, takeUpMode_eq, hcsq, hidle]
  rfl

/-! ### MODE (R31, R164; log 26) -/

theorem Mode.ofCode_code (m : Mode) : Mode.ofCode m.code = some m := by cases m <;> rfl

theorem Mode.ofCode_none {n : Nat} (h : 2 < n) : Mode.ofCode n = none := by
  match n, h with
  | n + 3, _ => rfl

section

variable {value : Byte} {m : Mode}

theorem actMode_none (h : Mode.ofCode value.toNat = none) (s : State) : actMode value s = (s, .badValue, []) := by
  rw [actMode, h]

theorem actMode_some (h : Mode.ofCode value.toNat = some m) (s : State) : actMode value s =
    if m = s.mode then (s, .ok, [])
    else if modeMayChange s then (writeConstants { s.tables.constants with mode := m } s, .ok, [])
    else (s, .busy, []) := by
  rw [actMode, h]

end

theorem actMode_blind (value : Byte) : (actMode value).LpuBlind := by
  intro g s
  cases h : Mode.ofCode value.toNat with
  | none => rw [actMode_none h, actMode_none h]
  | some m =>
    have hmode : (s.updLpu g).mode = s.mode := rfl
    have hmay : modeMayChange (s.updLpu g) = modeMayChange s := rfl
    rw [actMode_some h, actMode_some h, hmode, hmay, writeConstants_blind, updLpu_tables]
    split
    · rfl
    · split <;> rfl

/-! ### The bytes of a CONSTANTS record (R166) -/

/-- The bytes of fourteen places. -/
def placesBytes (v : List Nat) : List Byte :=
  [1, 2, 3, 4, 5, 6].map (fun i => byte (v.getD (i - 1) 0))
    ++ [7, 8, 9, 10, 11, 12].flatMap (fun i => be16 (v.getD (i - 1) 0))
    ++ [byte (v.getD (13 - 1) 0), byte (v.getD (14 - 1) 0)]

theorem placesBytes_places (k : MachineConstants) : placesBytes k.places = constantsBytes k := rfl

/-- Every place fits its bytes. -/
def PlacesFit (v : List Nat) : Prop :=
  (∀ i ∈ [1, 2, 3, 4, 5, 6, 13, 14], v.getD (i - 1) 0 < 256) ∧ ∀ i ∈ [7, 8, 9, 10, 11, 12], v.getD (i - 1) 0 < 65536

theorem rawConstantsOf_placesBytes {v : List Nat} (hlen : v.length = 14) (h : PlacesFit v) :
    rawConstantsOf (placesBytes v) = v := by
  obtain ⟨h8, h16⟩ := h
  match v, hlen with
  | [l, sp, f, m, r, fe, a, b, c, d, e, g, rp, md], _ =>
    simp only [List.forall_mem_cons, Nat.reduceSub, List.getD_cons_succ, List.getD_cons_zero] at h8 h16
    obtain ⟨hl, hsp, hf, hm, hr, hfe, hrp, hmd, -⟩ := h8
    obtain ⟨ha, hb, hc, hd, he, hg, -⟩ := h16
    show [(byte l).toNat, (byte sp).toNat, (byte f).toNat, (byte m).toNat, (byte r).toNat, (byte fe).toNat,
      u16 (byte (a / 256)) (byte a), u16 (byte (b / 256)) (byte b), u16 (byte (c / 256)) (byte c),
      u16 (byte (d / 256)) (byte d), u16 (byte (e / 256)) (byte e), u16 (byte (g / 256)) (byte g), (byte rp).toNat,
      (byte md).toNat] = _
    rw [byte_toNat hl, byte_toNat hsp, byte_toNat hf, byte_toNat hm, byte_toNat hr, byte_toNat hfe, u16_be16 ha,
      u16_be16 hb, u16_be16 hc, u16_be16 hd, u16_be16 he, u16_be16 hg, byte_toNat hrp, byte_toNat hmd]

theorem ofPlaces_places (k : MachineConstants) : MachineConstants.ofPlaces k.places = k := by
  obtain ⟨_, _, _, _, _, _, _, _, _, _, _, _, _, mode⟩ := k
  cases mode <;> rfl

/-! ### Check 4: what the state lets change (R29) -/

/-- R29: a new mode wants the machine at rest and empty, the places but the five timeouts want it at rest. -/
def MayChange (s : State) (v : List Nat) : Prop :=
  (placeChanges s v 14 = true → modeMayChange s = true)
    ∧ ((∃ i ∈ [1, 2, 3, 4, 5, 6, 12, 13], placeChanges s v i = true) → atRest s = true)

/-- A part of check 4 refuses: what it guards changes without leave. -/
theorem and_not_eq_true_iff {a b : Bool} : (a && !b) = true ↔ ¬ (a = true → b = true) := by
  cases a <;> cases b <;> decide

theorem constantsState_mayChange {s : State} {v : List Nat} (h : MayChange s v) : constantsState s v = .ok := by
  unfold constantsState
  rw [if_neg (and_not_eq_true_iff.not_left.mpr h.1), if_neg]
  rw [and_not_eq_true_iff, List.any_eq_true, not_not]
  exact h.2

theorem constantsState_busy {s : State} {v : List Nat} (h : ¬ MayChange s v) : constantsState s v = .busy := by
  unfold constantsState
  by_cases h14 : placeChanges s v 14 = true → modeMayChange s = true
  · rw [if_neg (and_not_eq_true_iff.not_left.mpr h14), if_pos]
    rw [and_not_eq_true_iff, List.any_eq_true]
    exact fun hrest => h ⟨h14, hrest⟩
  · rw [if_pos (and_not_eq_true_iff.mpr h14)]

/-! ### Check 5: the ranges of the fourteen places (R28) -/

/-- R28: the least value of each place, and the greatest. -/
def leastPlaces : List Nat := [40, 2, 1, 1, 0, 4, 50, 50, 50, 100, 500, 5, 2, 0]

def greatestPlaces : List Nat := [128, 7, 16, 7, 7, 48, 2000, 2000, 1000, 3000, 10000, 500, 9, 2]

/-- R28: a place in its range. -/
def PlaceRight (v : List Nat) (place : Nat) : Prop :=
  leastPlaces.getD (place - 1) 0 ≤ v.getD (place - 1) 0 ∧ v.getD (place - 1) 0 ≤ greatestPlaces.getD (place - 1) 0

/-- R28: the check of one place with its range. -/
def outOfRange (x : Nat × Nat × Nat) : Bool := decide (x.1 < x.2.1 ∨ x.2.2 < x.1)

theorem constantRanges_getElem? :
    ∀ i < 14, constantRanges[i]? = some (leastPlaces.getD i 0, greatestPlaces.getD i 0) := by decide

/-- The place `i + 1` and its range stand at `i` among those checked. -/
theorem zip_ranges {v : List Nat} (hlen : v.length = 14) {i : Nat} {x : Nat × Nat × Nat}
    (hx : (v.zip constantRanges)[i]? = some x) : i < 14 ∧ (outOfRange x = false ↔ PlaceRight v (i + 1)) := by
  obtain ⟨hv, hr⟩ := List.getElem?_zip_eq_some.mp hx
  obtain ⟨hi, hv⟩ := List.getElem?_eq_some_iff.mp hv
  have hi14 : i < 14 := hlen ▸ hi
  rw [constantRanges_getElem? i hi14] at hr
  refine ⟨hi14, ?_⟩
  rw [outOfRange, decide_eq_false_iff_not, not_or, Nat.not_lt, Nat.not_lt, PlaceRight, Nat.add_sub_cancel,
    List.getD_eq_getElem v 0 hi, hv, ← Option.some.inj hr]

theorem zip_ranges_getElem? {v : List Nat} (hlen : v.length = 14) {i : Nat} (hi : i < 14) :
    ∃ x, (v.zip constantRanges)[i]? = some x :=
  ⟨(v[i], _), List.getElem?_zip_eq_some.mpr ⟨List.getElem?_eq_getElem (hlen ▸ hi), constantRanges_getElem? i hi⟩⟩

theorem constantsFault_none {v : List Nat} (hlen : v.length = 14) (h : ∀ i, 1 ≤ i → i ≤ 14 → PlaceRight v i) :
    constantsFault v = none := by
  refine firstFault_eq_none (bad := fun _ => outOfRange) fun i x hx => ?_
  obtain ⟨hi, hright⟩ := zip_ranges hlen hx
  exact hright.mpr (h (i + 1) (Nat.succ_pos i) hi)

theorem constantsFault_some {v : List Nat} (hlen : v.length = 14) {i : Nat} (h1 : 1 ≤ i) (h14 : i ≤ 14)
    (hwrong : ¬ PlaceRight v i) (hright : ∀ j, 1 ≤ j → j < i → PlaceRight v j) : constantsFault v = some i := by
  obtain ⟨i, rfl⟩ := Nat.exists_eq_add_of_le h1
  rw [Nat.add_comm] at hwrong
  obtain ⟨x, hx⟩ := zip_ranges_getElem? hlen (i := i) (by omega)
  refine firstFault_eq_some (bad := fun _ => outOfRange) hx ?_ fun j w hj hw => ?_
  · exact Bool.not_eq_false _ ▸ hwrong ∘ (zip_ranges hlen hx).2.mp
  · exact (zip_ranges hlen hw).2.mpr (hright (j + 1) (Nat.succ_pos j) (by omega))

theorem places_right {k : MachineConstants} (h : ConstantsInRange k) (i : Nat) (h1 : 1 ≤ i) (h14 : i ≤ 14) :
    PlaceRight k.places i := by
  obtain ⟨l1, l2, s1, s2, f1, f2, m1, m2, r2, e1, e2, t1, t2, p1, p2, d1, d2, a1, a2, v1, v2, g1, g2, q1, q2⟩ := h
  have hmode : k.mode.code ≤ 2 := by cases k.mode <;> decide
  interval_cases i
  exacts [⟨l1, l2⟩, ⟨s1, s2⟩, ⟨f1, f2⟩, ⟨m1, m2⟩, ⟨Nat.zero_le _, r2⟩, ⟨e1, e2⟩, ⟨t1, t2⟩, ⟨p1, p2⟩, ⟨d1, d2⟩, ⟨a1, a2⟩,
    ⟨v1, v2⟩, ⟨g1, g2⟩, ⟨q1, q2⟩, ⟨Nat.zero_le _, hmode⟩]

theorem places_fit {k : MachineConstants} (h : ConstantsInRange k) : PlacesFit k.places := by
  have hbytes : ∀ i ∈ [1, 2, 3, 4, 5, 6, 13, 14], 1 ≤ i ∧ i ≤ 14 ∧ greatestPlaces.getD (i - 1) 0 < 256 := by decide
  have hwords : ∀ i ∈ [7, 8, 9, 10, 11, 12], 1 ≤ i ∧ i ≤ 14 ∧ greatestPlaces.getD (i - 1) 0 < 65536 := by decide
  constructor
  · intro i hi
    obtain ⟨h1, h14, hfits⟩ := hbytes i hi
    exact Nat.lt_of_le_of_lt (places_right h i h1 h14).2 hfits
  · intro i hi
    obtain ⟨h1, h14, hfits⟩ := hwords i hi
    exact Nat.lt_of_le_of_lt (places_right h i h1 h14).2 hfits

/-! ### Check 6: the station map and the Tape List (R28; log 25) -/

/-- R28: a station map entry that a record lets stand. -/
def Stands (v : List Nat) (e : StationMapEntry) : Prop :=
  e.drop = 0 ∨ (v.getD 1 0 < e.drop ∧ e.drop < v.getD 0 0)

/-- R28: the entry the check looks for. -/
def outside (v : List Nat) (e : StationMapEntry) : Bool :=
  e.drop != 0 && decide (e.drop ≤ v.getD 1 0 ∨ v.getD 0 0 ≤ e.drop)

theorem outside_iff {v : List Nat} {e : StationMapEntry} : outside v e = true ↔ ¬ Stands v e := by
  rw [outside, Stands, Bool.and_eq_true, bne_iff_ne, decide_eq_true_iff]
  omega

theorem constantsCross_station {s : State} {v : List Nat} {before after : List StationMapEntry} {e : StationMapEntry}
    (hmap : s.tables.stations = before ++ e :: after) (hbefore : ∀ x ∈ before, Stands v x) (he : ¬ Stands v e) :
    constantsCross s v = some (.badValue, if v.getD 0 0 ≤ e.drop then 1 else 2) := by
  have hfind : s.tables.stations.find? (outside v) = some e := by
    refine List.find?_eq_some_iff_append.mpr ⟨outside_iff.mpr he, before, after, hmap, fun x hx => ?_⟩
    exact Bool.not_eq_true' _ ▸ Bool.eq_false_iff.mpr fun h => outside_iff.mp h (hbefore x hx)
  unfold outside at hfind
  simp only [constantsCross, hfind]

theorem constantsCross_stand {s : State} {v : List Nat} (h : ∀ e ∈ s.tables.stations, Stands v e) :
    constantsCross s v = if v.getD 5 0 < s.tpc.tape.length then some (.badValue, 6) else none := by
  have hfind : s.tables.stations.find? (outside v) = none :=
    List.find?_eq_none.mpr fun e he hout => outside_iff.mp hout (h e he)
  unfold outside at hfind
  simp only [constantsCross, hfind]

/-! ### The write (R30, R31) -/

/-- R30: a record of the same mode, with the chain length as it is. -/
theorem writeConstants_same {k : MachineConstants} {s : State} (hmode : k.mode = s.mode)
    (hchain : k.chainLength = s.tables.constants.chainLength) :
    writeConstants k s = { s with tables := { s.tables with constants := k } } := by
  rw [writeConstants_eq, if_pos hmode, recordWritten, if_pos hchain]

/-- R30: a record of the same mode with a new chain length. -/
theorem writeConstants_newChain {k : MachineConstants} {s : State} (hmode : k.mode = s.mode)
    (hchain : k.chainLength ≠ s.tables.constants.chainLength) :
    writeConstants k s = { s with tables := { s.tables with constants := k }, csq := Csq.rebuilt k s.csq } := by
  rw [writeConstants_eq, if_pos hmode, recordWritten, if_neg hchain]

/-- R31: a new chain holds UNKNOWN clips, so it is the one a new mode with sequencing purges. -/
theorem rebuilt_seq_eq {k : MachineConstants} (hpos : 0 < k.chainLength) (q : Csq) :
    (if k.mode ≠ .insertOnly ∧ .unknown ∈ (Csq.rebuilt k q).ring then .purging else (Csq.rebuilt k q).seq)
      = (Csq.rebuilt k q).seq := by
  have hunknown : .unknown ∈ (Csq.rebuilt k q).ring := List.mem_replicate.mpr ⟨Nat.ne_of_gt hpos, rfl⟩
  by_cases hm : k.mode = .insertOnly
  · rw [if_neg fun h => h.1 hm]
  · rw [if_pos ⟨hm, hunknown⟩]
    exact (if_neg hm).symm

/-- R30, R31: a record of a new mode with a new chain length. -/
theorem writeConstants_newModeChain {k : MachineConstants} {s : State} (hmode : k.mode ≠ s.mode)
    (hchain : k.chainLength ≠ s.tables.constants.chainLength) (hpos : 0 < k.chainLength) :
    writeConstants k s = { s with
      tables := { s.tables with constants := k }
      tpc := { s.tpc with verified := false }
      pin := { s.pin with ask := false }
      csq := Csq.rebuilt k s.csq } := by
  have hcsq : (recordWritten k s).csq = Csq.rebuilt k s.csq := if_neg hchain
  have hrecord : (recordWritten k s).mode = k.mode := rfl
  rw [writeConstants_eq, if_neg hmode, takeUpMode_eq, hcsq, hrecord, rebuilt_seq_eq hpos]
  rfl

/-! ### The load -/

section

variable {tag : Byte} {s : State} (hs : Takes s)

section

variable {v : List Nat} (hlen : v.length = 14) (hfit : PlacesFit v)
include hs hlen hfit

/-- A load of fourteen places, from its checks. -/
theorem exec_loadConstants {t : State} {code : ResultCode} {data : List Byte}
    (h : loadTable .constants 1 (placesBytes v) ⟨true, constantsState s v, constantsFault v, constantsCross s v⟩
      (writeConstants (MachineConstants.ofPlaces v)) s = (t, code, data)) :
    exec (.tableLoadConstants tag 0 1 (placesBytes v)) s = .next (answered 0x11 tag code data t) :=
  next_request (loadConstants_blind 0 1 (placesBytes v)) hs (by decide)
    ((loadConstants_eq 0 1 _ s (rawConstantsOf_placesBytes hlen hfit)).trans h)

theorem exec_loadConstants_busy (h : ¬ MayChange s v) : exec (.tableLoadConstants tag 0 1 (placesBytes v)) s =
    .next (answered 0x11 tag .busy [0, 0, 0] s) :=
  exec_loadConstants hs hlen hfit (loadTable_refused rfl rfl (constantsState_busy h) (by decide))

theorem exec_loadConstants_fault {i : Nat} (h : MayChange s v) (hf : constantsFault v = some i) :
    exec (.tableLoadConstants tag 0 1 (placesBytes v)) s =
      .next (answered 0x11 tag .badValue ([0] ++ be16 i) s) :=
  exec_loadConstants hs hlen hfit (loadTable_fault rfl rfl (constantsState_mayChange h) hf)

theorem exec_loadConstants_cross {i : Nat} (h : MayChange s v) (hf : constantsFault v = none)
    (hx : constantsCross s v = some (.badValue, i)) : exec (.tableLoadConstants tag 0 1 (placesBytes v)) s =
      .next (answered 0x11 tag .badValue ([0] ++ be16 i) s) :=
  exec_loadConstants hs hlen hfit (loadTable_cross rfl rfl (constantsState_mayChange h) hf hx)

end

/-- A record in range that fits the station map and the Tape List. -/
theorem exec_loadConstants_written {k : MachineConstants} {t : State} (hs : Takes s) (hk : ConstantsInRange k)
    (hmap : ∀ e ∈ s.tables.stations, Stands k.places e) (htape : s.tpc.tape.length ≤ k.festoon)
    (h : MayChange s k.places) (ht : writeConstants k s = t) :
    exec (.tableLoadConstants tag 0 1 (constantsBytes k)) s = .next (answered 0x11 tag .ok [1, 0, 0] t) := by
  have hx : constantsCross s k.places = none := (constantsCross_stand hmap).trans (if_neg (Nat.not_lt.mpr htape))
  have hload := loadTable_written (t := .constants) (count := 1) (body := placesBytes k.places)
    (k := ⟨true, constantsState s k.places, constantsFault k.places, constantsCross s k.places⟩)
    (write := writeConstants (MachineConstants.ofPlaces k.places)) (s := s) rfl rfl (constantsState_mayChange h)
    (constantsFault_none rfl (places_right hk)) hx
  rw [ofPlaces_places, ht] at hload
  rw [← placesBytes_places]
  exact exec_loadConstants hs rfl (places_fit hk) (by rw [ofPlaces_places]; exact hload)

end

end Sys2Proof.Machine

open Sys2Proof Sys2Proof.Machine

/-- Settles O26: the value, the present mode, and a new one at rest and empty or not. -/
theorem modeRequest : Obligations.ModeRequest := by
  unfold Obligations.ModeRequest
  intro tag value m s hs
  have hreply := fun {t : State} {code : ResultCode} {data : List Byte} =>
    next_request (tag := tag) (kind := 0x33) (t := t) (code := code) (data := data) (actMode_blind value) hs (by decide)
  have hcode : value.toNat = m.code → Mode.ofCode value.toNat = some m := fun h => h ▸ Mode.ofCode_code m
  refine ⟨fun hbig => ?_, fun hm hsame => ?_, ?_⟩
  · exact hreply (actMode_none (Mode.ofCode_none hbig) s)
  · exact hreply ((actMode_some (hcode hm) s).trans (if_pos hsame))
  · intro hm hnew free
    have hact := (actMode_some (hcode hm) s).trans (if_neg hnew)
    have hmay : modeMayChange s = true ↔ free := by
      rw [modeMayChange_iff, and_assoc, and_assoc]
    refine ⟨fun hbusy => hreply (hact.trans (if_neg (hbusy ∘ hmay.mp))), fun hfree => ?_⟩
    refine hreply (hact.trans ((if_pos (hmay.mpr hfree)).trans ?_))
    exact congrArg (·, ResultCode.ok, ([] : List Byte))
      (writeConstants_newMode (k := { s.tables.constants with mode := m }) hnew rfl hfree.1)

/-- Settles O25: the checks in order on the fourteen places, then the three kinds of write. -/
theorem constantsLoads : Obligations.ConstantsLoads := by
  unfold Obligations.ConstantsLoads
  intro tag s hs c rest empty
  refine ⟨?_, ?_⟩
  · intro v at' body changes mayChange lo hi right stands refused hlen h8 h16
    have hfit : PlacesFit v := ⟨h8, h16⟩
    have hmay : MayChange s v ↔ mayChange := by
      unfold MayChange
      simp only [modeMayChange_iff, atRest_iff, placeChanges, bne_iff_ne]
      rfl
    refine ⟨fun h => exec_loadConstants_busy hs hlen hfit (h ∘ hmay.mp), fun h i h1 h14 hwrong hright => ?_,
      fun h hright => ⟨fun before e after hmap hbefore he => ?_, fun hmap htape => ?_⟩⟩
    · exact exec_loadConstants_fault hs hlen hfit (hmay.mpr h) (constantsFault_some hlen h1 h14 hwrong hright)
    · exact exec_loadConstants_cross hs hlen hfit (hmay.mpr h) (constantsFault_none hlen hright)
        (constantsCross_station hmap hbefore he)
    · exact exec_loadConstants_cross hs hlen hfit (hmay.mpr h) (constantsFault_none hlen hright)
        ((constantsCross_stand hmap).trans (if_pos htape))
  · intro k hk hmap htape load written newChain sameChain
    have hwritten := fun {t : State} => exec_loadConstants_written (tag := tag) (t := t) hs hk hmap htape
    have hpos : 0 < k.chainLength := Nat.lt_of_lt_of_le (by decide) hk.1
    have hatRest : rest → atRest s = true := atRest_iff.mpr
    have hsameMode : k.mode = c.mode → ¬ placeChanges s k.places 14 = true := fun h hne =>
      bne_iff_ne.mp hne (congrArg Mode.code h)
    refine ⟨fun htimes => ?_, fun hmode hrest => ⟨fun hchain => ?_, fun hchain => ?_⟩, fun hmode hrest hempty => ?_⟩
    · have hfield := fun {β : Type} (f : MachineConstants → β) => congrArg f htimes
      have hsame : ∀ i ∈ [1, 2, 3, 4, 5, 6, 12, 13], k.places.getD (i - 1) 0 = c.places.getD (i - 1) 0 := by
        simp only [List.forall_mem_cons]
        exact ⟨hfield MachineConstants.chainLength, hfield MachineConstants.sensePos, hfield MachineConstants.fireLimit,
          hfield MachineConstants.missLimit, hfield MachineConstants.retryLimit, hfield MachineConstants.festoon,
          hfield MachineConstants.followLimit, hfield MachineConstants.repeatLimit, by simp⟩
      have hmode : k.mode = c.mode := hfield MachineConstants.mode
      have hmay : MayChange s k.places := ⟨fun h => absurd h (hsameMode hmode),
        fun ⟨i, hi, hne⟩ => absurd (hsame i hi) (bne_iff_ne.mp hne)⟩
      exact hwritten hmay (writeConstants_same hmode (hfield MachineConstants.chainLength))
    · exact hwritten ⟨fun h => absurd h (hsameMode hmode), fun _ => hatRest hrest⟩
        (writeConstants_same hmode hchain)
    · exact hwritten ⟨fun h => absurd h (hsameMode hmode), fun _ => hatRest hrest⟩
        (writeConstants_newChain hmode hchain)
    · refine hwritten ⟨fun _ => modeMayChange_iff.mpr ⟨hrest, hempty⟩, fun _ => hatRest hrest⟩ ?_
      by_cases hchain : k.chainLength = c.chainLength
      · rw [if_pos hchain]
        exact writeConstants_newMode hmode hchain hrest.1
      · rw [if_neg hchain]
        exact writeConstants_newModeChain hmode hchain hpos

end

section
/-! PROOF. TABLE READs: the head, the extra fields and the entries asked for (R19, R62, R121, R125, R166). -/

namespace Sys2Proof.Machine

section

variable {t : TableName} {first : Word16} {count : Byte} {right : Bool} {extra entries : List Byte} {s : State}

theorem readHead_length : (readHead t first count).length = 4 := rfl

theorem readTable_wrongIndex (hi : right = false) : readTable t first count right extra entries s =
    (s, .badIndex, readHead t first count ++ extra.map fun _ => 0) := by
  simp only [readTable, hi, Bool.not_false, if_true]

theorem readTable_fits (hi : right = true) (h : 4 + extra.length + entries.length ≤ 238) :
    readTable t first count right extra entries s = (s, .ok, readHead t first count ++ extra ++ entries) := by
  have hfits : ¬ Config.answerDataBytes < (readHead t first count ++ extra ++ entries).length := by
    rw [List.length_append, List.length_append, readHead_length]
    exact Nat.not_lt.mpr h
  simp only [readTable, hi, Bool.not_true, Bool.false_eq_true, if_false, if_neg hfits]

theorem readTable_long (hi : right = true) (h : 238 < 4 + extra.length + entries.length) :
    readTable t first count right extra entries s = (s, .badLength, []) := by
  have hlong : Config.answerDataBytes < (readHead t first count ++ extra ++ entries).length := by
    rw [List.length_append, List.length_append, readHead_length]
    exact h
  simp only [readTable, hi, Bool.not_true, Bool.false_eq_true, if_false, if_pos hlong]

end

/-- A read whose index check and answer data do not read LPU. -/
theorem Act.LpuBlind.of_read {act : Act} {t : TableName} {first : Word16} {count : Byte} {right : State → Bool}
    {extra entries : State → List Byte}
    (heq : ∀ s, act s = readTable t first count (right s) (extra s) (entries s) s)
    (hright : ∀ g s, right (s.updLpu g) = right s) (hextra : ∀ g s, extra (s.updLpu g) = extra s)
    (hentries : ∀ g s, entries (s.updLpu g) = entries s) : act.LpuBlind := by
  intro g s
  rw [heq, heq, hright, hextra, hentries]
  dsimp only [readTable]
  split
  · rfl
  · split <;> rfl

/-- The three answers of a read. -/
theorem next_read {tag : Byte} {act : Act} {t : TableName} {first : Word16} {count : Byte} {right : State → Bool}
    {extra entries : State → List Byte} {s : State} (hs : Takes s) (code : Byte) {indexRight : Prop}
    (heq : ∀ s, act s = readTable t first count (right s) (extra s) (entries s) s)
    (hi : right s = true ↔ indexRight) (hcode : byte t.code = code := by rfl)
    (hright : ∀ g s, right (s.updLpu g) = right s := by intros; rfl)
    (hextra : ∀ g s, extra (s.updLpu g) = extra s := by intros; rfl)
    (hentries : ∀ g s, entries (s.updLpu g) = entries s := by intros; rfl) :
    let reply := fun c data => (.next (request 0x12 tag act s) : Result) = .next (answered 0x12 tag c data s)
    (indexRight → 4 + (extra s).length + (entries s).length ≤ 238 →
      reply .ok ([code] ++ be16 first.toNat ++ [count] ++ extra s ++ entries s))
    ∧ (indexRight → 238 < 4 + (extra s).length + (entries s).length → reply .badLength [])
    ∧ (¬ indexRight → reply .badIndex ([code] ++ be16 first.toNat ++ [count] ++ (extra s).map fun _ => 0)) := by
  subst hcode
  have hb : act.LpuBlind := .of_read heq hright hextra hentries
  exact ⟨fun h hfits => next_request hb hs (by decide) ((heq s).trans (readTable_fits (hi.mpr h) hfits)),
    fun h hlong => next_request hb hs (by decide) ((heq s).trans (readTable_long (hi.mpr h) hlong)),
    fun h => next_request hb hs (by decide)
      ((heq s).trans (readTable_wrongIndex (Bool.eq_false_iff.mpr (h ∘ hi.mp))))⟩

/-- R125: the index of IMAGES, before and after a panel is loaded. -/
theorem imagesIndexRight_iff {l : List ImageRecord} {first : Word16} {count : Byte} :
    imagesIndexRight l.length first count = true ↔
      if l = [] then 1 ≤ first.toNat ∧ first.toNat ≤ 16 ∧ 1 ≤ count.toNat
      else 1 ≤ count.toNat ∧ 1 ≤ first.toNat ∧ first.toNat + count.toNat ≤ l.length + 1 := by
  unfold imagesIndexRight
  by_cases h : l = []
  · rw [if_pos h, if_pos (List.length_eq_zero_iff.mpr h)]
    exact decide_eq_true_iff
  · rw [if_neg h, if_neg (h ∘ List.length_eq_zero_iff.mp)]
    exact indicesIn_iff

end Sys2Proof.Machine

open Sys2Proof Sys2Proof.Machine

/-- Settles O27: each read is its index check, its extra fields and its entries. -/
theorem tableReads : Obligations.TableReads := by
  unfold Obligations.TableReads
  intro tag first count s hs f n reply within whole
  refine ⟨?_, ?_, ?_, ?_, ?_, ?_, ?_, ?_, ?_, ?_, ?_, ?_, ?_⟩
  · exact next_read (act := readComponent first count) hs 1 (fun _ => rfl) indicesIn_iff
  · exact next_read (act := readSpan first count) hs 2 (fun _ => rfl) indicesIn_iff
  · exact next_read (act := readStationMap first count) hs 3 (fun _ => rfl) indicesIn_iff
  · exact next_read (act := readProfile first count) hs 4 (fun _ => rfl) indicesIn_iff
  · exact next_read (act := readFilterSet first count) hs 5 (fun _ => rfl) indicesIn_iff
  · exact next_read (act := readPanelPattern first count) hs 6 (fun _ => rfl) wholeRecord_iff
  · exact next_read (act := readAlarmMap first count) hs 7 (fun _ => rfl) indicesIn_iff
  · exact next_read (act := readConstants first count) hs 8 (fun _ => rfl) wholeRecord_iff
  · exact next_read (act := readStationRecords first count) hs 9 (fun _ => rfl) indicesIn_iff
  · exact next_read (act := readSubstitution first count) hs 10 (fun _ => rfl) decide_eq_true_iff
  · exact next_read (act := readWear first count) hs 11 (fun _ => rfl) indicesIn_iff
  · exact next_read (act := readLastSignature first count) hs 12 (fun _ => rfl) wholeRecord_iff
  · exact next_read (act := readImages first count) hs 13 (fun _ => rfl) imagesIndexRight_iff

end

section
/-! PROOF. A frame received runs the request its kind and payload spell (R18, R159, R162, R164, R166). -/

namespace Sys2Proof.Machine

/-! ### The act of a kind and the row it spells (R164) -/

/-- A row runs the act of its kind; where there is none, the act refuses the payload's length. -/
def RowRuns (kind tag : Byte) (row : Option Instr) (act : Act) : Prop :=
  (∀ c, row = some c → ∀ u, exec c u = .next (request kind tag act u))
    ∧ (row = none → ∀ u, act u = (u, .badLength, []))

section

variable {kind tag : Byte}

theorem rowRuns_some {c : Instr} {act : Act} (h : ∀ u, exec c u = .next (request kind tag act u)) :
    RowRuns kind tag (some c) act :=
  ⟨fun _ hc => Option.some.inj hc ▸ h, fun hn => absurd hn (Option.some_ne_none c)⟩

theorem rowRuns_none {act : Act} (h : ∀ u, act u = (u, .badLength, [])) : RowRuns kind tag none act :=
  ⟨fun c hc => absurd hc.symm (Option.some_ne_none c), fun _ => h⟩

theorem rowRuns_bare {c : Instr} {act : Act} (h : ∀ u, exec c u = .next (request kind tag act u)) :
    ∀ payload, RowRuns kind tag (bareRow c payload) (noPayload act payload)
  | [] => rowRuns_some h
  | _ :: _ => rowRuns_none fun _ => rfl

end

/-- Two bytes of a payload as the word they carry. -/
theorem append_eq_u16 (h l : Byte) : (h ++ l : Word16) = BitVec.ofNat 16 (u16 h l) := by
  apply BitVec.eq_of_toNat_eq
  have hh := h.isLt
  have hl := l.isLt
  rw [BitVec.toNat_append, ← Nat.shiftLeft_add_eq_or_of_lt hl, Nat.shiftLeft_eq, BitVec.toNat_ofNat, u16]
  omega

section

variable (tag : Byte)

theorem rowRuns_stationFlags :
    ∀ payload, RowRuns 0x13 tag (tripleRow (.stationFlags tag) payload) (actOf 0x13 payload)
  | [] => rowRuns_none fun _ => rfl
  | [_] => rowRuns_none fun _ => rfl
  | [_, _] => rowRuns_none fun _ => rfl
  | [_, _, _] => rowRuns_some fun _ => rfl
  | _ :: _ :: _ :: _ :: _ => rowRuns_none fun _ => rfl

theorem rowRuns_mode : ∀ payload, RowRuns 0x33 tag (byteRow (.mode tag) payload) (actOf 0x33 payload)
  | [] => rowRuns_none fun _ => rfl
  | [_] => rowRuns_some fun _ => rfl
  | _ :: _ :: _ => rowRuns_none fun _ => rfl

theorem rowRuns_alarmRead : ∀ payload, RowRuns 0x40 tag (byteRow (.alarmRead tag) payload) (actOf 0x40 payload)
  | [] => rowRuns_none fun _ => rfl
  | [_] => rowRuns_some fun _ => rfl
  | _ :: _ :: _ => rowRuns_none fun _ => rfl

theorem rowRuns_alarmClear : ∀ payload,
    RowRuns 0x41 tag (tripleRow (fun c h l => .alarmClear tag c (h ++ l)) payload) (actOf 0x41 payload)
  | [] => rowRuns_none fun _ => rfl
  | [_] => rowRuns_none fun _ => rfl
  | [_, _] => rowRuns_none fun _ => rfl
  | [_, h, l] => by
    rw [tripleRow, append_eq_u16 h l]
    exact rowRuns_some fun _ => rfl
  | _ :: _ :: _ :: _ :: _ => rowRuns_none fun _ => rfl

/-- R164: every kind but the two of tables. -/
theorem rowRuns_of_mem {kind : Byte} (hk : kind ∈ requestKinds) (h11 : kind ≠ 0x11) (h12 : kind ≠ 0x12)
    (payload : List Byte) : RowRuns kind tag (requestRow kind tag payload) (actOf kind payload) := by
  simp only [requestKinds, List.mem_cons, List.not_mem_nil, or_false] at hk
  rcases hk with rfl | rfl | rfl | rfl | rfl | rfl | rfl | rfl | rfl | rfl | rfl | rfl | rfl | rfl | rfl | rfl | rfl |
    rfl | rfl | rfl
  · exact rowRuns_some (c := .place tag payload) fun _ => rfl
  · contradiction
  · contradiction
  · exact rowRuns_stationFlags tag payload
  · exact rowRuns_bare (c := .run tag) (fun _ => rfl) payload
  · exact rowRuns_bare (c := .hold tag) (fun _ => rfl) payload
  · exact rowRuns_bare (c := .stop tag) (fun _ => rfl) payload
  · exact rowRuns_bare (c := .hornOff tag) (fun _ => rfl) payload
  · exact rowRuns_bare (c := .panelLoad tag) (fun _ => rfl) payload
  · exact rowRuns_bare (c := .flush tag) (fun _ => rfl) payload
  · exact rowRuns_some (c := .sweep tag payload) fun _ => rfl
  · exact rowRuns_bare (c := .sweepResult tag) (fun _ => rfl) payload
  · exact rowRuns_bare (c := .tapeClear tag) (fun _ => rfl) payload
  · exact rowRuns_mode tag payload
  · exact rowRuns_alarmRead tag payload
  · exact rowRuns_alarmClear tag payload
  · exact rowRuns_bare (c := .status tag) (fun _ => rfl) payload
  · exact rowRuns_bare (c := .recordReadStart tag) (fun _ => rfl) payload
  · exact rowRuns_bare (c := .recordReadNext tag) (fun _ => rfl) payload
  · exact rowRuns_bare (c := .reset tag) (fun _ => rfl) payload

/-- R164: a kind outside the list spells nothing and is refused. -/
theorem unknownKind {kind : Byte} (hk : kind ∉ requestKinds) (payload : List Byte) :
    requestRow kind tag payload = none ∧ ∀ u, actOf kind payload u = (u, .badKind, []) := by
  refine ⟨?_, fun u => ?_⟩
  · simp only [requestKinds, List.mem_cons, List.not_mem_nil, or_false, not_or] at hk
    simp only [requestRow, hk, if_false]
  · have hcode : BitVec.ofNat 8 kind.toNat ∉ requestKinds := by rwa [BitVec.ofNat_toNat, BitVec.setWidth_eq]
    unfold actOf
    generalize kind.toNat = n at hcode
    split
    case h_21 => rfl
    all_goals exact absurd (by decide) hcode

end

/-! ### TABLE LOAD and TABLE READ payloads (R166) -/

section

variable {tag : Byte} {payload : List Byte} {c : Instr}

theorem loadPayloadRow_runs (h : loadPayloadRow tag payload = some c) (u : State) :
    exec c u = .next (request 0x11 tag (actTableLoad payload) u) := by
  unfold loadPayloadRow at h
  split at h
  · rename_i t f1 f0 count body
    rw [append_eq_u16] at h
    rw [actTableLoad]
    generalize t.toNat = n at h ⊢
    unfold loadRow at h
    split at h
    case h_9 => contradiction
    all_goals
      obtain rfl := Option.some.inj h
      rfl
  · contradiction

theorem readPayloadRow_runs (h : readPayloadRow tag payload = some c) (u : State) :
    exec c u = .next (request 0x12 tag (actTableRead payload) u) := by
  unfold readPayloadRow at h
  split at h
  · rename_i t f1 f0 count
    rw [append_eq_u16] at h
    rw [actTableRead]
    generalize t.toNat = n at h ⊢
    unfold readRow at h
    split at h
    case h_14 => contradiction
    all_goals
      obtain rfl := Option.some.inj h
      rfl
  · contradiction

theorem TableName.ofCode_none {n : Nat} (h : n = 0 ∨ 13 < n) : TableName.ofCode n = none := by
  unfold TableName.ofCode
  split
  case h_14 => rfl
  all_goals omega

/-- R18 check 1: a TABLE LOAD too short for its head. -/
theorem actTableLoad_short (h : payload.length < 4) (u : State) : actTableLoad payload u = (u, .badLength, []) := by
  unfold actTableLoad
  split
  · simp only [List.length_cons] at h
    omega
  · rfl

/-- R166: a TABLE READ that is not its head alone. -/
theorem actTableRead_length (h : payload.length ≠ 4) (u : State) : actTableRead payload u = (u, .badLength, []) := by
  unfold actTableRead
  split
  · exact absurd rfl h
  · rfl

end

section

variable {t f1 f0 count : Byte} {body : List Byte}

/-- R18 check 2: a TABLE LOAD of no table. -/
theorem actTableLoad_unknown (h : t.toNat = 0 ∨ 13 < t.toNat) (u : State) :
    actTableLoad (t :: f1 :: f0 :: count :: body) u = (u, .badValue, [0, 0, 0]) := by
  rw [actTableLoad, TableName.ofCode_none h]
  rfl

theorem actTableRead_unknown (h : t.toNat = 0 ∨ 13 < t.toNat) (u : State) :
    actTableRead [t, f1, f0, count] u = (u, .badValue, [t, f1, f0, count]) := by
  rw [actTableRead, TableName.ofCode_none h]

/-- R18 check 2, R166: the read-only tables with their entry sizes. -/
theorem actTableLoad_readOnly {size : Nat}
    (h : (t.toNat, size) ∈ ([(9, 8), (10, 8), (11, 5), (12, 20), (13, 12)] : List (Nat × Nat))) :
    ∃ name : TableName, name ≠ .panelPattern ∧ name.entrySize = size
      ∧ actTableLoad (t :: f1 :: f0 :: count :: body) = loadReadOnly name count body := by
  simp only [List.mem_cons, List.not_mem_nil, or_false, Prod.mk.injEq] at h
  rw [actTableLoad]
  rcases h with ⟨ht, rfl⟩ | ⟨ht, rfl⟩ | ⟨ht, rfl⟩ | ⟨ht, rfl⟩ | ⟨ht, rfl⟩
  · exact ⟨.stationRecords, by decide, rfl, by rw [ht]; rfl⟩
  · exact ⟨.substitution, by decide, rfl, by rw [ht]; rfl⟩
  · exact ⟨.wear, by decide, rfl, by rw [ht]; rfl⟩
  · exact ⟨.lastSignature, by decide, rfl, by rw [ht]; rfl⟩
  · exact ⟨.images, by decide, rfl, by rw [ht]; rfl⟩

theorem loadReadOnly_right {name : TableName} (hname : name ≠ .panelPattern)
    (h : body.length = count.toNat * name.entrySize) (u : State) :
    loadReadOnly name count body u = (u, .badValue, [0, 0, 0]) :=
  if_pos ((loadLengthRight_iff hname).mpr h)

theorem loadReadOnly_wrong {name : TableName} (hname : name ≠ .panelPattern)
    (h : body.length ≠ count.toNat * name.entrySize) (u : State) :
    loadReadOnly name count body u = (u, .badLength, []) :=
  if_neg (h ∘ (loadLengthRight_iff hname).mp)

end

/-! ### A frame taken (R159, R162) -/

/-- R164: the row a frame's kind and payload spell is the act of its kind. -/
theorem requestRow_runs {kind tag : Byte} {payload : List Byte} {c : Instr} (h : requestRow kind tag payload = some c)
    (u : State) : exec c u = .next (request kind tag (actOf kind payload) u) := by
  by_cases hk : kind ∈ requestKinds
  · by_cases h11 : kind = 0x11
    · subst h11
      exact loadPayloadRow_runs h u
    · by_cases h12 : kind = 0x12
      · subst h12
        exact readPayloadRow_runs h u
      · exact (rowRuns_of_mem tag hk h11 h12 payload).1 c h u
  · rw [(unknownKind tag hk payload).1] at h
    contradiction

/-- R162: a request taken whose act refuses. -/
theorem next_refused {kind tag : Byte} {act : Act} {s : State} {code : ResultCode} {data : List Byte} (hs : Takes s)
    (hc : code ≠ .ok) (h : ∀ u, act u = (u, code, data)) :
    (.next (request kind tag act s) : Result) = .next (answered kind tag code data s) :=
  congrArg Host.Outcome.next (request_answered kind tag act s s code data hs (.inr hc) rfl (h _))

@[simp] theorem forwardDown_answers (l : Lpu) (f : Frame) : (l.forwardDown f).answers = l.answers := by
  unfold Lpu.forwardDown
  split <;> rfl

@[simp] theorem forwardDown_resetPending (l : Lpu) (f : Frame) : (l.forwardDown f).resetPending = l.resetPending := by
  unfold Lpu.forwardDown
  split <;> rfl

@[simp] theorem forwardDown_requestDrops (l : Lpu) (f : Frame) : (l.forwardDown f).requestDrops = l.requestDrops := by
  unfold Lpu.forwardDown
  split <;> rfl

/-- R159: the part after the reception of a frame that is for it. -/
def ReceivedAs (f : Frame) (s u : State) : Prop :=
  f.address = 0 ∧ u = { s with lpu := ({ s.lpu with rxUp := .hunting }).forwardDown f }
    ∨ f.address ≠ 0 ∧ s.lpu.address = some f.address.toNat ∧ u = { s with lpu := { s.lpu with rxUp := .hunting } }

theorem ReceivedAs.takes {f : Frame} {s u : State} (h : ReceivedAs f s u) : Takes u ↔ Takes s := by
  rcases h with ⟨-, rfl⟩ | ⟨-, -, rfl⟩
  · simp only [Takes, forwardDown_answers, forwardDown_resetPending]
  · rfl

theorem ReceivedAs.requestDrops {f : Frame} {s u : State} (h : ReceivedAs f s u) :
    u.lpu.requestDrops = s.lpu.requestDrops := by
  rcases h with ⟨-, rfl⟩ | ⟨-, -, rfl⟩
  · exact forwardDown_requestDrops _ f
  · rfl

theorem exec_upstreamFrameReceived {f : Frame} {s u : State} (hf : Frame.wellFormed f = true)
    (hcrc : f.crc = crc16 (Frame.covered f)) (h80 : f.kind ≠ 0x80) (h81 : f.kind ≠ 0x81) (h : ReceivedAs f s u) :
    exec (.upstreamFrameReceived f) s = .next (request f.kind f.tag (actOf f.kind f.payload) u) := by
  have hlen : ¬ Config.payloadMost < f.payload.length := Nat.not_lt.mpr (of_decide_eq_true hf)
  have hright : Frame.crcRight f = true := decide_eq_true hcrc
  have hdispatch : dispatchFrame f u = request f.kind f.tag (actOf f.kind f.payload) u :=
    if_neg fun hkind => hkind.elim h80 h81
  show Host.Outcome.next (frameReceived .upstream f s) = _
  rw [frameReceived, if_neg hlen, if_pos hright, ← hdispatch]
  rcases h with ⟨h0, rfl⟩ | ⟨h0, haddress, rfl⟩
  · exact congrArg Host.Outcome.next (if_pos h0)
  · exact congrArg Host.Outcome.next ((if_neg h0).trans (if_pos haddress))

end Sys2Proof.Machine

open Sys2Proof Sys2Proof.Machine

/-- Settles O9: the frame is one request; its act is that of the row, or refuses. -/
theorem receivedFrameRunsItsRequest : Obligations.ReceivedFrameRunsItsRequest := by
  unfold Obligations.ReceivedFrameRunsItsRequest
  intro f s u hf hcrc h80 h81 h
  have hu : ReceivedAs f s u := h
  have hexec := exec_upstreamFrameReceived hf hcrc h80 h81 hu
  refine ⟨fun c hc => hexec.trans (requestRow_runs hc u).symm, fun hno => ?_, fun hs hk => ?_,
    fun hs hk h11 h12 hrow => ?_, fun hs hk => ?_, fun hs hk => ?_⟩
  · rw [hexec, request_dropped _ _ _ _ (hno ∘ hu.takes.mp), hu.requestDrops]
  · exact hexec.trans (next_refused (hu.takes.mpr hs) (by decide) (unknownKind f.tag hk f.payload).2)
  · exact hexec.trans (next_refused (hu.takes.mpr hs) (by decide) ((rowRuns_of_mem f.tag hk h11 h12 f.payload).2 hrow))
  · rw [hk] at hexec
    have hreply := fun {code : ResultCode} {data : List Byte} (hc : code ≠ .ok)
      (hact : ∀ u, actTableLoad f.payload u = (u, code, data)) => hexec.trans (next_refused (hu.takes.mpr hs) hc hact)
    refine ⟨fun hshort => hreply (by decide) (actTableLoad_short hshort), fun t f1 f0 count body hp => ?_⟩
    rw [hp] at hreply
    refine ⟨fun ht => hreply (by decide) (actTableLoad_unknown ht), fun size hsize => ?_⟩
    obtain ⟨name, hname, rfl, hact⟩ := actTableLoad_readOnly (f1 := f1) (f0 := f0) (count := count) (body := body) hsize
    rw [hact] at hreply
    exact ⟨fun hl => hreply (by decide) (loadReadOnly_right hname hl),
      fun hl => hreply (by decide) (loadReadOnly_wrong hname hl)⟩
  · rw [hk] at hexec
    have hreply := fun {code : ResultCode} {data : List Byte} (hc : code ≠ .ok)
      (hact : ∀ u, actTableRead f.payload u = (u, code, data)) => hexec.trans (next_refused (hu.takes.mpr hs) hc hact)
    refine ⟨fun hlong => hreply (by decide) (actTableRead_length hlong), fun t f1 f0 count hp ht => ?_⟩
    rw [hp] at hreply
    exact hreply (by decide) (actTableRead_unknown ht)

end

section
/-! PROOF. What EstopInv reads of the state, and the shared operations that keep it (R44, R80, R100 to R102, R128, R136, R145,
R147). -/

namespace Sys2Proof.Machine

/-! ### The view -/

/-- Everything that EstopInv reads of the state, and the times that remain of what the line suspends. -/
structure EstopView where
  alc : Alc
  inStep : Bool
  stepTimer : Timer
  transfer : Option Transfer
  timer : Timer
  handler : Option HandlerOperation
  handlerTimer : Timer
  move : Option Move
  head : HeadState
  inCycle : Bool

def estopView (s : State) : EstopView :=
  { alc := s.alc, inStep := s.csq.cycle == .step, stepTimer := s.csq.stepTimer,
    transfer := s.tpc.transfer, timer := s.tpc.timer, handler := s.tbc.handler, handlerTimer := s.tbc.handlerTimer,
    move := s.tbc.move, head := s.hdc.head, inCycle := s.hdc.cycle.isSome }

/-- The clauses of EstopInv that say where a timer or a cycle can be. -/
def PlaceInv (s : State) : Prop :=
  (s.csq.cycle ≠ .step → s.csq.stepTimer = .stopped)
    ∧ (s.hdc.head = .idle ∨ s.hdc.head = .fault ∨ s.hdc.head = .homing ∨ s.hdc.cycle.isSome = true)

/-- EstopInv but for the levels. -/
def LineInv (s : State) : Prop :=
  (s.csq.cycle ≠ .step → s.csq.stepTimer = .stopped)
    ∧ (s.hdc.head = .idle ∨ s.hdc.head = .fault ∨ s.hdc.head = .homing ∨ s.hdc.cycle.isSome = true)
    ∧ (s.alc.estop = .asserted → StoppedByEstop s)

theorem LineInv.place {s : State} (h : LineInv s) : PlaceInv s := ⟨h.1, h.2.1⟩

theorem estopInv_iff (s : State) : EstopInv s ↔ LevelInv s ∧ LineInv s := Iff.rfl

theorem inStep_of_view {s t : State} (hv : estopView t = estopView s) : t.csq.cycle = .step ↔ s.csq.cycle = .step := by
  have hstep : (t.csq.cycle == .step) = (s.csq.cycle == .step) := congrArg EstopView.inStep hv
  rw [← beq_iff_eq, hstep, beq_iff_eq]

theorem PlaceInv.of_view {s t : State} (h : PlaceInv s) (hv : estopView t = estopView s) : PlaceInv t := by
  have hstep := inStep_of_view hv
  simp only [estopView, EstopView.mk.injEq] at hv
  obtain ⟨-, -, htimer, -, -, -, -, -, hhead, hcycle⟩ := hv
  unfold PlaceInv
  rw [htimer, hhead, hcycle, ne_eq, hstep]
  exact h

theorem LineInv.of_view {s t : State} (h : LineInv s) (hv : estopView t = estopView s) : LineInv t := by
  obtain ⟨hstep, hhead⟩ := h.place.of_view hv
  simp only [estopView, EstopView.mk.injEq] at hv
  obtain ⟨halc, -, htimer, htransfer, -, hhandler, -, hmove, hh, -⟩ := hv
  refine ⟨hstep, hhead, ?_⟩
  unfold StoppedByEstop
  rw [halc, htimer, htransfer, hhandler, hmove, hh]
  exact h.2.2

theorem LevelInv.of_alc {s t : State} (h : LevelInv s) (ha : t.alc = s.alc) : LevelInv t := by
  unfold LevelInv
  rw [ha]
  exact h

theorem EstopInv.of_view {s t : State} (h : EstopInv s) (hv : estopView t = estopView s) : EstopInv t :=
  ⟨LevelInv.of_alc h.1 (congrArg EstopView.alc hv), LineInv.of_view h.2 hv⟩

/-- Commands on the lines are no part of the view. -/
theorem EstopInv.updOut {s : State} (f : Outputs → Outputs) (h : EstopInv s) : EstopInv (s.updOut f) := h

/-- R147: a level other than STOP says that the line is RELEASED. -/
theorem LevelInv.released {s : State} (h : LevelInv s) (he : s.alc.effective ≠ .stop) : s.alc.estop = .released :=
  effectiveOf_released s.alc (h.1 ▸ he)

/-- With the line RELEASED nothing needs to stand still. -/
theorem LineInv.of_released {s : State} (hr : s.alc.estop = .released) (h : PlaceInv s) : LineInv s :=
  ⟨h.1, h.2, fun he => by rw [hr] at he; contradiction⟩

/-- A fold keeps what each of its steps keeps. -/
theorem foldl_inv {α : Type} {P : State → Prop} {f : State → α → State} (h : ∀ t a, P t → P (f t a)) (l : List α)
    {s : State} (hs : P s) : P (l.foldl f s) := by
  induction l generalizing s with
  | nil => exact hs
  | cons a l ih => exact ih (h s a hs)

/-! ### Operations that leave the view -/

@[simp] theorem estopView_idleTest (s : State) : estopView (idleTest s) = estopView s := by simp [estopView]

@[simp] theorem estopView_heldTest (s : State) : estopView (heldTest s) = estopView s := by simp [estopView]

/-- R45: SETTLE and REST are both no step. -/
@[simp] theorem estopView_settleTest (s : State) : estopView (settleTest s) = estopView s := by
  unfold settleTest
  split
  case isTrue h => simp [estopView, h.1]
  case isFalse => rfl

@[simp] theorem estopView_purgeTest (s : State) : estopView (purgeTest s) = estopView s := by simp [estopView]

@[simp] theorem estopView_setClip (p : Nat) (c : ClipState) (s : State) : estopView (setClip p c s) = estopView s := rfl

@[simp] theorem estopView_fireLoadDown (d : Nat) (s : State) : estopView (fireLoadDown d s) = estopView s := rfl

@[simp] theorem estopView_clearCommand (n : Nat) (s : State) : estopView (clearCommand n s) = estopView s := rfl

@[simp] theorem estopView_emptiedTest (s : State) : estopView (emptiedTest s) = estopView s := by
  unfold emptiedTest
  split
  · exact estopView_settleTest _
  · rfl

@[simp] theorem estopView_unbook (n p : Nat) (s : State) : estopView (unbook n p s) = estopView s := by
  unfold unbook
  simp only []
  split
  · rfl
  · split <;> simp

@[simp] theorem estopView_releaseClip (w : WindowEntry) (s : State) : estopView (releaseClip w s) = estopView s := by
  unfold releaseClip
  split
  · rfl
  · split <;> simp

@[simp] theorem estopView_unwindFrom (n : Nat) (s : State) : estopView (unwindFrom n s) = estopView s :=
  foldl_keep estopView _ (fun t w => estopView_releaseClip w t) _ s

@[simp] theorem estopView_removeTest (c : SlotCommand) (n : Nat) (s : State) :
    estopView (removeTest c n s) = estopView s := by
  unfold removeTest
  split <;> simp

@[simp] theorem estopView_removeTests (s : State) : estopView (removeTests s) = estopView s := by
  unfold removeTests
  split
  · rw [estopView_emptiedTest]
    exact foldl_keep estopView _ (fun t n => estopView_removeTest _ n t) _ s
  · rfl
  · rfl

@[simp] theorem estopView_closeSweep (r : SweepResult) (s : State) : estopView (closeSweep r s) = estopView s :=
  estopView_removeTests _

@[simp] theorem estopView_writeRecord (r : RingRecord) (s : State) : estopView (writeRecord r s) = estopView s := rfl

@[simp] theorem estopView_driveTransfer (op : TransferOp) (c : LineCommand) (s : State) :
    estopView (driveTransfer op c s) = estopView s := by simp [estopView]

@[simp] theorem estopView_withdraw (uid : Nat) (s : State) : estopView (withdraw uid s) = estopView s := rfl

@[simp] theorem estopView_joinTape (e : TapeEntry) (s : State) : estopView (joinTape e s) = estopView s :=
  estopView_heldTest _

@[simp] theorem estopView_leaveFront (s : State) : estopView (leaveFront s) = estopView s := by
  unfold leaveFront
  split <;> rfl

@[simp] theorem estopView_discardFront (s : State) : estopView (discardFront s) = estopView s := by
  unfold discardFront
  split <;> rfl

@[simp] theorem estopView_retestFront (s : State) : estopView (retestFront s) = estopView s := by
  unfold retestFront
  split
  · rfl
  · split <;> simp

@[simp] theorem estopView_markImage (n : Nat) (st : ImageState) (s : State) :
    estopView (markImage n st s) = estopView s :=
  foldl_keep estopView _ (fun t (e : TapeEntry) => estopView_withdraw e.entry.uid t) _ _

/-! ### The level recomputed and told -/

/-- R44, R80, R147: what was suspended goes on only when the level leaves STOP, and then the line is RELEASED. -/
theorem recompute_leaves {s : State} : s.alc.effective = .stop ∧ (recompute s).alc.effective ≠ .stop ∧ s.alc.estop = .released
    ∨ estopView (recompute s) = estopView (s.updAlc (fun _ => (recompute s).alc)) := by
  obtain ⟨-, ⟨hstay, -⟩, -⟩ := recompute_told s
  by_cases hl : s.alc.effective = .stop ∧ (recompute s).alc.effective ≠ .stop
  · refine .inl ⟨hl.1, hl.2, ?_⟩
    simpa using (recompute_levels s).released hl.2
  · obtain ⟨⟨hstep, -⟩, htransfer, htimer, -⟩ := hstay hl
    exact .inr (by simp [estopView, hstep, htransfer, htimer])

theorem recompute_place {s : State} (h : PlaceInv s) : PlaceInv (recompute s) := by
  obtain ⟨hstep, hhead⟩ := h
  rcases recompute_leaves (s := s) with hl | hv
  · obtain ⟨-, ⟨-, hleave, -⟩, -⟩ := recompute_told s
    obtain ⟨-, hkeep, -⟩ := hleave ⟨hl.1, hl.2.1⟩
    refine ⟨fun hc => ?_, by simpa using hhead⟩
    have hc' : s.csq.cycle ≠ .step := by simpa using hc
    rw [(hkeep (.inl hc')).1]
    exact hstep hc'
  · exact PlaceInv.of_view (s := s.updAlc _) ⟨hstep, hhead⟩ hv

theorem recompute_line {s : State} (h : LineInv s) : LineInv (recompute s) := by
  rcases recompute_leaves (s := s) with hl | hv
  · exact .of_released (by simpa using hl.2.2) (recompute_place h.place)
  · exact LineInv.of_view (s := s.updAlc _) ⟨h.1, h.2.1, fun he => h.2.2 (by simpa using he)⟩ hv

theorem recompute_estop {s : State} (h : LineInv s) : EstopInv (recompute s) := ⟨recompute_levels s, recompute_line h⟩

/-- R147, R148: the level and each lamp. -/
theorem levelInv_iff (s : State) : LevelInv s ↔ s.alc.effective = effectiveOf s.alc
    ∧ s.alc.red = !s.alc.stopCh.entries.isEmpty
    ∧ s.alc.amber = (!s.alc.holdCh.entries.isEmpty || !s.alc.warnCh.entries.isEmpty)
    ∧ s.alc.green = (s.alc.effective == .run) := by
  refine and_congr_right fun _ => ⟨fun h => ?_, fun ⟨hr, ha, hg⟩ => ?_⟩
  · rw [← h]
    exact ⟨rfl, rfl, rfl⟩
  · unfold lampsOf
    rw [← hr, ← ha, ← hg]

/-- A change of ALC that empties and fills no channel and leaves the requested level and the line leaves the levels. -/
theorem LevelInv.updAlc {s : State} {f : Alc → Alc} (h : LevelInv s)
    (hc : ∀ c, ((f s.alc).channel c).entries.isEmpty = (s.alc.channel c).entries.isEmpty)
    (hr : (f s.alc).requested = s.alc.requested) (hline : (f s.alc).estop = s.alc.estop)
    (he : (f s.alc).effective = s.alc.effective)
    (hlamps : (f s.alc).red = s.alc.red ∧ (f s.alc).amber = s.alc.amber ∧ (f s.alc).green = s.alc.green) :
    LevelInv (s.updAlc f) := by
  have hstop : (f s.alc).stopCh.entries.isEmpty = s.alc.stopCh.entries.isEmpty := hc .stop
  have hhold : (f s.alc).holdCh.entries.isEmpty = s.alc.holdCh.entries.isEmpty := hc .hold
  have hwarn : (f s.alc).warnCh.entries.isEmpty = s.alc.warnCh.entries.isEmpty := hc .warn
  rw [levelInv_iff] at h ⊢
  simpa only [updAlc_alc, effectiveOf, hstop, hhold, hwarn, hr, hline, he, hlamps] using h

/-- Entries of one channel that change, none joining an empty channel or leaving one empty. -/
theorem LevelInv.setChannel {s : State} (h : LevelInv s) (c : ChannelId) (ch : Alc → Channel)
    (hc : (ch s.alc).entries.isEmpty = (s.alc.channel c).entries.isEmpty) :
    LevelInv (s.updAlc (fun a => a.setChannel c (ch a))) := by
  refine h.updAlc (fun d => ?_) (by simp) (by simp) (by simp) (by cases c <;> exact ⟨rfl, rfl, rfl⟩)
  by_cases hd : d = c
  · rw [hd, channel_setChannel_self, hc]
  · rw [channel_setChannel_ne _ _ hd]

/-- ALC as it was but for channels, levels and lamps: what the line halts stands as it stood. -/
theorem LineInv.updAlc {s : State} {f : Alc → Alc} (h : LineInv s) (hline : (f s.alc).estop = s.alc.estop) :
    LineInv (s.updAlc f) := by
  obtain ⟨hstep, hhead, hstopped⟩ := h
  exact ⟨hstep, hhead, fun he => hstopped (hline ▸ he)⟩

/-! ### Posts (R142 to R144) -/

/-- What a change of ALC under the same line, a notice, the end of a sweep and a recomputation of the level keep. -/
structure PostKept (P : State → Prop) : Prop where
  updAlc : ∀ {s} {f : Alc → Alc}, P s → (f s.alc).estop = s.alc.estop → P (s.updAlc f)
  updLpu : ∀ {s} (f : Lpu → Lpu), P s → P (s.updLpu f)
  closeSweep : ∀ {s} (r : SweepResult), P s → P (closeSweep r s)
  recompute : ∀ {s}, P s → P (recompute s)

namespace PostKept

variable {P : State → Prop} {s : State}

theorem postIn (hP : PostKept P) {onStop : State → State} (hstop : ∀ t, P t → P (onStop t)) (c : ChannelId)
    (k : AlarmKind) (subject : Option Nat) (h : P s) : P (postIn onStop c k subject s) := by
  unfold Machine.postIn
  split
  · exact hP.updAlc h (by simp)
  · split
    · have happended : P (s.updAlc (·.append c (newEntry s.alc c k subject))) := hP.updAlc h (by simp)
      refine hP.recompute ?_
      split
      · exact hstop _ (hP.updLpu _ happended)
      · exact hP.updLpu _ happended
    · exact hP.updAlc h (by simp)

theorem postWith (hP : PostKept P) {onStop : State → State} (hstop : ∀ t, P t → P (onStop t)) (k : AlarmKind)
    (subject : Option Nat) (h : P s) : P (postWith onStop k subject s) := by
  unfold Machine.postWith
  simp only []
  split
  · exact hP.updAlc h (by simp)
  · exact hP.postIn hstop _ k subject h

theorem postQuiet (hP : PostKept P) (k : AlarmKind) (subject : Option Nat) (h : P s) : P (postQuiet k subject s) :=
  hP.postWith (fun _ => id) k subject h

theorem abortSweep (hP : PostKept P) (h : P s) : P (abortSweep s) := by
  unfold Machine.abortSweep
  split
  · exact h
  · exact hP.postQuiet _ _ (hP.closeSweep _ h)

theorem post (hP : PostKept P) (k : AlarmKind) (subject : Option Nat) (h : P s) : P (post k subject s) :=
  hP.postWith (fun _ => hP.abortSweep) k subject h

theorem postClinchFault (hP : PostKept P) (c : ChannelId) (step : Nat) (h : P s) : P (postClinchFault c step s) :=
  hP.postIn (fun _ => hP.abortSweep) c _ _ h

end PostKept

theorem placeInv_postKept : PostKept PlaceInv where
  updAlc := fun h _ => h
  updLpu := fun _ h => h
  closeSweep := fun _ h => h.of_view (by simp)
  recompute := recompute_place

theorem lineInv_postKept : PostKept LineInv where
  updAlc := LineInv.updAlc
  updLpu := fun _ h => h.of_view rfl
  closeSweep := fun _ h => h.of_view (by simp)
  recompute := recompute_line

theorem postIn_level {onStop : State → State} (c : ChannelId) (k : AlarmKind) (subject : Option Nat) {s : State}
    (h : LevelInv s) : LevelInv (postIn onStop c k subject s) := by
  unfold postIn
  split
  · exact h.setChannel c _ (List.isEmpty_map ..)
  · split
    · exact recompute_levels _
    · exact h.setChannel c _ rfl

theorem postWith_level {onStop : State → State} (k : AlarmKind) (subject : Option Nat) {s : State}
    (h : LevelInv s) : LevelInv (postWith onStop k subject s) := by
  unfold postWith
  simp only []
  split
  · exact h.setChannel _ _ rfl
  · exact postIn_level _ k subject h

theorem postQuiet_estop (k : AlarmKind) (subject : Option Nat) {s : State} (h : EstopInv s) :
    EstopInv (postQuiet k subject s) := ⟨postWith_level k subject h.1, lineInv_postKept.postQuiet k subject h.2⟩

theorem post_estop (k : AlarmKind) (subject : Option Nat) {s : State} (h : EstopInv s) : EstopInv (post k subject s) :=
  ⟨postWith_level k subject h.1, lineInv_postKept.post k subject h.2⟩

theorem postClinchFault_estop (c : ChannelId) (step : Nat) {s : State} (h : EstopInv s) :
    EstopInv (postClinchFault c step s) :=
  ⟨postIn_level c _ _ h.1, lineInv_postKept.postClinchFault c step h.2⟩

theorem rejectImage_estop (panel : Byte) (n : Nat) {s : State} (h : EstopInv s) : EstopInv (rejectImage panel n s) := by
  unfold rejectImage
  split
  · refine post_estop _ _ ?_
    split
    · exact h
    · exact h.of_view (by simp)
  · exact h

/-- R134 to R136: a move that ends may end under any line. -/
theorem haltTable_estop {s : State} (h : EstopInv s) : EstopInv (haltTable s) := by
  obtain ⟨hlevel, hstep, hhead, hline⟩ := h
  refine ⟨hlevel, hstep, hhead, fun he => ?_⟩
  obtain ⟨h1, h2, h3, -, h5⟩ := hline he
  exact ⟨h1, h2, h3, rfl, h5⟩

end Sys2Proof.Machine
end

section
/-! PROOF. Stations, sweep, taper and chain keep EstopInv (Sys2Proof/Machine/Health, Taping, Chain). -/

namespace Sys2Proof.Machine

/-! ### Station records, the Substitution Table, the sweep -/

@[simp] theorem estopView_setRecord (n : Nat) (f : StationRecord → StationRecord) (s : State) :
    estopView (setRecord n f s) = estopView s := by
  unfold setRecord
  split <;> rfl

@[simp] theorem estopView_becomeUnusable (n : Nat) (s : State) : estopView (becomeUnusable n s) = estopView s := rfl

theorem attemptSubstitution_estop (f : Nat) {s : State} (h : EstopInv s) : EstopInv (attemptSubstitution f s) := by
  unfold attemptSubstitution
  split
  · exact h
  · split
    · exact h
    · split
      · exact h
      · exact post_estop _ _ h

theorem stationFailed_estop (was : Bool) (n : Nat) {s : State} (h : EstopInv s) : EstopInv (stationFailed was n s) := by
  unfold stationFailed
  refine attemptSubstitution_estop n ?_
  split <;> exact h

theorem countedMiss_estop (n : Nat) {s : State} (h : EstopInv s) : EstopInv (countedMiss n s) := by
  unfold countedMiss
  simp only []
  split
  · exact stationFailed_estop _ n (post_estop _ _ (h.of_view (by simp)))
  · exact h.of_view (by simp)

theorem emptyReply_estop (n : Nat) {s : State} (h : EstopInv s) : EstopInv (emptyReply n s) := by
  unfold emptyReply
  split
  · exact post_estop _ _ h
  · exact stationFailed_estop _ n (post_estop _ _ (h.of_view (by simp)))

theorem lowReply_estop (n : Nat) {s : State} (h : EstopInv s) : EstopInv (lowReply n s) :=
  post_estop _ _ (h.of_view (by simp))

@[simp] theorem estopView_updMember (n : Nat) (f : SweepMember → SweepMember) (s : State) :
    estopView (updMember n f s) = estopView s := rfl

@[simp] theorem estopView_judgePass (n : Nat) (r : Reply) (s : State) : estopView (judgePass n r s) = estopView s := by
  unfold judgePass
  split <;> rfl

theorem reportFire_estop (n : Nat) (r : Reply) {s : State} (h : EstopInv s) : EstopInv (reportFire n r s) := by
  have hcounted : EstopInv (countFire n s) := h.of_view (estopView_setRecord n _ s)
  cases r
  case dropped => exact hcounted
  case droppedLow => exact lowReply_estop n hcounted
  case empty => exact emptyReply_estop n hcounted
  all_goals exact countedMiss_estop n hcounted

theorem reportTest_estop (judged : Bool) (n : Nat) (r : Reply) {s : State} (h : EstopInv s) :
    EstopInv (reportTest judged n r s) := by
  have hcounted : EstopInv (countFire n s) := h.of_view (estopView_setRecord n _ s)
  unfold reportTest
  extract_lets s1 s2
  have hreported : EstopInv s2 := by
    cases r
    case droppedLow => exact lowReply_estop n hcounted
    case empty => exact emptyReply_estop n hcounted
    all_goals exact hcounted
  split
  · exact hreported.of_view (by simp)
  · exact hreported

@[simp] theorem estopView_applyFlags (w : Sweep) (s : State) : estopView (applyFlags w s) = estopView s :=
  foldl_keep estopView _ (fun t (m : SweepMember) => estopView_setRecord m.station _ t) _ s

theorem jamFailing_estop (n : Nat) {s : State} (h : EstopInv s) : EstopInv (jamFailing n s) := by
  have hjammed : EstopInv (setRecord n ({ · with jammed := true }) s) := h.of_view (by simp)
  unfold jamFailing
  simp only []
  split
  · exact hjammed
  · exact postQuiet_estop _ _ hjammed

theorem applySubstitution_estop (failing : List Nat) (chosen : List (Nat × Nat)) {s : State} (h : EstopInv s) :
    EstopInv (applySubstitution failing chosen s) := by
  unfold applySubstitution
  have hjammed := foldl_inv (f := fun t f => jamFailing f t) (fun t f => jamFailing_estop f) failing h
  have hdropped := foldl_inv (f := fun t f => dropSubstitute f t) (fun _ _ ht => ht) failing hjammed
  exact foldl_inv (f := fun t f => noticeUnusable f t) (fun _ _ ht => ht) _ hdropped

theorem applySweep_estop (w : Sweep) {s : State} (h : EstopInv s) : EstopInv (applySweep w s) := by
  have hflags : EstopInv (applyFlags w s) := h.of_view (by simp)
  unfold applySweep
  extract_lets failing chosen tooMany outcome install s1 s2
  refine post_estop _ _ (EstopInv.of_view (s := s2) ?_ (by simp))
  simp only [s2]
  split
  · exact applySubstitution_estop _ _ hflags
  · exact hflags

theorem sweepTest_estop {s : State} (h : EstopInv s) : EstopInv (sweepTest s) := by
  unfold sweepTest
  split
  · exact h
  · split
    · exact applySweep_estop _ h
    · exact h

@[simp] theorem estopView_applyStationFlags (clear set : Byte) (n : Nat) (s : State) :
    estopView (applyStationFlags clear set n s) = estopView s := by
  unfold applyStationFlags
  extract_lets was s1 now s2
  have h1 : estopView s1 = estopView s := estopView_setRecord n _ s
  have h2 : estopView s2 = estopView s := by
    simp only [s2]
    split
    · exact h1
    · exact h1
  split
  · exact h2
  · exact h2

/-! ### Transfer actions -/

/-- R75: what is commanded under the asserted line is SUSPENDED. -/
theorem commandTransfer_estop (op : TransferOp) {s : State} (h : EstopInv s) : EstopInv (commandTransfer op s) := by
  obtain ⟨hlevel, hstep, hhead, hline⟩ := h.of_view (t := driveTransfer op .start s) (by simp)
  unfold commandTransfer
  simp only []
  split
  · exact ⟨hlevel, hstep, hhead, fun he => by
      obtain ⟨h1, -, h3⟩ := hline he
      exact ⟨h1, by simp, h3⟩⟩
  case isFalse hr =>
    refine ⟨hlevel, hstep, hhead, fun he => absurd ?_ hr⟩
    simpa using he

/-- A transfer action that is not RUNNING may stand under any line. -/
theorem setTransfer_estop (f : Tpc → Tpc) {s : State} (hf : (f s.tpc).transfer.map Transfer.phase ≠ some .running)
    (h : EstopInv s) : EstopInv (s.updTpc f) := by
  obtain ⟨hlevel, hstep, hhead, hline⟩ := h
  refine ⟨hlevel, hstep, hhead, fun he => ?_⟩
  obtain ⟨h1, -, h3⟩ := hline he
  exact ⟨h1, hf, h3⟩

theorem startTaping_estop {s : State} (h : EstopInv s) : EstopInv (startTaping s) := by
  unfold startTaping
  split
  · exact commandTransfer_estop _ h
  · exact setTransfer_estop _ (by simp) h

theorem startTransfer_estop (c : ClipState) {s : State} (h : EstopInv s) : EstopInv (startTransfer c s) := by
  cases c
  case loaded => exact startTaping_estop h
  case empty => exact h
  case reserved => exact h
  all_goals exact commandTransfer_estop _ h

theorem endTransfer_estop {s : State} (h : EstopInv s) : EstopInv (endTransfer s) := setTransfer_estop _ (by simp) h

theorem commandWaiting_estop {s : State} (h : EstopInv s) : EstopInv (commandWaiting s) := by
  unfold commandWaiting
  split
  · exact commandTransfer_estop _ h
  · exact h

/-! ### Cascades and the index event -/

theorem postRetries_estop (missed : List Nat) {s : State} (h : EstopInv s) : EstopInv (postRetries missed s) :=
  foldl_inv (fun _ _ ht => post_estop _ _ ht) _ h

theorem missCascade_estop (missed : List Nat) {s : State} (h : EstopInv s) : EstopInv (missCascade missed s) := by
  unfold missCascade
  simp only []
  split
  · exact h
  · have hcounted : EstopInv (countTries missed s) := h
    exact postRetries_estop missed (hcounted.of_view (by simp))

theorem clipSense_estop (present : Bool) {s : State} (h : EstopInv s) : EstopInv (clipSense present s) := by
  have hset : ∀ p c, EstopInv (setClip p c s) := fun p c => h.of_view (by simp)
  unfold clipSense
  extract_lets p missed
  split
  · exact h.of_view (estopView_setRecord _ _ s)
  · exact missCascade_estop _ (countedMiss_estop _ (hset p _))
  · exact post_estop _ _ (hset p _)
  · exact h
  · exact hset p _
  · exact hset p _
  · exact sweepTest_estop (h.of_view rfl)
  · exact sweepTest_estop ((hset p .empty).of_view rfl)
  · exact h
  · exact h

theorem handOver_estop {s : State} (h : EstopInv s) : EstopInv (handOver s) :=
  startTransfer_estop _ (h.of_view rfl)

theorem assignCandidate_estop (w : WindowEntry) {s : State} (h : EstopInv s) : EstopInv (assignCandidate w s) := by
  unfold assignCandidate
  simp only []
  split
  · exact post_estop _ _ h
  · split
    · exact h.of_view rfl
    · exact h

theorem estopView_dropInvalid (l : List WindowEntry) (s : State) : estopView (dropInvalid l s).1 = estopView s := by
  induction l generalizing s with
  | nil => rfl
  | cons w l ih =>
    unfold dropInvalid
    split
    · rfl
    · exact ih _

/-- A take touches nothing the line halts. -/
theorem TakeEffect.estopView {room n : Nat} {s t : State} {e : Option Entry} (h : TakeEffect room n s t e) :
    Machine.estopView t = Machine.estopView s := by
  obtain ⟨-, -, hcsq, -, htpc, hhdc, -, htbc, halc⟩ := h.same
  simp only [Machine.estopView, hcsq, htpc, hhdc, htbc, halc]

theorem estopView_take {s t : State} {o : Option Entry} (h : take s = (t, o)) : estopView t = estopView s := by
  obtain ⟨n, heffect⟩ := take_effect_of_eq h
  exact heffect.estopView

theorem assignEntering_estop {s : State} (h : EstopInv s) : EstopInv (assignEntering s) := by
  unfold assignEntering
  split
  case h_1 s1 w hd =>
    exact assignCandidate_estop w (h.of_view (by rw [← estopView_dropInvalid _ s, hd]))
  case h_2 s1 hd =>
    have h1 : EstopInv s1 := h.of_view (by rw [← estopView_dropInvalid _ s, hd])
    split
    case h_1 s2 ht => exact h1.of_view (estopView_take ht)
    case h_2 s2 e ht => exact assignCandidate_estop _ ((h1.of_view (estopView_take ht)).of_view rfl)

theorem assignStep_estop {s : State} (h : EstopInv s) : EstopInv (assignStep s) := by
  unfold assignStep
  split
  · exact assignEntering_estop h
  · exact h

/-! ### The exchange -/

@[simp] theorem estopView_buildTests (s : State) : estopView (buildTests s) = estopView s := by
  unfold buildTests
  split
  · exact foldl_keep estopView (fun t n => fireTest n t) (fun _ _ => rfl) _ s
  · rfl

@[simp] theorem estopView_buildExchange (s : State) : estopView (buildExchange s) = estopView s :=
  estopView_buildTests _

theorem estopView_applyReply (acc : State × List Nat) (slot : Nat × SlotCommand × Reply) :
    estopView (applyReply acc slot).1 = estopView acc.1 := by
  obtain ⟨s, missed⟩ := acc
  obtain ⟨n, c, r⟩ := slot
  cases c
  case none => rfl
  case test p j =>
    show estopView (applyTestReply n p r s) = _
    unfold applyTestReply
    split <;> rfl
  case fire uid =>
    simp only [applyReply]
    split
    · split <;> rfl
    · split <;> rfl

theorem estopView_applyReplies (slots : List (Nat × SlotCommand × Reply)) (acc : State × List Nat) :
    estopView (slots.foldl applyReply acc).1 = estopView acc.1 := by
  induction slots generalizing acc with
  | nil => rfl
  | cons slot slots ih => rw [List.foldl_cons, ih, estopView_applyReply]

theorem reportSlot_estop (slot : Nat × SlotCommand × Reply) {s : State} (h : EstopInv s) :
    EstopInv (reportSlot s slot) := by
  unfold reportSlot
  split
  · exact h
  · exact reportFire_estop _ _ h
  · exact reportTest_estop _ _ _ h

end Sys2Proof.Machine
end

section
/-! PROOF. The commands of the chain, the taper, the head, the clinch signature and the table keep EstopInv. -/

namespace Sys2Proof.Machine

/-- A command's answer: a next state that meets EstopInv. -/
def AnswersHalted : Result → Prop
  | .next t => EstopInv t
  | .fault _ => True
  | .refused _ => True

variable {s : State}

theorem EstopInv.next (h : EstopInv s) : AnswersHalted (.next s) := h

/-! ### The chain -/

/-- A chain step timer that stands STOPPED may stand so under any line. -/
theorem stopStep_estop (f : Csq → Csq) (hf : (f s.csq).stepTimer = .stopped) (h : EstopInv s) : EstopInv (s.updCsq f) := by
  obtain ⟨hlevel, -, hhead, hline⟩ := h
  refine ⟨hlevel, fun _ => hf, hhead, fun he => ?_⟩
  obtain ⟨-, hrest⟩ := hline he
  exact ⟨congrArg Timer.isRunning hf, hrest⟩

theorem chainStepStart_estop (h : EstopInv s) : AnswersHalted (execChainStepStart s) := by
  unfold execChainStepStart
  split
  case isTrue hstart =>
    obtain ⟨hlevel, -, hhead, -⟩ := h
    simp only [stepMayStart, Bool.and_eq_true, beq_iff_eq] at hstart
    exact ⟨hlevel, LineInv.of_released hstart.2 ⟨fun hne => absurd rfl hne, hhead⟩⟩
  case isFalse => exact h

theorem chainStepTimeout_estop (h : EstopInv s) : AnswersHalted (execChainStepTimeout s) := by
  unfold execChainStepTimeout
  split
  · exact EstopInv.of_view (post_estop _ _ (.updOut _ (stopStep_estop _ rfl h))) (estopView_idleTest _)
  · exact h

theorem chainIndexEvent_estop (present : Bool) (h : EstopInv s) : AnswersHalted (execChainIndexEvent present s) := by
  unfold execChainIndexEvent
  split
  · have hsensed := clipSense_estop present (stopStep_estop
      (fun q => advanceChain { q with stepTimer := .stopped, abandoned := false, cycle := .settle }) rfl h)
    have hassigned := assignStep_estop (handOver_estop (hsensed.of_view (estopView_purgeTest _)))
    exact hassigned.of_view (by simp)
  · exact h

theorem exchangeSend_estop (h : EstopInv s) : AnswersHalted (execExchangeSend s) := by
  unfold execExchangeSend
  split
  · exact h.of_view rfl
  · exact h

/-- R52, R53: what is done with the replies, whatever the slots. -/
theorem exchangeWork_estop (slots : List (Nat × SlotCommand × Reply)) (h : EstopInv s) :
    AnswersHalted (match slots.foldl applyReply (s, []) with
      | (s2, missed) => .next (settleTest (sweepTest (slots.foldl reportSlot (missCascade missed s2))))) := by
  have hreplies := estopView_applyReplies slots (s, [])
  rcases hacc : slots.foldl applyReply (s, []) with ⟨s2, missed⟩
  rw [hacc] at hreplies
  have hreported := foldl_inv (f := reportSlot) (fun _ slot ht => reportSlot_estop slot ht) slots
    (missCascade_estop missed (h.of_view hreplies))
  exact (sweepTest_estop hreported).of_view (estopView_settleTest _)

theorem exchangeComplete_estop (replies : List ReplySlot) (h : EstopInv s) :
    AnswersHalted (execExchangeComplete replies s) := by
  unfold execExchangeComplete
  split
  · extract_lets rs slots s1
    have h1 : EstopInv s1 := h.of_view rfl
    clear_value slots s1
    exact exchangeWork_estop slots h1
  · exact h

theorem unusableStationCascade_estop (h : EstopInv s) : AnswersHalted (execUnusableStationCascade s) := by
  unfold execUnusableStationCascade
  split
  · exact h
  · extract_lets s1
    split
    · exact h.of_view rfl
    · exact (h.of_view (t := s1) rfl).of_view (by simp)

@[simp] theorem estopView_rejectEntry (e : Entry) (n : Nat) (s : State) : estopView (rejectEntry e n s) = estopView s := rfl

@[simp] theorem estopView_markEntry (w : WindowEntry) (s : State) : estopView (markEntry w s) = estopView s := by
  unfold markEntry
  split
  · rfl
  · exact estopView_releaseClip w s

theorem markingNoticeCsq_estop (h : EstopInv s) : AnswersHalted (execMarkingNoticeCsq s) := by
  unfold execMarkingNoticeCsq
  split
  · exact h
  · extract_lets s1 hit
    refine EstopInv.of_view (s := s1) (h.of_view rfl) ?_
    rw [estopView_idleTest]
    exact foldl_keep estopView (fun t w => markEntry w t) (fun t w => estopView_markEntry w t) hit s1

/-! ### The taper -/

@[simp] theorem estopView_releaseTaped (s : State) : estopView (releaseTaped s) = estopView s := by
  unfold releaseTaped
  split
  · rfl
  · simp only []
    split
    · rfl
    · exact estopView_joinTape _ _

theorem tapedEvent_estop (h : EstopInv s) : AnswersHalted (execTapedEvent s) := by
  unfold execTapedEvent
  split
  case h_4 => exact h
  all_goals exact (endTransfer_estop h).of_view (by simp)

theorem dumpEvent_estop (h : EstopInv s) : AnswersHalted (execDumpEvent s) := by
  unfold execDumpEvent
  split
  · extract_lets s1
    exact EstopInv.of_view (s := s1) ((endTransfer_estop h).of_view rfl) (by simp)
  · exact h

theorem taperTimeout_estop (h : EstopInv s) : AnswersHalted (execTaperTimeout s) := by
  unfold execTaperTimeout
  split
  · split
    · exact post_estop _ _ ((setTransfer_estop _ (by simp) h).of_view (estopView_driveTransfer _ _ _))
    · exact h
  · exact h

theorem taperRestart_estop (h : EstopInv s) : AnswersHalted (execTaperRestart s) := by
  unfold execTaperRestart
  split
  · split
    · exact commandTransfer_estop _ (h.of_view rfl)
    · exact h
  · exact h

theorem tensionBreak_estop (h : EstopInv s) : AnswersHalted (execTensionBreak s) := by
  unfold execTensionBreak
  split
  · exact post_estop _ _ (h.of_view rfl)
  · exact h

theorem markingNoticeTpc_estop (h : EstopInv s) : AnswersHalted (execMarkingNoticeTpc s) := by
  unfold execMarkingNoticeTpc
  split
  · exact h
  · extract_lets hit s1
    exact EstopInv.of_view (s := s1) (h.of_view rfl)
      (foldl_keep estopView (fun t (e : TapeEntry) => withdraw e.entry.uid t) (fun _ _ => rfl) _ s1)

/-! ### The ask of the head -/

@[simp] theorem estopView_takeForHead (s : State) : estopView (takeForHead s) = estopView s := by
  unfold takeForHead
  split
  case h_1 t ht => exact Eq.trans (b := estopView t) rfl (estopView_take ht)
  case h_2 t e ht => exact (estopView_joinTape _ _).trans (Eq.trans (b := estopView t) rfl (estopView_take ht))

@[simp] theorem estopView_askPin (s : State) : estopView (askPin s) = estopView s := by
  unfold askPin
  split <;> simp

@[simp] theorem estopView_retakeAsk (s : State) : estopView (retakeAsk s) = estopView s := by
  unfold retakeAsk
  split <;> simp

/-! ### The head -/

/-- A head in motion says that the line is RELEASED. -/
theorem EstopInv.head_released (h : EstopInv s) (hi : s.hdc.head ≠ .idle) (hf : s.hdc.head ≠ .fault) :
    s.alc.estop = .released := by
  obtain ⟨-, -, -, hline⟩ := h
  cases he : s.alc.estop
  · rfl
  · obtain ⟨-, -, -, -, hhead⟩ := hline he
    exact absurd hhead (not_or.mpr ⟨hi, hf⟩)

/-- R89, R90: under the released line the head may go into a cycle's state with a cycle, or into homing. -/
theorem moveHead_estop (f : Hdc → Hdc) (h : EstopInv s) (hr : s.alc.estop = .released)
    (hf : (f s.hdc).head = .homing ∨ (f s.hdc).cycle.isSome = true) : EstopInv (s.updHdc f) := by
  obtain ⟨hlevel, hstep, -, -⟩ := h
  exact ⟨hlevel, LineInv.of_released hr ⟨hstep, .inr (.inr hf)⟩⟩

/-- R97, R100 to R102: the head may come to rest under any line. -/
theorem restHead_estop (f : Hdc → Hdc) (h : EstopInv s) (hf : (f s.hdc).head = .idle ∨ (f s.hdc).head = .fault) :
    EstopInv (s.updHdc f) := by
  obtain ⟨hlevel, hstep, -, hline⟩ := h
  refine ⟨hlevel, hstep, hf.imp_right .inl, fun he => ?_⟩
  obtain ⟨h1, h2, h3, h4, -⟩ := hline he
  exact ⟨h1, h2, h3, h4, hf⟩

theorem enterPhase_estop (p : HeadState) (h : EstopInv s) (hr : s.alc.estop = .released)
    (hc : s.hdc.cycle.isSome = true) : EstopInv (enterPhase p s) :=
  .updOut _ (moveHead_estop _ h hr (.inr hc))

/-- R91, R95, R103: a cycle starts at level RUN. -/
theorem startCycle_estop (c : HeadCycle) (h : EstopInv s) (hm : headMayCycle s = true) :
    EstopInv (enterPhase .cut (s.updHdc ({ · with cycle := some c }))) := by
  simp only [headMayCycle, Bool.and_eq_true, beq_iff_eq] at hm
  have hr := h.1.released (by rw [hm.1.2]; decide)
  exact enterPhase_estop .cut (moveHead_estop _ h hr (.inr rfl)) hr rfl

theorem headMayCycle_of_insert {e : TapeEntry} (h : insertMayStart s e = true) : headMayCycle s = true := by
  simp only [insertMayStart, Bool.and_eq_true] at h
  exact h.1.1.1.1.1

theorem insertCycleStart_estop (h : EstopInv s) : AnswersHalted (execInsertCycleStart s) := by
  unfold execInsertCycleStart
  split
  · exact h
  · split
    case isTrue hm =>
      have hmay := headMayCycle_of_insert hm
      split
      · exact startCycle_estop _ h hmay
      · simp only [headMayCycle, Bool.and_eq_true, beq_iff_eq] at hmay
        exact .updOut _ (moveHead_estop _ h (h.1.released (by rw [hmay.1.2]; decide)) (.inr rfl))
    case isFalse => exact h

theorem dumpCycleStart_estop (h : EstopInv s) : AnswersHalted (execDumpCycleStart s) := by
  unfold execDumpCycleStart
  split
  · exact h
  · split
    case isTrue hm =>
      simp only [Bool.and_eq_true] at hm
      exact startCycle_estop _ h hm.1.1
    case isFalse => exact h

theorem freeDumpCycleStart_estop (h : EstopInv s) : AnswersHalted (execFreeDumpCycleStart s) := by
  unfold execFreeDumpCycleStart
  split
  case isTrue hm => exact startCycle_estop _ h hm.2.1
  case isFalse => exact h

theorem homingStart_estop (h : EstopInv s) : AnswersHalted (execHomingStart s) := by
  unfold execHomingStart
  split
  case isTrue hm =>
    exact .updOut _ (.updOut _ (moveHead_estop _ h (h.1.released (by rw [hm.2]; decide)) (.inl rfl)))
  case isFalse => exact h

theorem axisInPosition_estop (axis : HeadAxis) (h : EstopInv s) : AnswersHalted (execAxisInPosition axis s) := by
  unfold execAxisInPosition
  split
  case h_1 c hhead hcycle =>
    split
    · split
      · have hr := h.head_released (by rw [hhead]; decide) (by rw [hhead]; decide)
        unfold axisReported
        extract_lets c1 s1
        have hc1 : s1.hdc.cycle.isSome = true := by cases axis <;> rfl
        have h1 : EstopInv s1 := moveHead_estop _ h hr (.inr (by cases axis <;> rfl))
        refine EstopInv.next ?_
        split
        · exact h1
        · exact enterPhase_estop .cut h1 hr hc1
      · exact h
    · exact h
  case h_2 => exact h

theorem failSetup_estop (h : EstopInv s) : EstopInv (failSetup s) :=
  EstopInv.of_view (.updOut _ (restHead_estop _ h (.inr rfl))) (estopView_retestFront _)

theorem spanFault_estop (h : EstopInv s) : AnswersHalted (execSpanFault s) := by
  unfold execSpanFault
  split
  · exact failSetup_estop (post_estop _ _ h)
  · exact h

/-- The head stands in a cycle, so the line is RELEASED. -/
theorem EstopInv.inCycle (h : EstopInv s) {p : HeadState} (hp : s.hdc.head = p) (h1 : p ≠ .idle) (h2 : p ≠ .fault)
    (h3 : p ≠ .homing) : s.alc.estop = .released ∧ s.hdc.cycle.isSome = true := by
  subst hp
  obtain ⟨-, -, hhead, -⟩ := id h
  refine ⟨h.head_released h1 h2, ?_⟩
  rcases hhead with hh | hh | hh | hh
  · exact absurd hh h1
  · exact absurd hh h2
  · exact absurd hh h3
  · exact hh

theorem cutDone_estop (h : EstopInv s) : AnswersHalted (execCutDone s) := by
  unfold execCutDone
  split
  case isTrue hp =>
    obtain ⟨hr, hc⟩ := h.inCycle hp nofun nofun nofun
    exact enterPhase_estop .form h hr hc
  case isFalse => exact h

theorem ejectDone_estop (h : EstopInv s) : AnswersHalted (execEjectDone s) := by
  unfold execEjectDone
  split
  case isTrue hp =>
    obtain ⟨hr, hc⟩ := h.inCycle hp nofun nofun nofun
    exact enterPhase_estop .retract h hr hc
  case isFalse => exact h

theorem turnToDump_estop (h : EstopInv s) (hr : s.alc.estop = .released) (hc : s.hdc.cycle.isSome = true) :
    EstopInv (turnToDump s) :=
  enterPhase_estop .eject (moveHead_estop _ h hr (.inr (by simpa using hc))) hr (by simpa using hc)

theorem driveTest_estop (e : TapeEntry) (h : EstopInv s) (hr : s.alc.estop = .released)
    (hc : s.hdc.cycle.isSome = true) : EstopInv (driveTest e s) := by
  unfold driveTest
  split
  · exact turnToDump_estop h hr hc
  · split
    · exact enterPhase_estop .drive (moveHead_estop _ h hr (.inr (by simpa using hc))) hr (by simpa using hc)
    · exact moveHead_estop _ h hr (.inr hc)

theorem formDone_estop (h : EstopInv s) : AnswersHalted (execFormDone s) := by
  unfold execFormDone
  split
  case h_1 hp hcycle =>
    obtain ⟨hr, hc⟩ := h.inCycle hp nofun nofun nofun
    split
    · exact driveTest_estop _ h hr hc
    · exact enterPhase_estop .eject h hr hc
  case h_2 => exact h

theorem markingNoticeHdc_estop (h : EstopInv s) : AnswersHalted (execMarkingNoticeHdc s) := by
  unfold execMarkingNoticeHdc
  split
  · exact h
  · extract_lets s1
    have h1 : EstopInv s1 := h.of_view rfl
    split
    case h_1 hp _ =>
      obtain ⟨hr, hc⟩ := h1.inCycle hp nofun nofun nofun
      split
      · exact turnToDump_estop h1 hr hc
      · exact h1
    case h_2 => exact h1

@[simp] theorem estopView_countOutcome (o : RecordOutcome) (s : State) : estopView (countOutcome o s) = estopView s := by
  cases o <;> rfl

@[simp] theorem estopView_finishNotice (o : RecordOutcome) (e : Entry) (s : State) :
    estopView (finishNotice o e s) = estopView s := by
  unfold finishNotice
  split <;> rfl

@[simp] theorem estopView_endCycleWith (o : RecordOutcome) (c : HeadCycle) (s : State) :
    estopView (endCycleWith o c s) = estopView s := by
  unfold endCycleWith finishEntry
  split
  · rfl
  · split <;> simp

theorem headUp_estop (h : EstopInv s) : AnswersHalted (execHeadUp s) := by
  unfold execHeadUp
  split
  · exact EstopInv.of_view (restHead_estop _ (h.of_view (estopView_endCycleWith _ _ s)) (.inl rfl)) (estopView_askPin _)
  · exact h

@[simp] theorem estopView_shutWindow (s : State) : estopView (shutWindow s) = estopView s := rfl

theorem abortCycle_estop (c : HeadCycle) (h : EstopInv s) : EstopInv (abortCycle c s) :=
  (restHead_estop ({ · with cycle := none, head := .fault, timer := .stopped })
    (h.of_view (t := endCycleWith (abortOutcome s.hdc.head c.kind) c (shutWindow s)) (by simp)) (.inr rfl)).of_view rfl

theorem failHoming_estop (h : EstopInv s) : EstopInv (failHoming s) := .updOut _ (restHead_estop _ h (.inr rfl))

theorem phaseTimeout_estop (h : EstopInv s) : AnswersHalted (execPhaseTimeout s) := by
  unfold execPhaseTimeout
  split
  · split
    · exact failHoming_estop (post_estop _ _ h)
    · split
      · exact abortCycle_estop _ (post_estop _ _ h)
      · exact h
    · exact h
  · exact h

theorem homeDone_estop (h : EstopInv s) : AnswersHalted (execHomeDone s) := by
  unfold execHomeDone
  split
  · exact EstopInv.of_view (restHead_estop _ h (.inl rfl)) (estopView_askPin _)
  · exact h

theorem skipButton_estop (h : EstopInv s) : AnswersHalted (execSkipButton s) := by
  unfold execSkipButton
  split
  · split
    · exact h.of_view (estopView_discardFront s)
    · exact h.of_view rfl
    · exact h
  · exact h

/-! ### The clinch signature -/

@[simp] theorem estopView_handVerdict (v : Verdict) (f : Option Features) (s : State) :
    estopView (handVerdict v f s) = estopView s := by
  unfold handVerdict
  simp [estopView]

/-- R111: what CSU's own records, the hand-over of a verdict and the posts of a judgement keep, the end of a window keeps. -/
theorem closeWindow_inv {P : State → Prop} (hcsu : ∀ f t, P t → P (t.updCsu f)) (hshut : ∀ t, P t → P (shutWindow t))
    (hhand : ∀ v f t, P t → P (handVerdict v f t)) (hpost : ∀ k x t, P t → P (post k x t))
    (hfault : ∀ c n t, P t → P (postClinchFault c n t)) (hreject : ∀ p n t, P t → P (rejectImage p n t))
    (w : SampleWindow) (h : P s) : P (closeWindow w s) := by
  obtain ⟨v, last, f, heq⟩ := closeWindow_eq w s
  rw [heq]
  have hworn : ∀ m t, P t → P (wearOf m v w t) := by
    intro m t ht
    unfold wearOf wearUpdate
    split
    · split
      · simp only []
        split
        · exact hpost _ _ _ (hcsu _ _ ht)
        · exact hcsu _ _ ht
      · exact ht
    · exact ht
  have hpolicy : ∀ t, P t → P (actPolicy w t) := by
    intro t ht
    unfold actPolicy
    split
    · exact hfault _ _ _ ht
    · exact hfault _ _ _ ht
    · exact hreject _ _ _ ht
  have hrepeat : ∀ t, P t → P (repeatTest w.profileNo t) := by
    intro t ht
    unfold repeatTest
    split
    · exact hpost _ _ _ (hcsu _ _ ht)
    · exact ht
  have hmeasured := hworn (if w.samples.length < 5 then none else some (measure w)) _
    (hcsu ({ · with last := last }) _ (hhand v f _ (hshut _ h)))
  unfold handleVerdict
  split
  · exact hcsu _ _ hmeasured
  · exact hmeasured
  · refine hrepeat _ (hpolicy _ ?_)
    split
    · exact hpost _ _ _ (hcsu _ _ hmeasured)
    · exact hcsu _ _ hmeasured

theorem closeWindow_estop (w : SampleWindow) (h : EstopInv s) : EstopInv (closeWindow w s) :=
  closeWindow_inv (fun _ _ h => h.of_view rfl) (fun _ h => h.of_view rfl) (fun _ _ _ h => h.of_view (by simp))
    (fun _ _ _ h => post_estop _ _ h) (fun _ _ _ h => postClinchFault_estop _ _ h)
    (fun _ _ _ h => rejectImage_estop _ _ h) w h

/-- R111: the end of a window leaves the line as it is, and a cycle where one is. -/
theorem closeWindow_cycle (w : SampleWindow) (h : s.alc.estop = .released ∧ s.hdc.cycle.isSome = true) :
    (closeWindow w s).alc.estop = .released ∧ (closeWindow w s).hdc.cycle.isSome = true := by
  refine closeWindow_inv (P := fun t => t.alc.estop = .released ∧ t.hdc.cycle.isSome = true) (fun _ _ h => h)
    (fun _ h => h) (fun v f t h => ?_) (fun k x t h => ?_) (fun c n t h => ?_) (fun p n t h => ?_) w h
  · simpa [handVerdict] using h
  · simpa using h
  · simpa using h
  · refine ⟨by simpa using h.1, ?_⟩
    unfold rejectImage
    split
    · rw [(post_frame _ _ _).2.2.2.2.1]
      split
      · exact h.2
      · exact (congrArg EstopView.inCycle (estopView_markImage n .rejected t)).trans h.2
    · exact h.2

theorem forceSample_estop (code : BitVec 12) (h : EstopInv s) : AnswersHalted (execForceSample code s) := by
  unfold execForceSample
  split
  · exact h
  · extract_lets w1 s1
    have h1 : EstopInv s1 := h.of_view rfl
    refine EstopInv.next ?_
    split
    · exact closeWindow_estop w1 h1
    · exact h1

theorem silenceTimeout_estop (h : EstopInv s) : AnswersHalted (execSilenceTimeout s) := by
  unfold execSilenceTimeout
  split
  · exact h
  · refine EstopInv.next ?_
    split
    · exact closeWindow_estop _ h
    · exact h

theorem clinchDone_estop (h : EstopInv s) : AnswersHalted (execClinchDone s) := by
  unfold execClinchDone
  split
  case isTrue hp =>
    have hc := h.inCycle hp nofun nofun nofun
    unfold closeIfOpen
    split
    · exact enterPhase_estop .retract h hc.1 hc.2
    · obtain ⟨hr, hcycle⟩ := closeWindow_cycle _ hc
      exact enterPhase_estop .retract (closeWindow_estop _ h) hr hcycle
  case isFalse => exact h

@[simp] theorem estopView_clinchBegin (e : TapeEntry) (s : State) : estopView (clinchBegin e s) = estopView s := by
  unfold clinchBegin
  split
  · exact estopView_handVerdict _ _ s
  · split <;> rfl

theorem driveDone_estop (h : EstopInv s) : AnswersHalted (execDriveDone s) := by
  unfold execDriveDone
  split
  case h_1 hp _ =>
    split
    · obtain ⟨hr, hc⟩ := h.inCycle hp nofun nofun nofun
      exact (enterPhase_estop .clinch h hr hc).of_view ((estopView_clinchBegin _ _).trans rfl)
    · exact h
  case h_2 => exact h

/-! ### The handler and the panel -/

/-- A handler operation that is not RUNNING may stand under any line. -/
theorem setHandler_estop (f : Tbc → Tbc) (hf : (f s.tbc).handler.map HandlerOperation.phase ≠ some .running)
    (hm : (f s.tbc).move = s.tbc.move) (h : EstopInv s) : EstopInv (s.updTbc f) := by
  obtain ⟨hlevel, hstep, hhead, hline⟩ := h
  refine ⟨hlevel, hstep, hhead, fun he => ?_⟩
  obtain ⟨h1, h2, -, h4, h5⟩ := hline he
  exact ⟨h1, h2, hf, hm.trans h4, h5⟩

/-- Under the released line TBC may do as it will. -/
theorem updTbc_estop (f : Tbc → Tbc) (hr : s.alc.estop = .released) (h : EstopInv s) : EstopInv (s.updTbc f) := by
  obtain ⟨hlevel, hstep, hhead, -⟩ := h
  exact ⟨hlevel, LineInv.of_released hr ⟨hstep, hhead⟩⟩

/-- R128: what is commanded under the asserted line is SUSPENDED. -/
theorem commandHandler_estop (op : HandlerOp) (h : EstopInv s) : EstopInv (commandHandler op s) := by
  unfold commandHandler
  simp only []
  split
  · exact setHandler_estop _ (by simp) rfl (h.of_view rfl)
  case isFalse he =>
    refine updTbc_estop _ ?_ (h.of_view rfl)
    cases hl : s.alc.estop
    · exact hl
    · exact absurd hl he

theorem handlerTimeout_estop (h : EstopInv s) : AnswersHalted (execHandlerTimeout s) := by
  unfold execHandlerTimeout
  split
  · split
    · exact post_estop _ _ (.updOut _ (setHandler_estop _ (by simp) rfl h))
    · exact h
  · exact h

theorem handlerRestart_estop (h : EstopInv s) : AnswersHalted (execHandlerRestart s) := by
  unfold execHandlerRestart
  split
  case isTrue hr =>
    split
    · exact EstopInv.updOut _ (updTbc_estop _ hr.2 h)
    · split
      · exact commandHandler_estop _ h
      · exact h
    · exact h
  case isFalse => exact h

theorem endHandler_estop (p : PanelState) (h : EstopInv s) : EstopInv (endHandler p s) :=
  setHandler_estop _ (by simp) rfl h

theorem clamped_estop (h : EstopInv s) : AnswersHalted (execClamped s) := by
  unfold execClamped
  split
  · exact endHandler_estop _ h
  · exact h

theorem released_estop (h : EstopInv s) : AnswersHalted (execReleased s) := by
  unfold execReleased
  split
  · exact endHandler_estop _ h
  · exact h

theorem loadStart_estop (h : EstopInv s) : AnswersHalted (execLoadStart s) := by
  unfold execLoadStart
  split
  · refine EstopInv.of_view (commandHandler_estop .load (s := s.updTbc _) ?_) (estopView_retakeAsk _)
    exact h.of_view rfl
  · exact h

theorem unloadStart_estop (h : EstopInv s) : AnswersHalted (execUnloadStart s) := by
  unfold execUnloadStart
  split
  · exact commandHandler_estop .release (h.of_view rfl)
  · exact h

/-! ### Moves -/

theorem startMove_estop (k : MoveKind) (q : Int × Int) (hr : s.alc.estop = .released) (h : EstopInv s) :
    EstopInv (startMove k q s) := .updOut _ (updTbc_estop _ hr h)

theorem surveyMoveStart_estop (h : EstopInv s) : AnswersHalted (execSurveyMoveStart s) := by
  unfold execSurveyMoveStart
  split
  · split
    case isTrue hm =>
      obtain ⟨-, -, -, -, hr, -⟩ := hm
      exact startMove_estop _ _ hr h
    case isFalse => exact h
  · exact h

theorem insertMoveStart_estop (h : EstopInv s) : AnswersHalted (execInsertMoveStart s) := by
  unfold execInsertMoveStart
  split
  · split
    case isTrue hm =>
      obtain ⟨-, -, -, -, hr, -⟩ := hm
      exact startMove_estop _ _ hr h
    case isFalse => exact h
  · exact h

@[simp] theorem estopView_surveyNext (n : Nat) (s : State) : estopView (surveyNext n s) = estopView s := by
  unfold surveyNext
  simp only [estopView, updTbc_tbc]
  split <;> rfl

theorem readMark_estop (present : Bool) (n : Nat) (h : EstopInv s) : EstopInv (readMark present n s) := by
  unfold readMark
  refine EstopInv.of_view ?_ (estopView_surveyNext n _)
  split
  · refine post_estop _ _ ?_
    split
    · exact h
    · exact h.of_view (estopView_markImage _ _ s)
  · exact h

theorem reportInPosition_estop (uid : Nat) (h : EstopInv s) : EstopInv (reportInPosition uid s) := by
  unfold reportInPosition
  extract_lets s1
  have h1 : EstopInv s1 := h.of_view rfl
  split
  case h_1 hp _ =>
    split
    · obtain ⟨hr, hc⟩ := h1.inCycle hp nofun nofun nofun
      exact driveTest_estop _ h1 hr hc
    · exact h1
  case h_2 => exact h1

theorem endMove_estop (h : EstopInv s) : EstopInv (s.updTbc ({ · with move := none, moveTimer := .stopped })) := by
  obtain ⟨hlevel, hstep, hhead, hline⟩ := h
  refine ⟨hlevel, hstep, hhead, fun he => ?_⟩
  obtain ⟨h1, h2, h3, -, h5⟩ := hline he
  exact ⟨h1, h2, h3, rfl, h5⟩

theorem inPosition_estop (present : Bool) (h : EstopInv s) : AnswersHalted (execInPosition present s) := by
  unfold execInPosition
  split
  · exact h
  · extract_lets s1
    have h1 : EstopInv s1 := endMove_estop h
    split
    · exact readMark_estop _ _ (h1.of_view rfl)
    · split
      · exact reportInPosition_estop _ h1
      · exact h1

theorem moveTimeout_estop (h : EstopInv s) : AnswersHalted (execMoveTimeout s) := by
  unfold execMoveTimeout
  split
  · exact post_estop _ _ (haltTable_estop h)
  · exact h

theorem limitActive_estop (h : EstopInv s) : AnswersHalted (execLimitActive s) := by
  unfold execLimitActive
  split
  · exact post_estop _ _ (haltTable_estop (h.of_view rfl))
  · exact h

end Sys2Proof.Machine
end

section
/-! PROOF. Run levels, the E-stop line, loads, requests, the link and the resets keep EstopInv; so does every step. -/

namespace Sys2Proof.Machine

variable {s : State}

/-! ### Run levels, clearing (R146, R149 to R153) -/

/-- A new requested level, told. -/
theorem recompute_updAlc_estop (f : Alc → Alc) (h : EstopInv s) (hline : (f s.alc).estop = s.alc.estop) :
    EstopInv (recompute (s.updAlc f)) := recompute_estop (LineInv.updAlc h.2 hline)

theorem takeRun_estop (h : EstopInv s) : EstopInv (takeRun s) := by
  have htold := recompute_updAlc_estop ({ · with requested := .run }) h rfl
  unfold takeRun idleToRunning
  split
  · exact htold.of_view rfl
  · exact htold

theorem takeHold_estop (h : EstopInv s) : EstopInv (takeHold s) := recompute_updAlc_estop _ h rfl

theorem takeStop_estop (h : EstopInv s) : EstopInv (takeStop s) := recompute_updAlc_estop _ h rfl

theorem resumeButton_estop (h : EstopInv s) : AnswersHalted (execResumeButton s) := by
  unfold execResumeButton
  refine EstopInv.next ?_
  split
  · exact takeRun_estop h
  · exact h

theorem hornOff_estop (h : EstopInv s) : EstopInv (s.updAlc ({ · with horn := false })) :=
  ⟨h.1.updAlc (fun c => by cases c <;> rfl) rfl rfl rfl ⟨rfl, rfl, rfl⟩, LineInv.updAlc h.2 rfl⟩

theorem clearEntry_estop (c : ChannelId) (seq : Word16) (h : EstopInv s) : EstopInv (clearEntry c seq s) := by
  have hcleared := recompute_updAlc_estop (·.remove c seq) h (by simp [Alc.remove])
  unfold clearEntry
  simp only []
  split
  · unfold repostEstop
    split
    · exact post_estop _ _ hcleared
    · exact hcleared
  · exact hcleared

theorem clearButton_estop (h : EstopInv s) : AnswersHalted (execClearButton s) := by
  unfold execClearButton
  simp only []
  split
  · exact hornOff_estop h
  · split
    · exact clearEntry_estop _ _ (hornOff_estop h)
    · exact hornOff_estop h

/-! ### The E-stop line (R145) -/

theorem updAlc_postKept (u : State) : PostKept (fun t =>
    t.alc.estop = .asserted ∧ estopView t = estopView (u.updAlc (fun _ => t.alc))) where
  updAlc := fun {t f} ⟨he, hv⟩ hf => ⟨hf.trans he, congrArg (fun v : EstopView => { v with alc := f t.alc }) hv⟩
  updLpu := fun _ h => h
  closeSweep := fun r ⟨he, hv⟩ => ⟨by simpa using he, by simpa using hv⟩
  recompute := by
    rintro s ⟨he, hv⟩
    refine ⟨by simpa using he, ?_⟩
    rcases recompute_leaves (s := s) with ⟨-, -, hr⟩ | hkeep
    · rw [he] at hr
      contradiction
    · rw [hkeep]
      exact congrArg (fun v : EstopView => { v with alc := (recompute s).alc }) hv

/-- The state in which ESTOP has been posted and the level told, before the blocks act on the line. -/
def estopTold (s : State) : State := recompute (post .estop none (s.updAlc ({ · with estop := .asserted })))

/-- R145, R147: the post and the level it gives touch nothing the line is about to halt. -/
theorem estopTold_view (s : State) : (estopTold s).alc.estop = .asserted
    ∧ estopView (estopTold s) = estopView (s.updAlc (fun _ => (estopTold s).alc)) := by
  have hP := updAlc_postKept s
  exact hP.recompute (hP.post .estop none ⟨rfl, rfl⟩)

theorem estopTold_levels (s : State) : LevelInv (estopTold s) := recompute_levels _

/-- R44: a step's timer is suspended. -/
def EstopView.haltStep (v : EstopView) : EstopView :=
  { v with stepTimer := if v.inStep then v.stepTimer.suspend else v.stepTimer }

/-- A RUNNING transfer is SUSPENDED; any other stays as it is. -/
def suspendedTransfer : Option Transfer → Option Transfer
  | some ⟨op, .running⟩ => some ⟨op, .suspended⟩
  | other => other

theorem suspendedTransfer_phase (x : Option Transfer) : (suspendedTransfer x).map Transfer.phase ≠ some .running := by
  rcases x with _ | ⟨op, _ | _ | _ | _⟩ <;> simp [suspendedTransfer]

/-- A RUNNING handler operation is SUSPENDED; any other stays as it is. -/
def suspendedHandler : Option HandlerOperation → Option HandlerOperation
  | some ⟨op, .running⟩ => some ⟨op, .suspended⟩
  | other => other

theorem suspendedHandler_phase (x : Option HandlerOperation) :
    (suspendedHandler x).map HandlerOperation.phase ≠ some .running := by
  rcases x with _ | ⟨op, _ | _ | _⟩ <;> simp [suspendedHandler]

/-- R80: a RUNNING transfer is suspended with its time. -/
def EstopView.haltTransfer (v : EstopView) : EstopView :=
  { v with
    transfer := suspendedTransfer v.transfer
    timer := if v.transfer.map Transfer.phase = some .running then v.timer.suspend else v.timer }

/-- R128, R136: the move ends and a RUNNING handler operation is suspended with its time. -/
def EstopView.haltTable (v : EstopView) : EstopView :=
  { v with
    move := none
    handler := suspendedHandler v.handler
    handlerTimer := if v.handler.map HandlerOperation.phase = some .running then v.handlerTimer.suspend
      else v.handlerTimer }

theorem estopStep_view (u : State) : estopView (estopStep u) = (estopView u).haltStep := by
  unfold estopStep
  split
  case isTrue h => simp [estopView, EstopView.haltStep, h]
  case isFalse h => simp [estopView, EstopView.haltStep, h]

theorem estopTransfer_view (u : State) : estopView (estopTransfer u) = (estopView u).haltTransfer := by
  unfold estopTransfer
  split
  case h_1 op ht =>
    rw [estopView_driveTransfer]
    simp [estopView, EstopView.haltTransfer, suspendedTransfer, ht]
  case h_2 hn =>
    rcases ht : u.tpc.transfer with _ | ⟨op, _ | _ | _ | _⟩
    case some.running => exact absurd ht (hn op)
    all_goals simp [estopView, EstopView.haltTransfer, suspendedTransfer, ht]

theorem estopStep_place {u : State} (h : PlaceInv u) : PlaceInv (estopStep u) := by
  unfold estopStep
  split
  case isTrue hc => exact ⟨fun hne => absurd hc hne, h.2⟩
  case isFalse => exact h

theorem estopTransfer_place {u : State} (h : PlaceInv u) : PlaceInv (estopTransfer u) := by
  obtain ⟨x, t, o, heq⟩ := estopTransfer_shape u
  rw [heq]
  exact h

theorem failSetup_view (u : State) : estopView (failSetup u) = { estopView u with head := .fault, inCycle := false } :=
  estopView_retestFront _

theorem abortCycle_view (c : HeadCycle) (u : State) :
    estopView (abortCycle c u) = { estopView u with head := .fault, inCycle := false } := by
  have hended := estopView_endCycleWith (abortOutcome u.hdc.head c.kind) c (shutWindow u)
  exact congrArg (fun v : EstopView => { v with head := .fault, inCycle := false }) hended

/-- R100 to R102: the head comes to rest. -/
theorem estopHead_view {u : State} (h : PlaceInv u) : ∃ p b, (p = .idle ∨ p = .fault)
    ∧ estopView (estopHead u) = { estopView u with head := p, inCycle := b } := by
  obtain ⟨-, hhead⟩ := h
  unfold estopHead
  split
  · exact ⟨_, _, .inr rfl, failSetup_view u⟩
  · exact ⟨.fault, u.hdc.cycle.isSome, .inr rfl, rfl⟩
  case h_3 c hcycle hsetup hhoming =>
    split
    case isTrue => exact ⟨_, _, .inr rfl, abortCycle_view c u⟩
    case isFalse hp =>
      refine ⟨u.hdc.head, u.hdc.cycle.isSome, ?_, rfl⟩
      cases hh : u.hdc.head <;> simp_all [HeadState.camPhase]
  case h_4 hcycle hsetup hhoming =>
    refine ⟨u.hdc.head, u.hdc.cycle.isSome, ?_, rfl⟩
    rcases hhead with hh | hh | hh | hh
    · exact .inl hh
    · exact .inr hh
    · exact absurd hh hhoming
    · rw [hcycle] at hh
      contradiction

theorem estopTable_view (u : State) : estopView (estopTable u) = (estopView u).haltTable := by
  have hhalt : (haltTable u).tbc.handler = u.tbc.handler := rfl
  unfold estopTable
  simp only [hhalt]
  split
  case h_1 op ht => simp [estopView, EstopView.haltTable, suspendedHandler, ht, haltTable]
  case h_2 hn =>
    rcases ht : u.tbc.handler with _ | ⟨op, _ | _ | _⟩
    case some.running => exact absurd ht (hn op)
    all_goals simp [estopView, EstopView.haltTable, suspendedHandler, ht, haltTable]

/-- The state that ESTOP_ASSERTED answers. -/
def estopped (s : State) : State := estopTable (estopHead (estopTransfer (estopStep (estopTold s))))

theorem exec_estopAsserted (h : s.alc.estop = .released) : exec .estopAsserted s = .next (estopped s) := if_pos h

/-- R145: what stands once every block has acted on the line. -/
theorem estopped_view (h : PlaceInv s) : ∃ p b, (p = .idle ∨ p = .fault) ∧ estopView (estopped s) =
    { (estopView s).haltStep.haltTransfer.haltTable with alc := (estopTold s).alc, head := p, inCycle := b } := by
  have htold := (estopTold_view s).2
  have hplace : PlaceInv (estopTold s) := PlaceInv.of_view (s := s.updAlc _) h htold
  have hmoved : estopView (estopTransfer (estopStep (estopTold s))) =
      { (estopView s).haltStep.haltTransfer with alc := (estopTold s).alc } := by
    rw [estopTransfer_view, estopStep_view, htold]
    rfl
  obtain ⟨p, b, hp, hhead⟩ := estopHead_view (estopTransfer_place (estopStep_place hplace))
  refine ⟨p, b, hp, ?_⟩
  unfold estopped
  rw [estopTable_view, hhead, hmoved]
  rfl

/-- R44, R80, R100 to R102, R128, R136: everything the line halts stands still. -/
theorem estopped_estop (h : EstopInv s) : EstopInv (estopped s) ∧ StoppedByEstop (estopped s) := by
  obtain ⟨hstep, hhead, -⟩ := h.2
  obtain ⟨p, b, hp, hv⟩ := estopped_view ⟨hstep, hhead⟩
  have halc : (estopped s).alc = (estopTold s).alc := congrArg EstopView.alc hv
  have hcycle : (estopped s).csq.cycle = .step ↔ s.csq.cycle = .step := by
    rw [← beq_iff_eq, ← beq_iff_eq (b := ChainCycle.step) (a := s.csq.cycle)]
    exact Eq.congr_left (congrArg EstopView.inStep hv)
  have htimer : (estopped s).csq.stepTimer =
      if s.csq.cycle == .step then s.csq.stepTimer.suspend else s.csq.stepTimer := congrArg EstopView.stepTimer hv
  have hhead' : (estopped s).hdc.head = p := congrArg EstopView.head hv
  have hstopped : StoppedByEstop (estopped s) := by
    refine ⟨?_, ?_, ?_, congrArg EstopView.move hv, by rw [hhead']; exact hp⟩
    · rw [htimer]
      by_cases hc : s.csq.cycle = .step
      · rw [if_pos (beq_iff_eq.mpr hc)]
        cases s.csq.stepTimer <;> rfl
      · rw [if_neg (by simpa using hc), hstep hc]
        rfl
    · rw [show (estopped s).tpc.transfer = suspendedTransfer s.tpc.transfer from congrArg EstopView.transfer hv]
      exact suspendedTransfer_phase _
    · rw [show (estopped s).tbc.handler = suspendedHandler s.tbc.handler from congrArg EstopView.handler hv]
      exact suspendedHandler_phase _
  refine ⟨⟨(estopTold_levels s).of_alc halc, fun hne => ?_, ?_, fun _ => hstopped⟩, hstopped⟩
  · have hc := mt hcycle.mpr hne
    rw [htimer, if_neg (by simpa using hc), hstep hc]
  · rw [hhead']
    exact hp.imp_right .inl

theorem estopAsserted_estop (h : EstopInv s) : AnswersHalted (execEstopAsserted s) := by
  unfold execEstopAsserted
  split
  · exact (estopped_estop h).1
  · exact h

/-- R145: on a released line nothing is suspended any more by right. -/
theorem estopReleased_estop (h : EstopInv s) : AnswersHalted (execEstopReleased s) :=
  recompute_estop (LineInv.of_released rfl ⟨h.2.1, h.2.2.1⟩)

theorem tick_isRunning (t : Timer) : t.tick.isRunning = t.isRunning := by cases t <;> rfl

theorem millisecondTick_estop (h : EstopInv s) : AnswersHalted (execMillisecondTick s) := by
  obtain ⟨hlevel, hstep, hhead, hline⟩ := h
  refine ⟨hlevel.updAlc (f := fun a => { a with ms := a.ms + 1 }) (fun c => by cases c <;> rfl) rfl rfl rfl ⟨rfl, rfl, rfl⟩, ?_, hhead, fun he => ?_⟩
  · intro hc
    show s.csq.stepTimer.tick = .stopped
    rw [hstep hc]
    rfl
  · obtain ⟨h1, hrest⟩ := hline he
    exact ⟨(tick_isRunning _).trans h1, hrest⟩

/-! ### Table loads, the constants and the mode -/

@[simp] theorem estopView_takeUpMode (s : State) : estopView (takeUpMode s) = estopView s := by
  unfold takeUpMode
  simp only []
  split
  · rfl
  · split <;> rfl

@[simp] theorem estopView_writeConstants (k : MachineConstants) (s : State) :
    estopView (writeConstants k s) = estopView s := by
  unfold writeConstants
  extract_lets s1 s2
  have h2 : estopView s2 = estopView s := by
    simp only [s2]
    split <;> rfl
  split
  · exact h2
  · exact (estopView_takeUpMode s2).trans h2

/-- An act that keeps EstopInv. -/
def Act.Halted (act : Act) : Prop := ∀ s, EstopInv s → EstopInv (act s).1

theorem Act.halted_of_view {act : Act} (h : ∀ s, estopView (act s).1 = estopView s) : act.Halted :=
  fun s hs => hs.of_view (h s)

theorem loadTable_halted (t : TableName) (count : Byte) (body : List Byte) (k : LoadCheck) (write : State → State)
    (h : EstopInv s → EstopInv (write s)) (hs : EstopInv s) : EstopInv (loadTable t count body k write s).1 := by
  unfold loadTable
  split
  · exact hs
  · split
    · exact hs
    · split
      · exact hs
      · exact hs
      · exact h hs
      · exact hs

theorem loadComponent_halted (first : Word16) (count : Byte) (body : List Byte) :
    Act.Halted (loadComponent first count body) := fun _ hs =>
  loadTable_halted _ _ _ _ _ (fun h => h.of_view (estopView_retakeAsk _)) hs

theorem loadSpan_halted (first : Word16) (count : Byte) (body : List Byte) :
    Act.Halted (loadSpan first count body) := fun _ hs => loadTable_halted _ _ _ _ _ (fun h => h.of_view rfl) hs

theorem loadStationMap_halted (first : Word16) (count : Byte) (body : List Byte) :
    Act.Halted (loadStationMap first count body) := fun _ hs => loadTable_halted _ _ _ _ _ (fun h => h.of_view rfl) hs

theorem loadProfile_halted (first : Word16) (count : Byte) (body : List Byte) :
    Act.Halted (loadProfile first count body) := fun _ hs => loadTable_halted _ _ _ _ _ (fun h => h.of_view rfl) hs

theorem loadFilterSet_halted (first : Word16) (count : Byte) (body : List Byte) :
    Act.Halted (loadFilterSet first count body) := fun _ hs => loadTable_halted _ _ _ _ _ (fun h => h.of_view rfl) hs

theorem loadPanelPattern_halted (first : Word16) (count : Byte) (body : List Byte) :
    Act.Halted (loadPanelPattern first count body) := fun _ hs => loadTable_halted _ _ _ _ _ (fun h => h.of_view rfl) hs

theorem loadAlarmMap_halted (first : Word16) (count : Byte) (body : List Byte) :
    Act.Halted (loadAlarmMap first count body) := fun _ hs => loadTable_halted _ _ _ _ _ (fun h =>
  ⟨h.1.updAlc (fun c => by cases c <;> rfl) rfl rfl rfl ⟨rfl, rfl, rfl⟩, LineInv.updAlc h.2 rfl⟩) hs

theorem loadConstants_halted (first : Word16) (count : Byte) (body : List Byte) :
    Act.Halted (loadConstants first count body) := fun _ hs =>
  loadTable_halted _ _ _ _ _ (fun h => h.of_view (estopView_writeConstants _ _)) hs

theorem loadReadOnly_halted (t : TableName) (count : Byte) (body : List Byte) :
    Act.Halted (loadReadOnly t count body) := fun _ hs => by
  unfold loadReadOnly
  split <;> exact hs

/-! ### The acts of the requests -/

theorem estopView_placeRecords (rs : List StreamRecord) (s : State) : estopView (placeRecords rs s).1 = estopView s := by
  induction rs generalizing s with
  | nil => rfl
  | cons r rs ih =>
    unfold placeRecords
    split
    · exact ih _
    · rfl

theorem actPlace_halted (payload : List Byte) : (actPlace payload).Halted := Act.halted_of_view fun s => by
  unfold actPlace
  split
  · rfl
  · split
    · rfl
    · simp only []
      split
      · exact estopView_placeRecords _ s
      · exact (estopView_retakeAsk _).trans (estopView_placeRecords _ s)

theorem actStationFlags_halted (station clear set : Byte) : (actStationFlags station clear set).Halted :=
  Act.halted_of_view fun s => by
    unfold actStationFlags
    split
    · rfl
    · exact foldl_keep estopView (fun t n => applyStationFlags clear set n t)
        (fun t n => estopView_applyStationFlags clear set n t) _ s

theorem actRun_halted : actRun.Halted := fun s hs => by
  unfold actRun
  split
  · exact takeRun_estop hs
  · exact hs

theorem actPanelLoad_halted : actPanelLoad.Halted := Act.halted_of_view fun s => by
  unfold actPanelLoad
  split <;> rfl

theorem actFlush_halted : actFlush.Halted := Act.halted_of_view fun s => by
  refine Eq.trans (b := estopView (s.pin.queue.foldl (fun t r => flushRecord r t) s)) rfl ?_
  exact foldl_keep estopView (fun t r => flushRecord r t) (fun t r => by cases r <;> rfl) _ s

theorem actSweep_halted (payload : List Byte) : (actSweep payload).Halted := Act.halted_of_view fun s => by
  unfold actSweep
  split
  · rfl
  · split <;> rfl

theorem actSweepResult_halted : actSweepResult.Halted := Act.halted_of_view fun s => by
  unfold actSweepResult
  split
  · rfl
  · split <;> rfl

theorem actTapeClear_halted : actTapeClear.Halted := fun s hs => by
  unfold actTapeClear clearTape
  split
  · exact hs
  · extract_lets s1 s2
    have h1 : estopView s1 = estopView s := foldl_keep estopView (fun t e => loseEntry e t) (fun _ _ => rfl) _ s
    have h2 : EstopInv (heldTest s2) := hs.of_view ((estopView_heldTest _).trans (Eq.trans (b := estopView s1) rfl h1))
    exact (commandWaiting_estop h2).of_view (estopView_askPin _)

theorem actMode_halted (value : Byte) : (actMode value).Halted := Act.halted_of_view fun s => by
  unfold actMode
  split
  · rfl
  · split
    · rfl
    · split
      · exact estopView_writeConstants _ _
      · rfl

theorem actAlarmRead_halted (channel : Byte) : (actAlarmRead channel).Halted := Act.halted_of_view fun s => by
  unfold actAlarmRead
  split <;> rfl

theorem actAlarmClear_halted (channel : Byte) (seq : Word16) : (actAlarmClear channel seq).Halted := fun s hs => by
  unfold actAlarmClear
  split
  · exact hs
  · split
    · exact hs
    · split
      · exact clearEntry_estop _ _ hs
      · exact hs

theorem readTable_halted (t : TableName) (first : Word16) (count : Byte) (right : Bool) (extra entries : List Byte)
    (hs : EstopInv s) : EstopInv (readTable t first count right extra entries s).1 := by
  unfold readTable
  split
  · exact hs
  · simp only []
    split <;> exact hs

theorem refused_halted (code : ResultCode) (data : List Byte) : Act.Halted (fun s => (s, code, data)) := fun _ hs => hs

theorem noPayload_halted {act : Act} (h : act.Halted) (payload : List Byte) : (noPayload act payload).Halted := by
  unfold noPayload
  split
  · exact h
  · exact refused_halted _ _

end Sys2Proof.Machine
end

section
/-! PROOF. The link, the resets and every command keep EstopInv (Sys2Proof/Machine/Link, Reset, Dispatch). -/

namespace Sys2Proof.Machine

variable {s : State}

/-! ### The acts by their kind (R164) -/

theorem actTableLoad_halted (payload : List Byte) : (actTableLoad payload).Halted := by
  unfold actTableLoad
  split
  case h_2 => exact refused_halted _ _
  case h_1 f1 f0 count body =>
    extract_lets first
    split
    · exact refused_halted _ _
    · exact loadComponent_halted first count body
    · exact loadSpan_halted first count body
    · exact loadStationMap_halted first count body
    · exact loadProfile_halted first count body
    · exact loadFilterSet_halted first count body
    · exact loadPanelPattern_halted first count body
    · exact loadAlarmMap_halted first count body
    · exact loadConstants_halted first count body
    · exact loadReadOnly_halted _ count body

theorem actTableRead_halted (payload : List Byte) : (actTableRead payload).Halted := by
  unfold actTableRead
  split
  case h_2 => exact refused_halted _ _
  case h_1 t f1 f0 count =>
    extract_lets first
    split
    · exact refused_halted _ _
    all_goals exact fun s hs => readTable_halted _ first count _ _ _ hs

theorem actHold_halted : actHold.Halted := fun _ hs => takeHold_estop hs

theorem actStop_halted : actStop.Halted := fun _ hs => takeStop_estop hs

theorem actHornOff_halted : actHornOff.Halted := fun _ hs => hornOff_estop hs

theorem actStatus_halted : actStatus.Halted := fun _ hs => hs

theorem readRing_halted : Act.Halted readRing := fun _ hs => hs.of_view rfl

theorem actRecordReadNext_halted : actRecordReadNext.Halted := fun _ hs => hs.of_view rfl

theorem actReset_halted : actReset.Halted := fun _ hs => hs.of_view rfl

theorem actOf_halted (kind : Byte) (payload : List Byte) : (actOf kind payload).Halted := by
  unfold actOf
  split
  · exact actPlace_halted _
  · exact actTableLoad_halted _
  · exact actTableRead_halted _
  · split
    · exact actStationFlags_halted _ _ _
    · exact refused_halted _ _
  · exact noPayload_halted actRun_halted _
  · exact noPayload_halted actHold_halted _
  · exact noPayload_halted actStop_halted _
  · exact noPayload_halted actHornOff_halted _
  · exact noPayload_halted actPanelLoad_halted _
  · exact noPayload_halted actFlush_halted _
  · exact actSweep_halted _
  · exact noPayload_halted actSweepResult_halted _
  · exact noPayload_halted actTapeClear_halted _
  · split
    · exact actMode_halted _
    · exact refused_halted _ _
  · split
    · exact actAlarmRead_halted _
    · exact refused_halted _ _
  · split
    · exact actAlarmClear_halted _ _
    · exact refused_halted _ _
  · exact noPayload_halted actStatus_halted _
  · exact noPayload_halted readRing_halted _
  · exact noPayload_halted actRecordReadNext_halted _
  · exact noPayload_halted actReset_halted _
  · exact refused_halted _ _

theorem request_estop (kind tag : Byte) {act : Act} (h : act.Halted) (hs : EstopInv s) :
    AnswersHalted (.next (request kind tag act s)) := by
  unfold request
  refine EstopInv.next ?_
  split
  · exact hs.of_view rfl
  · exact (h _ (hs.of_view (t := s.updLpu _) rfl)).of_view rfl

/-! ### Frames (R157 to R163) -/

theorem receiveError_estop (p : Port) (e : ReceiveError) (hs : EstopInv s) : EstopInv (receiveError p e s) := by
  unfold receiveError
  extract_lets s1
  have h1 : EstopInv s1 := hs.of_view rfl
  split
  · exact post_estop _ _ h1
  · exact h1

theorem dispatchFrame_estop (f : Frame) (hs : EstopInv s) : EstopInv (dispatchFrame f s) := by
  unfold dispatchFrame
  split
  · exact hs
  · exact request_estop f.kind f.tag (actOf_halted _ _) hs

theorem routeUpstream_estop (f : Frame) (hs : EstopInv s) : EstopInv (routeUpstream f s) := by
  unfold routeUpstream
  split
  · exact dispatchFrame_estop f (hs.of_view rfl)
  · split
    · exact dispatchFrame_estop f hs
    · exact hs.of_view rfl

theorem frameReceived_estop (p : Port) (f : Frame) (hs : EstopInv s) : EstopInv (frameReceived p f s) := by
  unfold frameReceived
  split
  · exact receiveError_estop _ _ hs
  · split
    · cases p
      · exact routeUpstream_estop f (hs.of_view rfl)
      · exact hs.of_view rfl
    · exact receiveError_estop _ _ hs

theorem takeByte_estop (p : Port) (bytes : List Byte) (b : Byte) (hs : EstopInv s) :
    EstopInv (takeByte p bytes b s) := by
  unfold takeByte
  extract_lets all
  split
  · exact hs.of_view rfl
  · split
    · exact receiveError_estop _ _ hs
    · split
      · exact hs.of_view rfl
      · split
        · exact frameReceived_estop _ _ hs
        · exact hs.of_view rfl

theorem interByteTimeout_estop (p : Port) (hs : EstopInv s) : AnswersHalted (execInterByteTimeout p s) := by
  unfold execInterByteTimeout
  split
  · exact receiveError_estop _ _ hs
  · exact hs

theorem frameByteReceived_estop (p : Port) (b : Byte) (hs : EstopInv s) : AnswersHalted (execFrameByteReceived p b s) := by
  unfold execFrameByteReceived
  split
  · split
    · exact hs.of_view rfl
    · exact receiveError_estop _ _ hs
  · exact takeByte_estop _ _ _ hs

theorem lengthError_estop (p : Port) (b : Byte) (hs : EstopInv s) : AnswersHalted (execLengthError p b s) := by
  unfold execLengthError
  split
  · split
    · exact receiveError_estop _ _ hs
    · exact hs
  · exact hs

theorem frameCrcMismatch_estop (p : Port) (b : Byte) (hs : EstopInv s) : AnswersHalted (execFrameCrcMismatch p b s) := by
  unfold execFrameCrcMismatch
  split
  · split
    · split
      · exact hs
      · exact receiveError_estop _ _ hs
    · exact hs
  · exact hs

/-! ### The resets -/

/-- R155: after a reset the requested level is STOP, the channels are empty and nothing moves: the levels follow, whatever the
line. -/
theorem atReset_estop (hlevel : LevelInv s) (htimer : s.csq.stepTimer = .stopped) (htransfer : s.tpc.transfer = none)
    (hmove : s.tbc.move = none) (hhead : s.hdc.head = .fault) : EstopInv (repost (releaseAtReset s)) := by
  have hreleased : EstopInv (releaseAtReset s) := by
    unfold releaseAtReset commandHandler
    simp only []
    split
    · exact ⟨hlevel, fun _ => htimer, .inr (.inl hhead), fun _ =>
        ⟨by simp [htimer, Timer.isRunning], by simp [htransfer], by simp, hmove, .inr hhead⟩⟩
    case isFalse he => exact ⟨hlevel, fun _ => htimer, .inr (.inl hhead), fun h => absurd h he⟩
  exact foldl_inv (f := fun t k => post k none t) (fun _ _ ht => post_estop _ _ ht) _ hreleased

theorem powerOnReset_estop (pins : BitVec 5) (e : LineState) (b : Tension) (l : LimitState) (s : State) :
    AnswersHalted (execPowerOnReset pins e b l s) := by
  rw [execPowerOnReset_eq]
  refine EstopInv.next (atReset_estop ?_ rfl rfl rfl rfl)
  cases e <;> exact ⟨rfl, rfl⟩

theorem softReset_estop (s : State) : EstopInv (softReset s) := by
  rw [softReset_eq]
  refine atReset_estop ?_ rfl rfl rfl rfl
  refine ⟨?_, rfl⟩
  rw [effectiveOf_eq]
  exact (if_pos (.inr (.inr rfl))).symm

theorem upstreamSendEnd_estop (hs : EstopInv s) : AnswersHalted (execUpstreamSendEnd s) := by
  unfold execUpstreamSendEnd
  split
  · split
    · exact softReset_estop _
    · exact hs.of_view rfl
  · exact hs.of_view rfl

/-! ### Every command -/

theorem exec_estop (i : Instr) (h : EstopInv s) : AnswersHalted (exec i s) := by
  cases i
  case powerOnReset pins e b l => exact powerOnReset_estop pins e b l s
  case millisecondTick => exact millisecondTick_estop h
  case upstreamFrameReceived f => exact frameReceived_estop .upstream f h
  case downstreamFrameReceived f => exact frameReceived_estop .downstream f h
  case framingError p => exact receiveError_estop p .framing h
  case interByteTimeout p => exact interByteTimeout_estop p h
  case lengthError p b => exact lengthError_estop p b h
  case downstreamSendEnd => exact h.of_view rfl
  case upstreamSendEnd => exact upstreamSendEnd_estop h
  case place tag payload => exact request_estop _ tag (actPlace_halted payload) h
  case tableLoadComponent tag f c body => exact request_estop _ tag (loadComponent_halted f c body) h
  case tableLoadSpan tag f c body => exact request_estop _ tag (loadSpan_halted f c body) h
  case tableLoadStationMap tag f c body => exact request_estop _ tag (loadStationMap_halted f c body) h
  case tableLoadProfile tag f c body => exact request_estop _ tag (loadProfile_halted f c body) h
  case tableLoadFilterSet tag f c body => exact request_estop _ tag (loadFilterSet_halted f c body) h
  case tableLoadPanelPattern tag f c body => exact request_estop _ tag (loadPanelPattern_halted f c body) h
  case tableLoadAlarmMap tag f c body => exact request_estop _ tag (loadAlarmMap_halted f c body) h
  case tableLoadConstants tag f c body => exact request_estop _ tag (loadConstants_halted f c body) h
  case stationFlags tag n clear set => exact request_estop _ tag (actStationFlags_halted n clear set) h
  case run tag => exact request_estop _ tag actRun_halted h
  case hold tag => exact request_estop _ tag actHold_halted h
  case stop tag => exact request_estop _ tag actStop_halted h
  case hornOff tag => exact request_estop _ tag actHornOff_halted h
  case panelLoad tag => exact request_estop _ tag actPanelLoad_halted h
  case flush tag => exact request_estop _ tag actFlush_halted h
  case sweep tag payload => exact request_estop _ tag (actSweep_halted payload) h
  case sweepResult tag => exact request_estop _ tag actSweepResult_halted h
  case tapeClear tag => exact request_estop _ tag actTapeClear_halted h
  case mode tag value => exact request_estop _ tag (actMode_halted value) h
  case alarmRead tag channel => exact request_estop _ tag (actAlarmRead_halted channel) h
  case alarmClear tag channel seq => exact request_estop _ tag (actAlarmClear_halted channel seq) h
  case status tag => exact request_estop _ tag actStatus_halted h
  case recordReadStart tag => exact request_estop _ tag readRing_halted h
  case recordReadNext tag => exact request_estop _ tag actRecordReadNext_halted h
  case reset tag => exact request_estop _ tag actReset_halted h
  case resumeButton => exact resumeButton_estop h
  case holdButton => exact takeHold_estop h
  case clearButton => exact clearButton_estop h
  case skipButton => exact skipButton_estop h
  case estopAsserted => exact estopAsserted_estop h
  case estopReleased => exact estopReleased_estop h
  case tensionBreak => exact tensionBreak_estop h
  case tensionNormal => exact h.of_view rfl
  case limitActive => exact limitActive_estop h
  case limitReleased => exact h.of_view rfl
  case chainStepStart => exact chainStepStart_estop h
  case chainIndexEvent present => exact chainIndexEvent_estop present h
  case chainStepTimeout => exact chainStepTimeout_estop h
  case exchangeSend => exact exchangeSend_estop h
  case exchangeComplete replies => exact exchangeComplete_estop replies h
  case unusableStationCascade => exact unusableStationCascade_estop h
  case tapedEvent => exact tapedEvent_estop h
  case dumpEvent => exact dumpEvent_estop h
  case taperTimeout => exact taperTimeout_estop h
  case taperRestart => exact taperRestart_estop h
  case markingNoticePin => exact h.of_view rfl
  case markingNoticeCsq => exact markingNoticeCsq_estop h
  case markingNoticeTpc => exact markingNoticeTpc_estop h
  case markingNoticeHdc => exact markingNoticeHdc_estop h
  case insertCycleStart => exact insertCycleStart_estop h
  case dumpCycleStart => exact dumpCycleStart_estop h
  case freeDumpCycleStart => exact freeDumpCycleStart_estop h
  case axisInPosition axis => exact axisInPosition_estop axis h
  case spanFault => exact spanFault_estop h
  case cutDone => exact cutDone_estop h
  case formDone => exact formDone_estop h
  case driveDone => exact driveDone_estop h
  case clinchDone => exact clinchDone_estop h
  case ejectDone => exact ejectDone_estop h
  case headUp => exact headUp_estop h
  case phaseTimeout => exact phaseTimeout_estop h
  case homingStart => exact homingStart_estop h
  case homeDone => exact homeDone_estop h
  case forceSample code => exact forceSample_estop code h
  case silenceTimeout => exact silenceTimeout_estop h
  case loadStart => exact loadStart_estop h
  case unloadStart => exact unloadStart_estop h
  case clamped => exact clamped_estop h
  case released => exact released_estop h
  case handlerTimeout => exact handlerTimeout_estop h
  case handlerRestart => exact handlerRestart_estop h
  case surveyMoveStart => exact surveyMoveStart_estop h
  case insertMoveStart => exact insertMoveStart_estop h
  case inPosition present => exact inPosition_estop present h
  case followingError => exact post_estop _ _ (haltTable_estop h)
  case moveTimeout => exact moveTimeout_estop h
  case frameByteReceived p b => exact frameByteReceived_estop p b h
  case frameCrcMismatch p b => exact frameCrcMismatch_estop p b h
  all_goals exact request_estop _ _ (fun _ ht => readTable_halted _ _ _ _ _ _ ht) h

end Sys2Proof.Machine

open Sys2Proof Sys2Proof.Machine

/-- Settles O57: a step takes a command from the queue, which EstopInv does not read, or idles. -/
theorem estopHoldsEverything : Obligations.EstopHoldsEverything := by
  unfold Obligations.EstopHoldsEverything
  intro s t hstep h
  unfold step at hstep
  split at hstep
  case h_1 =>
    obtain rfl := Host.Outcome.next.inj hstep
    exact h
  case h_2 c rest hq =>
    have hnext := exec_estop c (h.of_view (t := s.withPending rest) rfl)
    rw [hstep] at hnext
    exact hnext

end

section
/-! PROOF. A step the part takes by itself does nothing while its conditions do not hold (log 1), block by block. -/

namespace Sys2Proof.Machine

variable {s : State}

/-! ### The chain and the marking notices (R36, R37, R41, R43, R51) -/

theorem chainStepStart_waits (h : stepMayStart s = false) : exec .chainStepStart s = .next s := by
  change execChainStepStart s = _
  simp [execChainStepStart, h]

theorem exchangeSend_waits (h : (s.csq.exchange == .waiting && s.alc.effective != .stop) = false) :
    exec .exchangeSend s = .next s := by
  change execExchangeSend s = _
  have hno : ¬ (s.csq.exchange = .waiting ∧ s.alc.effective ≠ .stop) := by simpa using h
  rw [execExchangeSend, if_neg hno]

theorem chainStepTimeout_waits (h : s.csq.stepTimer.expired = false) : exec .chainStepTimeout s = .next s := by
  change execChainStepTimeout s = _
  simp [execChainStepTimeout, h]

theorem unusableStationCascade_waits (h : s.csq.unusable = []) : exec .unusableStationCascade s = .next s := by
  change execUnusableStationCascade s = _
  simp [execUnusableStationCascade, h]

theorem markingNoticePin_waits (h : s.pin.marks = []) : exec .markingNoticePin s = .next s := by
  change execMarkingNoticePin s = _
  rw [execMarkingNoticePin, State.updPin, h, List.tail_nil, ← h]

theorem markingNoticeCsq_waits (h : s.csq.marks = []) : exec .markingNoticeCsq s = .next s := by
  change execMarkingNoticeCsq s = _
  simp [execMarkingNoticeCsq, h]

theorem markingNoticeTpc_waits (h : s.tpc.marks = []) : exec .markingNoticeTpc s = .next s := by
  change execMarkingNoticeTpc s = _
  simp [execMarkingNoticeTpc, h]

theorem markingNoticeHdc_waits (h : s.hdc.marks = []) : exec .markingNoticeHdc s = .next s := by
  change execMarkingNoticeHdc s = _
  simp [execMarkingNoticeHdc, h]

/-! ### The taper and the head (R79, R91, R92, R95, R100, R102, R103) -/

theorem taperTimeout_waits (h : s.tpc.timer.expired = false) : exec .taperTimeout s = .next s := by
  change execTaperTimeout s = _
  unfold execTaperTimeout
  split
  · rw [h]; rfl
  · rfl

theorem taperRestart_waits
    (h : (s.tpc.transfer.map Transfer.phase == some .stalled && s.tpc.restartDue && s.alc.effective != .stop) = false) :
    exec .taperRestart s = .next s := by
  change execTaperRestart s = _
  unfold execTaperRestart
  split
  next op hstalled =>
    have hno : ¬ (s.tpc.restartDue = true ∧ s.alc.effective ≠ .stop) := by simpa [hstalled] using h
    rw [if_neg hno]
  · rfl

theorem insertCycleStart_waits (h : frontMeets s (insertMayStart s) = false) :
    exec .insertCycleStart s = .next s := by
  change execInsertCycleStart s = _
  unfold execInsertCycleStart
  split
  · rfl
  next e rest hfront =>
    have hno : insertMayStart s e = false := by simpa [frontMeets, hfront] using h
    rw [hno]; rfl

theorem dumpCycleStart_waits
    (h : frontMeets s (fun e => headMayCycle s && !s.hdc.skip && e.discard) = false) :
    exec .dumpCycleStart s = .next s := by
  change execDumpCycleStart s = _
  unfold execDumpCycleStart
  split
  · rfl
  next e rest hfront =>
    have hno : (headMayCycle s && !s.hdc.skip && e.discard) = false := by
      rw [frontMeets, hfront] at h
      exact h
    rw [hno]; rfl

theorem freeDumpCycleStart_waits (h : (s.mode == .insertOnly && headMayCycle s && s.hdc.skip) = false) :
    exec .freeDumpCycleStart s = .next s := by
  change execFreeDumpCycleStart s = _
  have hno : ¬ (s.mode = .insertOnly ∧ headMayCycle s ∧ s.hdc.skip = true) := by simpa using h
  rw [execFreeDumpCycleStart, if_neg hno]

theorem homingStart_waits (h : (s.hdc.head == .fault && s.alc.effective == .run) = false) :
    exec .homingStart s = .next s := by
  change execHomingStart s = _
  have hno : ¬ (s.hdc.head = .fault ∧ s.alc.effective = .run) := by simpa using h
  rw [execHomingStart, if_neg hno]

theorem spanFault_waits (h : (s.hdc.timer.expired && s.hdc.head == .setup) = false) :
    exec .spanFault s = .next s := by
  change execSpanFault s = _
  have hno : ¬ (s.hdc.head = .setup ∧ s.hdc.timer.expired = true) := by
    rintro ⟨hsetup, hexpired⟩
    simp [hsetup, hexpired] at h
  rw [execSpanFault, if_neg hno]

/-- In SETUP the timer is the axes' (R92), whose expiry is SPAN_FAULT's. -/
theorem phaseTimeout_waits (h : (s.hdc.timer.expired && s.hdc.head != .setup) = false) :
    exec .phaseTimeout s = .next s := by
  change execPhaseTimeout s = _
  unfold execPhaseTimeout
  split
  next hexpired =>
    have hsetup : s.hdc.head = .setup := by simpa [hexpired] using h
    rw [hsetup]
    cases s.hdc.cycle <;> rfl
  · rfl

/-! ### The table and the clinch signature (R111, R126, R128, R129, R131, R132, R134) -/

theorem loadStart_waits (h : loadMayStart s = false) : exec .loadStart s = .next s := by
  change execLoadStart s = _
  simp [execLoadStart, h]

theorem unloadStart_waits (h : unloadMayStart s = false) : exec .unloadStart s = .next s := by
  change execUnloadStart s = _
  simp [execUnloadStart, h]

theorem surveyMoveStart_waits
    (h : (tableMayMove s && s.alc.effective != .stop && s.tbc.panel == .survey && surveyWants s) = false) :
    exec .surveyMoveStart s = .next s := by
  change execSurveyMoveStart s = _
  unfold execSurveyMoveStart
  split
  next p n hpattern hcursor =>
    refine if_neg ?_
    rintro ⟨hpanel, hmove, hplace, hlevel, hestop, hclear⟩
    simp [tableMayMove, surveyWants, hpattern, hcursor, hpanel, hmove, hplace, hlevel, hestop, hclear] at h
  · rfl

theorem insertMoveStart_waits
    (h : (tableMayMove s && s.alc.effective == .run && s.tbc.panel == .ready && insertWants s) = false) :
    exec .insertMoveStart s = .next s := by
  change execInsertMoveStart s = _
  unfold execInsertMoveStart
  split
  next p e hpattern htarget =>
    refine if_neg ?_
    rintro ⟨hpanel, hmove, hplace, hlevel, hestop, hclear⟩
    simp [tableMayMove, insertWants, hpattern, htarget, hpanel, hmove, hplace, hlevel, hestop, hclear] at h
  · rfl

theorem handlerRestart_waits
    (h : (s.alc.effective != .stop && s.alc.estop == .released && handlerWants s) = false) :
    exec .handlerRestart s = .next s := by
  change execHandlerRestart s = _
  unfold execHandlerRestart
  split
  next hmay =>
    obtain ⟨hlevel, hestop⟩ := hmay
    have hno : handlerWants s = false := by simpa [hlevel, hestop] using h
    split
    next op hsuspended => simp [handlerWants, hsuspended] at hno
    next op hstalled =>
      have hdue : s.tbc.restartDue = false := by simpa [handlerWants, hstalled] using hno
      rw [hdue]; rfl
    · rfl
  · rfl

theorem handlerTimeout_waits (h : s.tbc.handlerTimer.expired = false) : exec .handlerTimeout s = .next s := by
  change execHandlerTimeout s = _
  unfold execHandlerTimeout
  split
  · rw [h]; rfl
  · rfl

theorem moveTimeout_waits (h : s.tbc.moveTimer.expired = false) : exec .moveTimeout s = .next s := by
  change execMoveTimeout s = _
  simp [execMoveTimeout, h]

theorem silenceTimeout_waits (h : s.csu.silence.expired = false) : exec .silenceTimeout s = .next s := by
  change execSilenceTimeout s = _
  unfold execSilenceTimeout
  split
  · rfl
  · rw [h]; rfl

/-! ### The list -/

/-- The step does nothing while its conditions do not hold. -/
def Waits (s : State) (x : Bool × Instr) : Prop := x.1 = false → exec x.2 s = .next s

theorem ownSteps_wait : ∀ x ∈ ownSteps s, Waits s x := by
  unfold ownSteps
  simp only [List.forall_mem_cons, Waits, Bool.not_eq_false', List.isEmpty_iff]
  exact ⟨chainStepStart_waits, exchangeSend_waits, unusableStationCascade_waits, markingNoticePin_waits,
    markingNoticeCsq_waits, markingNoticeTpc_waits, markingNoticeHdc_waits, taperRestart_waits, insertCycleStart_waits,
    dumpCycleStart_waits, freeDumpCycleStart_waits, homingStart_waits, loadStart_waits, unloadStart_waits,
    surveyMoveStart_waits, insertMoveStart_waits, handlerRestart_waits, chainStepTimeout_waits, taperTimeout_waits,
    handlerTimeout_waits, moveTimeout_waits, silenceTimeout_waits, spanFault_waits, phaseTimeout_waits,
    fun _ h => absurd h List.not_mem_nil⟩

end Sys2Proof.Machine

open Sys2Proof Sys2Proof.Machine

/-- Settles O3: each step of the list waits for its conditions. -/
theorem ownStepsNeedTheirConditions : Obligations.OwnStepsNeedTheirConditions := by
  unfold Obligations.OwnStepsNeedTheirConditions
  intro s c h
  exact ownSteps_wait _ h rfl

end

section
/-! PROOF. What a post does: which of R142's cases it takes, the entry it leaves, and what ALC keeps through it. -/

namespace Sys2Proof.Machine

/-! ### Channels -/

/-- R142 step 3: the channel holds an entry of the kind and subject. -/
def Alc.Holds (a : Alc) (c : ChannelId) (k : AlarmKind) (subject : Option Nat) : Prop :=
  ∃ e ∈ (a.channel c).entries, e.kind = k ∧ e.subject = subject

theorem sameAs_iff (e : AlarmEntry) (k : AlarmKind) (subject : Option Nat) :
    e.sameAs k subject = true ↔ e.kind = k ∧ e.subject = subject := by
  simp [AlarmEntry.sameAs]

theorem any_sameAs_iff (a : Alc) (c : ChannelId) (k : AlarmKind) (subject : Option Nat) :
    (a.channel c).entries.any (·.sameAs k subject) = true ↔ a.Holds c k subject := by
  simp [Alc.Holds, sameAs_iff]

theorem setChannel_channel (a : Alc) (c d : ChannelId) (ch : Channel) :
    (a.setChannel c ch).channel d = if d = c then ch else a.channel d := by
  split
  next h => rw [h, channel_setChannel_self]
  next h => rw [channel_setChannel_ne a ch h]

theorem append_channel (a : Alc) (c d : ChannelId) (e : AlarmEntry) :
    (a.append c e).channel d =
      if d = c then { a.channel c with entries := (a.channel c).entries ++ [e] } else a.channel d := by
  rw [← setChannel_channel]
  cases d <;> rfl

theorem foldEntry_same (now : Word32) (k : AlarmKind) (subject : Option Nat) (e : AlarmEntry) :
    (foldEntry now k subject e).kind = e.kind ∧ (foldEntry now k subject e).subject = e.subject := by
  unfold foldEntry
  split <;> exact ⟨rfl, rfl⟩

theorem levels_channel (a : Alc) (d : ChannelId) (l : Level) :
    (lampsOf { a with effective := l }).channel d = a.channel d := by
  cases d <;> rfl

@[simp] theorem recompute_channel (s : State) (d : ChannelId) : (recompute s).alc.channel d = s.alc.channel d := by
  rw [recompute_alc, levels_channel]

/-! ### What ALC keeps through a post -/

/-- What every step of R142 and R147 keeps of ALC. -/
structure AlcKept (Q : Alc → Prop) : Prop where
  fold : ∀ {a} c k subject, Q a → Q (a.fold c k subject)
  append : ∀ {a} c k subject, Q a → Q (a.append c (newEntry a c k subject))
  overflowed : ∀ {a} c, Q a → Q (a.overflowed c)
  suppress : ∀ {a} c, Q a → Q (a.suppress c)
  levels : ∀ {a}, Q a → Q (lampsOf { a with effective := effectiveOf a })

namespace AlcKept

variable {Q : Alc → Prop} {s : State}

theorem recompute (hQ : AlcKept Q) (h : Q s.alc) : Q (recompute s).alc := by
  rw [recompute_alc]
  exact hQ.levels h

theorem postIn (hQ : AlcKept Q) {onStop : State → State} (hstop : ∀ t, Q t.alc → Q (onStop t).alc) (c : ChannelId)
    (k : AlarmKind) (subject : Option Nat) (h : Q s.alc) : Q (postIn onStop c k subject s).alc := by
  unfold Machine.postIn
  split
  · exact hQ.fold c k subject h
  · split
    · refine hQ.recompute ?_
      split
      · exact hstop _ (hQ.append c k subject h)
      · exact hQ.append c k subject h
    · exact hQ.overflowed c h

theorem postQuiet (hQ : AlcKept Q) (k : AlarmKind) (subject : Option Nat) (h : Q s.alc) :
    Q (postQuiet k subject s).alc := by
  unfold Machine.postQuiet postWith
  simp only []
  split
  · exact hQ.suppress _ h
  · exact hQ.postIn (fun _ => id) _ k subject h

theorem abortSweep (hQ : AlcKept Q) (h : Q s.alc) : Q (abortSweep s).alc := by
  unfold Machine.abortSweep
  split
  · exact h
  · refine hQ.postQuiet _ _ ?_
    simpa using h

theorem post (hQ : AlcKept Q) (k : AlarmKind) (subject : Option Nat) (h : Q s.alc) : Q (post k subject s).alc := by
  unfold Machine.post postWith
  simp only []
  split
  · exact hQ.suppress _ h
  · exact hQ.postIn (fun _ => hQ.abortSweep) _ k subject h

end AlcKept

/-- R142: nothing a post does takes an entry out of its channel. -/
theorem holds_kept (c : ChannelId) (k : AlarmKind) (subject : Option Nat) : AlcKept (·.Holds c k subject) where
  fold := by
    rintro a d k' subject' ⟨e, he, hk, hs⟩
    by_cases hd : c = d
    · subst hd
      refine ⟨foldEntry a.ms k' subject' e, ?_, ?_, ?_⟩
      · simp only [Alc.fold, channel_setChannel_self]
        exact List.mem_map_of_mem he
      · rw [(foldEntry_same ..).1, hk]
      · rw [(foldEntry_same ..).2, hs]
    · refine ⟨e, ?_, hk, hs⟩
      rw [Alc.fold, channel_setChannel_ne _ _ hd]
      exact he
  append := by
    rintro a d k' subject' ⟨e, he, hk, hs⟩
    refine ⟨e, ?_, hk, hs⟩
    rw [append_channel]
    split
    next hd => exact List.mem_append_left _ (hd ▸ he)
    · exact he
  overflowed := by
    rintro a d ⟨e, he, hk, hs⟩
    refine ⟨e, ?_, hk, hs⟩
    rw [Alc.overflowed, setChannel_channel]
    split
    next hd => exact hd ▸ he
    · exact he
  suppress := by
    rintro a d ⟨e, he, hk, hs⟩
    refine ⟨e, ?_, hk, hs⟩
    rw [Alc.suppress, setChannel_channel]
    split
    next hd => exact hd ▸ he
    · exact he
  levels := fun {a} h => by
    unfold Alc.Holds
    rwa [levels_channel]

/-- R143: requested STOP stands through every post. -/
theorem requestedStop_kept : AlcKept (·.requested = .stop) where
  fold := fun c _ _ h => by simpa using h
  append := fun c _ _ h => by
    show latched c _ = .stop
    rw [h]
    cases c <;> rfl
  overflowed := fun c h => by simpa using h
  suppress := fun c h => by simpa using h
  levels := fun h => h

/-! ### The cases of R142 -/

/-- R142 step 4, R143, R168: the entry has joined channel `c` and been noticed; the level is not yet recomputed. -/
def appended (c : ChannelId) (k : AlarmKind) (subject : Option Nat) (s : State) : State :=
  (s.updAlc (·.append c (newEntry s.alc c k subject))).updLpu (·.notice (newEntry s.alc c k subject))

variable {s : State} {c : ChannelId} {k : AlarmKind} {subject : Option Nat}

theorem postIn_folds (onStop : State → State) (h : s.alc.Holds c k subject) :
    postIn onStop c k subject s = s.updAlc (·.fold c k subject) := by
  rw [postIn, if_pos ((any_sameAs_iff ..).mpr h)]

theorem postIn_appends (onStop : State → State) (h : ¬ s.alc.Holds c k subject)
    (hroom : (s.alc.channel c).entries.length < 8) :
    postIn onStop c k subject s =
      recompute (if c = .stop then onStop (appended c k subject s) else appended c k subject s) := by
  rw [postIn, if_neg (mt (any_sameAs_iff ..).mp h), if_pos hroom]
  rfl

theorem post_mapped (hmap : s.alc.mapOf k = ⟨c, false⟩) :
    post k subject s = postIn abortSweep c k subject s := by
  unfold post postWith
  simp [hmap]

theorem postQuiet_mapped (hmap : s.alc.mapOf k = ⟨c, false⟩) :
    postQuiet k subject s = postIn id c k subject s := by
  unfold postQuiet postWith
  simp [hmap]

/-- R142: an append to the STOP channel while no sweep runs. -/
theorem post_appends_stop (hmap : s.alc.mapOf k = ⟨.stop, false⟩) (h : ¬ s.alc.Holds .stop k subject)
    (hroom : s.alc.stopCh.entries.length < 8) :
    post k subject s = recompute (abortSweep (appended .stop k subject s)) := by
  rw [post_mapped hmap, postIn_appends _ h hroom, if_pos rfl]

/-- R72: a post while no sweep runs has no sweep to end. -/
theorem post_eq_postQuiet (hsweep : s.shu.sweep = none) : post k subject s = postQuiet k subject s := by
  have habort : abortSweep (appended (s.alc.mapOf k).channel k subject s) =
      appended (s.alc.mapOf k).channel k subject s := abortSweep_none hsweep
  unfold post postQuiet postWith
  simp only []
  split
  · rfl
  · unfold postIn
    split
    · rfl
    · split
      · unfold appended at habort
        simp only [habort, id]
      · rfl

theorem appended_holds : (appended c k subject s).alc.Holds c k subject := by
  refine ⟨newEntry s.alc c k subject, ?_, rfl, rfl⟩
  show _ ∈ ((s.alc.append c _).channel c).entries
  rw [append_channel, if_pos rfl]
  exact List.mem_append_right _ (List.mem_singleton.mpr rfl)

/-- R142: with room in the channel, the entry stands in it after the post. -/
theorem postIn_holds {onStop : State → State}
    (hstop : ∀ t : State, t.alc.Holds c k subject → (onStop t).alc.Holds c k subject)
    (hroom : (s.alc.channel c).entries.length < 8) : (postIn onStop c k subject s).alc.Holds c k subject := by
  by_cases h : s.alc.Holds c k subject
  · exact (holds_kept c k subject).postIn hstop c k subject h
  · rw [postIn_appends _ h hroom]
    refine (holds_kept c k subject).recompute ?_
    split
    · exact hstop _ appended_holds
    · exact appended_holds

theorem post_holds (hmap : s.alc.mapOf k = ⟨c, false⟩) (hroom : (s.alc.channel c).entries.length < 8) :
    (post k subject s).alc.Holds c k subject := by
  rw [post_mapped hmap]
  exact postIn_holds (fun _ => (holds_kept c k subject).abortSweep) hroom

theorem postQuiet_holds (hmap : s.alc.mapOf k = ⟨c, false⟩) (hroom : (s.alc.channel c).entries.length < 8) :
    (postQuiet k subject s).alc.Holds c k subject := by
  rw [postQuiet_mapped hmap]
  exact postIn_holds (fun _ => id) hroom

/-! ### The level -/

theorem recompute_effective (s : State) : (recompute s).alc.effective = effectiveOf s.alc := by
  rw [recompute_alc]
  rfl

theorem effectiveOf_requested_stop {a : Alc} (h : a.requested = .stop) : effectiveOf a = .stop := by
  rw [effectiveOf_eq, if_pos (.inr (.inr h))]

/-- R143, R147: an append to the STOP channel requests STOP, and the level is STOP. -/
theorem post_appends_level (hmap : s.alc.mapOf k = ⟨.stop, false⟩) (h : ¬ s.alc.Holds .stop k subject)
    (hroom : s.alc.stopCh.entries.length < 8) :
    (post k subject s).alc.requested = .stop ∧ (post k subject s).alc.effective = .stop := by
  have hreq : (abortSweep (appended .stop k subject s)).alc.requested = .stop := requestedStop_kept.abortSweep rfl
  rw [post_appends_stop hmap h hroom, recompute_effective, effectiveOf_requested_stop hreq]
  exact ⟨by simpa using hreq, rfl⟩

/-- What a post while no sweep runs can touch (R147). -/
theorem postQuiet_levelOnly (k : AlarmKind) (subject : Option Nat) (s : State) :
    LevelOnly s (postQuiet k subject s) := by
  unfold postQuiet postWith
  simp only []
  split
  · exact rfl
  · unfold postIn
    split
    · exact rfl
    · split
      · simp only [id, ite_self]
        obtain ⟨honly, -, -⟩ := recompute_told (appended (s.alc.mapOf k).channel k subject s)
        exact honly
      · exact rfl

theorem post_levelOnly (hsweep : s.shu.sweep = none) : LevelOnly s (post k subject s) := by
  rw [post_eq_postQuiet hsweep]
  exact postQuiet_levelOnly k subject s

end Sys2Proof.Machine
end

section
/-! PROOF. A step starts, runs out of time, and its exchange is sent (R41, R43, R51). -/

namespace Sys2Proof.Machine

variable {s : State}

/-- R41: the conditions of a step start, in words. -/
theorem stepMayStart_iff : stepMayStart s = true ↔ s.csq.cycle = .rest ∧ s.alc.effective ≠ .stop
    ∧ s.csq.seq ∈ [SeqState.running, .sweeping, .purging]
    ∧ ¬ (s.mode = .sequenceInsert ∧ s.tables.constants.festoon ≤ s.tpc.tape.length) ∧ s.alc.estop = .released := by
  simp [stepMayStart, festoonFull, State.mode, and_assoc, or_iff_not_imp_left]

/-- R43: the chain at the timeout of its step, before CHAIN JAM is posted. -/
def stepTimedOut (s : State) : State :=
  (s.updCsq ({ · with cycle := .rest, abandoned := true, stepTimer := .stopped })).updOut ({ · with chainDrive := .stop })

theorem exec_chainStepTimeout (hcycle : s.csq.cycle = .step) (htimer : s.csq.stepTimer = .running 0) :
    exec .chainStepTimeout s = .next (idleTest (post .chainJam none (stepTimedOut s))) :=
  if_pos ⟨hcycle, by rw [htimer]; rfl⟩

/-! ### A step that has ended stays ended through a post -/

/-- The cycle is in REST with its timer stopped, and the chain drive has its STOP command. -/
def StepEnded (t : State) : Prop := t.csq.cycle = .rest ∧ t.csq.stepTimer = .stopped ∧ t.out.chainDrive = .stop

/-- R44: the drive goes on for a suspended step only. -/
theorem recompute_stepEnded (h : StepEnded s) : StepEnded (recompute s) := by
  obtain ⟨hcycle, htimer, hdrive⟩ := h
  have hkeeps : (recompute s).csq.stepTimer = s.csq.stepTimer ∧ (recompute s).out.chainDrive = s.out.chainDrive := by
    obtain ⟨-, ⟨hstays, hleaves, -⟩, -⟩ := recompute_told s
    by_cases h : s.alc.effective = .stop ∧ (recompute s).alc.effective ≠ .stop
    · exact (hleaves h).2.1 (.inl (by rw [hcycle]; decide))
    · exact (hstays h).1
  exact ⟨by simpa using hcycle, hkeeps.1.trans htimer, hkeeps.2.trans hdrive⟩

theorem settleTest_rest (h : s.csq.cycle = .rest) : settleTest s = s := by
  unfold settleTest
  rw [if_neg]
  rintro ⟨hsettle, -⟩
  rw [h] at hsettle
  contradiction

theorem emptiedTest_rest (h : s.csq.cycle = .rest) : (emptiedTest s).csq.cycle = .rest := by
  unfold emptiedTest
  split
  · rw [settleTest_rest (by exact h)]
    exact h
  · exact h

theorem removeTests_rest (h : s.csq.cycle = .rest) : (removeTests s).csq.cycle = .rest := by
  unfold removeTests
  split
  · refine emptiedTest_rest ?_
    rw [foldl_keep (fun t : State => t.csq.cycle) _ (fun t n => ?_), h]
    obtain ⟨r, k, hshape⟩ := removeTest_shape (s.csq.commands.getD (n - 1) .none) n t
    rw [hshape]
  · exact h
  · exact h

theorem stepEnded_postKept : PostKept StepEnded where
  updAlc := fun h _ => h
  updLpu := fun _ h => h
  closeSweep := fun _ ⟨hcycle, htimer, hdrive⟩ =>
    ⟨removeTests_rest hcycle, by simpa using htimer, by simpa using hdrive⟩
  recompute := recompute_stepEnded

@[simp] theorem post_abandoned (k : AlarmKind) (subject : Option Nat) (s : State) :
    (post k subject s).csq.abandoned = s.csq.abandoned :=
  PostKept.post (P := fun t => t.csq.abandoned = s.csq.abandoned)
    ⟨fun h _ => h, fun _ h => h, fun _ h => by simpa using h, fun h => by simpa using h⟩ k subject rfl

@[simp] theorem post_fireLoad (k : AlarmKind) (subject : Option Nat) (s : State) :
    (post k subject s).csq.fireLoad = s.csq.fireLoad :=
  PostKept.post (P := fun t => t.csq.fireLoad = s.csq.fireLoad)
    ⟨fun h _ => h, fun _ h => h, fun _ h => by simpa using h, fun h => by simpa using h⟩ k subject rfl

theorem post_ring (k : AlarmKind) (subject : Option Nat) (h : s.shu.sweep = none) :
    (post k subject s).csq.ring = s.csq.ring := by
  rw [post_levelOnly h]

/-! ### The sequencer at the level of a STOP alarm (R38, R39) -/

/-- A RUNNING or HELD sequencer at requested STOP is HELD, or IDLE when it has nothing in hand. -/
theorem SequencerTold.at_stop {u t : State} (h : SequencerTold u t) (hreq : t.alc.requested = .stop)
    (heff : t.alc.effective = .stop) (hseq : u.csq.seq = .held ∨ (u.csq.seq = .running ∧ u.alc.effective ≠ .stop)) :
    t.csq.seq = if u.csq.window = [] ∧ u.csq.cycle = .rest then .idle else .held := by
  have htested : (if t.alc.effective = u.alc.effective then u.csq.seq
      else heldOf t.alc.effective (festoonFull u.tables u.tpc.tape) u.csq.seq) = .held := by
    rw [heff]
    rcases hseq with hheld | ⟨hrun, hne⟩
    · simp [hheld, heldOf]
    · rw [if_neg (Ne.symm hne), hrun]
      rfl
  unfold SequencerTold at h
  simp only [htested, hreq] at h
  simpa using h

theorem post_stop_seq {k : AlarmKind} {subject : Option Nat} (hmap : s.alc.mapOf k = ⟨.stop, false⟩)
    (hnew : ¬ s.alc.Holds .stop k subject) (hroom : s.alc.stopCh.entries.length < 8) (hsweep : s.shu.sweep = none)
    (hseq : s.csq.seq = .held ∨ (s.csq.seq = .running ∧ s.alc.effective ≠ .stop)) :
    (post k subject s).csq.seq = if s.csq.window = [] ∧ s.csq.cycle = .rest then .idle else .held := by
  have hposted : post k subject s = recompute (appended .stop k subject s) := by
    rw [post_appends_stop hmap hnew hroom, abortSweep_none (by exact hsweep)]
  obtain ⟨-, -, htold⟩ := recompute_told (appended .stop k subject s)
  obtain ⟨hreq, heff⟩ := post_appends_level hmap hnew hroom
  rw [← hposted] at htold
  exact htold.at_stop hreq heff hseq

/-- R38: a second test finds nothing to do. -/
theorem idleTest_of_seq (h : s.csq.seq = .idle ∨ s.csq.seq = .held ∧ s.csq.window ≠ []) : idleTest s = s := by
  refine if_neg fun ⟨hseq, _, hwindow, _⟩ => ?_
  rcases h with hidle | ⟨_, hne⟩
  · rw [hidle] at hseq
    exact hseq.elim nofun nofun
  · exact hne hwindow

theorem stepTimedOut_seq (hmap : s.alc.mapOf .chainJam = ⟨.stop, false⟩) (hnew : ¬ s.alc.Holds .stop .chainJam none)
    (hroom : s.alc.stopCh.entries.length < 8) (hsweep : s.shu.sweep = none)
    (hseq : s.csq.seq = .held ∨ (s.csq.seq = .running ∧ s.alc.effective ≠ .stop)) :
    (idleTest (post .chainJam none (stepTimedOut s))).csq.seq = if s.csq.window = [] then .idle else .held := by
  have hpost : (post .chainJam none (stepTimedOut s)).csq.seq =
      if s.csq.window = [] ∧ ChainCycle.rest = .rest then .idle else .held :=
    post_stop_seq (s := stepTimedOut s) hmap hnew hroom hsweep hseq
  have hwindow : (post .chainJam none (stepTimedOut s)).csq.window = s.csq.window := by simp [stepTimedOut]
  by_cases hw : s.csq.window = []
  · rw [idleTest_of_seq (.inl (by rw [hpost]; simp [hw])), hpost]
    simp [hw]
  · rw [idleTest_of_seq (.inr (by rw [hpost, hwindow]; simp [hw])), hpost]
    simp [hw]

end Sys2Proof.Machine

open Sys2Proof Sys2Proof.Machine

/-- Settles O39: a start under its conditions, a timeout that posts CHAIN JAM, the sending of what waits. -/
theorem chainStepsStartAndTimeOut : Obligations.ChainStepsStartAndTimeOut := by
  unfold Obligations.ChainStepsStartAndTimeOut
  intro s
  refine ⟨fun hrest hlevel hseq hfestoon hestop => ?_, fun hcycle htimer => ?_, fun hwaits hlevel => ?_⟩
  · exact if_pos (stepMayStart_iff.mpr ⟨hrest, hlevel, hseq, hfestoon, hestop⟩)
  · obtain ⟨hended, hstopped, hdrive⟩ : StepEnded (post .chainJam none (stepTimedOut s)) :=
      stepEnded_postKept.post .chainJam none ⟨rfl, rfl, rfl⟩
    refine ⟨_, exec_chainStepTimeout hcycle htimer, ?_⟩
    simp only [idleTest_frame, post_frame, post_abandoned, post_fireLoad, hended, hstopped, hdrive]
    refine ⟨trivial, rfl, trivial, trivial, rfl, rfl, rfl, fun hsweep => post_ring _ _ hsweep,
      fun hmap hroom => ⟨post_holds (s := stepTimedOut s) hmap hroom, fun hnew => ?_⟩⟩
    have hnone : ¬ s.alc.Holds .stop .chainJam none := fun ⟨e, he, hsame⟩ => hnew e he hsame
    obtain ⟨hreq, heff⟩ := post_appends_level (s := stepTimedOut s) hmap hnone hroom
    exact ⟨hreq, heff, fun hseq hsweep => stepTimedOut_seq hmap hnone hroom hsweep hseq⟩
  · exact if_pos ⟨hwaits, hlevel⟩

end

section
/-! PROOF. The taper's events: the end of a taping and of a dump, the timeout and the restart (R54, R75 to R79, R45, R38, R40). -/

namespace Sys2Proof.Machine

variable {s : State}

/-! ### The tests after a transfer action has ended (R40, R45, R38) -/

theorem noneUnknown_iff (ring : List ClipState) : ring.all (· != .unknown) = true ↔ ClipState.unknown ∉ ring := by
  simp only [List.all_eq_true, bne_iff_ne]
  exact ⟨fun h hmem => h _ hmem rfl, fun h c hc heq => h (heq ▸ hc)⟩

/-- R40: the end of a purge, as one update. -/
theorem purgeTest_seq (u : State) : purgeTest u = { u with csq := { u.csq with
    seq := if u.csq.seq = .purging ∧ .unknown ∉ u.csq.ring then .idle else u.csq.seq } } := by
  unfold purgeTest
  simp only [noneUnknown_iff]
  split <;> rfl

/-- R45, R38: the end of the cycle when no transfer action stands, as one update. -/
theorem settleTest_ended {u : State} (h : u.tpc.transfer = none) : settleTest u = { u with csq := { u.csq with
    cycle := if u.csq.cycle = .settle ∧ u.csq.exchange = .complete then .rest else u.csq.cycle
    seq := if (u.csq.seq = .running ∨ u.csq.seq = .held) ∧ (u.csq.cycle = .settle ∧ u.csq.exchange = .complete)
        ∧ u.alc.requested = .stop ∧ u.csq.window = [] then .idle else u.csq.seq } } := by
  unfold settleTest
  by_cases hs : u.csq.cycle = .settle ∧ u.csq.exchange = .complete
  · rw [if_pos ⟨hs.1, hs.2, h⟩, idleTest_seq]
    simp [State.updCsq, hs]
  · rw [if_neg (fun ⟨h1, h2, _⟩ => hs ⟨h1, h2⟩)]
    simp [hs]

/-- R38, R40: the sequencer state after the end of a transfer action, from the state `q` before it. -/
def seqAfterTransfer (s : State) (q : SeqState) (ring : List ClipState) (window : List WindowEntry) : SeqState :=
  if q = .purging ∧ .unknown ∉ ring then .idle
  else if (q = .running ∨ q = .held) ∧ (s.csq.cycle = .settle ∧ s.csq.exchange = .complete) ∧ s.alc.requested = .stop
      ∧ window = [] then .idle
  else q

theorem transferTests {u : State} (h : u.tpc.transfer = none) : settleTest (purgeTest u) = { u with csq := { u.csq with
    cycle := if u.csq.cycle = .settle ∧ u.csq.exchange = .complete then .rest else u.csq.cycle
    seq := seqAfterTransfer u u.csq.seq u.csq.ring u.csq.window } } := by
  rw [settleTest_ended (by simpa using h), purgeTest_seq]
  by_cases hp : u.csq.seq = .purging ∧ .unknown ∉ u.csq.ring
  · simp [seqAfterTransfer, hp]
  · simp only [seqAfterTransfer, if_neg hp]

/-! ### The events -/

/-- R54, R76, R78: the transfer action is done and the clip at position 0 is EMPTY. -/
def transferEnded (s : State) : State := setClip 0 .empty (endTransfer s)

theorem exec_tapedEvent {p : TransferPhase} (h : s.tpc.transfer = some ⟨.tape, p⟩) (hp : p ≠ .waitTape) :
    exec .tapedEvent s = .next (settleTest (purgeTest (releaseTaped (transferEnded s)))) := by
  change execTapedEvent s = _
  unfold execTapedEvent
  cases p with
  | waitTape => exact absurd rfl hp
  | running => rw [h]; rfl
  | suspended => rw [h]; rfl
  | stalled => rw [h]; rfl

theorem exec_tapedEvent_ignored (h : s.tpc.transfer = none ∨ s.tpc.transfer.map Transfer.op = some .dump
    ∨ s.tpc.transfer = some ⟨.tape, .waitTape⟩) : exec .tapedEvent s = .next s := by
  change execTapedEvent s = _
  unfold execTapedEvent
  rcases h with h | h | h
  · rw [h]
  · rcases ht : s.tpc.transfer with _ | ⟨_ | _, p⟩
    · rfl
    · simp [ht] at h
    · rfl
  · rw [h]

theorem exec_dumpEvent {p : TransferPhase} (h : s.tpc.transfer = some ⟨.dump, p⟩) :
    exec .dumpEvent s = .next (settleTest (purgeTest
      ((transferEnded s).updTpc (fun t => { t with rejectGate := t.rejectGate + 1 })))) := by
  change execDumpEvent s = _
  unfold execDumpEvent
  rw [h]
  rfl

theorem exec_dumpEvent_ignored (h : s.tpc.transfer = none ∨ s.tpc.transfer.map Transfer.op = some .tape) :
    exec .dumpEvent s = .next s := by
  change execDumpEvent s = _
  unfold execDumpEvent
  rcases ht : s.tpc.transfer with _ | ⟨_ | _, p⟩
  · rfl
  · rfl
  · simp [ht] at h

theorem exec_taperTimeout {op : TransferOp} (h : s.tpc.transfer = some ⟨op, .running⟩) (htimer : s.tpc.timer = .running 0) :
    exec .taperTimeout s = .next (post .taperJam none (driveTransfer op .stop
      (s.updTpc ({ · with transfer := some ⟨op, .stalled⟩, timer := .stopped, restartDue := false })))) := by
  change execTaperTimeout s = _
  unfold execTaperTimeout
  simp only [h, htimer]
  rfl

theorem exec_taperRestart {op : TransferOp} (h : s.tpc.transfer = some ⟨op, .stalled⟩) (hdue : s.tpc.restartDue = true)
    (hlevel : s.alc.effective ≠ .stop) :
    exec .taperRestart s = .next (commandTransfer op (s.updTpc ({ · with restartDue := false }))) := by
  change execTaperRestart s = _
  unfold execTaperRestart
  simp only [h]
  exact if_pos ⟨hdue, hlevel⟩

theorem driveTransfer_out (op : TransferOp) (c : LineCommand) (s : State) : driveTransfer op c s = { s with
    out := match op with
      | .tape => { s.out with reTaper := c }
      | .dump => { s.out with gate := c } } := by
  cases op <;> rfl

/-- R75: an operation commanded, as one update. -/
theorem commandTransfer_eq (op : TransferOp) (s : State) : commandTransfer op s = { s with
    tpc := { s.tpc with
      transfer := some ⟨op, if s.alc.estop = .asserted then .suspended else .running⟩
      timer := if s.alc.estop = .asserted then .suspended s.tables.constants.taperTimeout
        else .running s.tables.constants.taperTimeout }
    out := match op with
      | .tape => { s.out with reTaper := .start }
      | .dump => { s.out with gate := .start } } := by
  unfold commandTransfer
  rw [driveTransfer_out]
  by_cases h : s.alc.estop = .asserted
  · simp [h, State.updTpc]
  · simp [h, State.updTpc]

/-- R76: in a mode with a Tape List the TAPING entry joins it. -/
theorem releaseTaped_joins {u : State} {w : WindowEntry} {rest : List WindowEntry} {k : Captured}
    (hw : u.csq.window = w :: rest) (hk : w.captured = some k) (hm : u.mode ≠ .sequenceOnly) :
    releaseTaped u = joinTape ⟨w.entry, k, w.discard⟩ (u.updCsq ({ · with window := rest })) := by
  simp [releaseTaped, hw, hk, hm]

/-- R77: in SEQUENCE ONLY it ends TAPED. -/
theorem releaseTaped_ends {u : State} {w : WindowEntry} {rest : List WindowEntry}
    (hw : u.csq.window = w :: rest) (hm : u.mode = .sequenceOnly) :
    releaseTaped u = endTaped w (u.updCsq ({ · with window := rest })) := by
  simp [releaseTaped, hw, hm]

end Sys2Proof.Machine

open Sys2Proof Sys2Proof.Machine

/-- Settles O46: each event of the taper as one update of the part. -/
theorem taperEvents : Obligations.TaperEvents := by
  unfold Obligations.TaperEvents
  intro s op p
  refine ⟨fun w rest k htape hp hwindow hk => ⟨fun hmode => ?_, fun hmode => ?_⟩, exec_tapedEvent_ignored,
    fun hdump => ?_, exec_dumpEvent_ignored, fun hrun htimer => ?_, fun hstalled hdue hlevel => ?_⟩
  · rw [exec_tapedEvent htape hp, releaseTaped_joins (u := transferEnded s) hwindow hk hmode, transferTests rfl]
    rfl
  · rw [exec_tapedEvent htape hp, releaseTaped_ends (u := transferEnded s) hwindow hmode, transferTests rfl]
    simp only [endTaped, hk]
    rfl
  · rw [exec_dumpEvent hdump, transferTests rfl]
    rfl
  · rw [exec_taperTimeout hrun htimer, driveTransfer_out]
    cases op <;> rfl
  · rw [exec_taperRestart hstalled hdue hlevel, commandTransfer_eq]
    cases op <;> rfl

end

section
/-! PROOF. RUN, HOLD and STOP, by request and by button (R146, R38, R39, R147). -/

namespace Sys2Proof.Machine

variable {s : State}

/-! ### A recomputation neither reads nor changes LPU -/

theorem idleTest_blind : LpuBlind idleTest := LpuBlind.ite (fun _ _ => Iff.rfl) (fun _ _ => rfl) LpuBlind.id

theorem heldTest_blind : LpuBlind heldTest := fun _ _ => rfl

theorem resumeStep_blind : LpuBlind resumeStep := fun g s => by
  unfold resumeStep
  simp only [updLpu_csq]
  split <;> rfl

theorem resumeTransfer_blind : LpuBlind resumeTransfer := fun g s => by
  unfold resumeTransfer
  simp only [updLpu_tpc]
  split
  next op _ => cases op <;> rfl
  · rfl

theorem markRestarts_blind : LpuBlind markRestarts := fun g s => by
  rw [markRestarts_spec, markRestarts_spec]
  rfl

theorem levelTold_blind (old : Level) : LpuBlind (levelTold old) := by
  refine LpuBlind.ite (fun _ _ => Iff.rfl) (fun _ _ => rfl) ?_
  by_cases hold : old = .stop
  · simp only [hold, if_true]
    refine markRestarts_blind.comp (LpuBlind.ite (fun _ _ => Iff.rfl) ?_ heldTest_blind)
    exact resumeTransfer_blind.comp (resumeStep_blind.comp heldTest_blind)
  · simp only [hold, if_false]
    exact heldTest_blind

/-- R147, R148: ALC with its level and its lamps as the inputs give them. -/
def Alc.levelled (a : Alc) : Alc := lampsOf { a with effective := effectiveOf a }

theorem recompute_eq (s : State) : recompute s = idleTest (if effectiveOf s.alc = s.alc.effective then s.updAlc Alc.levelled
    else levelTold s.alc.effective (s.updAlc Alc.levelled)) := rfl

theorem recompute_blind : LpuBlind recompute := fun g s => by
  have hsame : (s.updLpu g).updAlc Alc.levelled = (s.updAlc Alc.levelled).updLpu g := rfl
  rw [recompute_eq, recompute_eq, hsame, updLpu_alc]
  by_cases h : effectiveOf s.alc = s.alc.effective
  · rw [if_pos h, if_pos h, idleTest_blind]
  · rw [if_neg h, if_neg h, levelTold_blind, idleTest_blind]

theorem recompute_updAlc_blind (f : Alc → Alc) : LpuBlind (fun s => recompute (s.updAlc f)) := fun g s =>
  recompute_blind g (s.updAlc f)

/-! ### The level asked for -/

/-- R147: the level is asked for, recomputed and told, and nothing else of ALC changes. -/
def Goes (s : State) (r : Level) (t : State) : Prop :=
  LevelOnly s t ∧ LevelTold s t ∧ LevelsFollow t.alc ∧ t.alc = { s.alc with
    requested := r, effective := t.alc.effective, red := t.alc.red, amber := t.alc.amber, green := t.alc.green }

theorem LevelOnly.updLpu {s t : State} (h : LevelOnly s t) (f : Lpu → Lpu) : LevelOnly s (t.updLpu f) :=
  congrArg (State.updLpu · f) h

/-- R147: what a recomputation after a change of ALC alone does, seen from before the change. -/
theorem recompute_updAlc_told (f : Alc → Alc) (h : (f s.alc).effective = s.alc.effective) :
    LevelOnly s (recompute (s.updAlc f)) ∧ LevelTold s (recompute (s.updAlc f))
      ∧ SequencerTold s (recompute (s.updAlc f)) := by
  obtain ⟨honly, htold, hseq⟩ := recompute_told (s.updAlc f)
  simp only [LevelTold, SequencerTold, updAlc_alc, h] at htold hseq
  exact ⟨honly, htold, hseq⟩

theorem recompute_follows (s : State) : LevelsFollow (recompute s).alc := levelInv_follows _ (recompute_levels s)

theorem recompute_goes (s : State) (r : Level) :
    Goes s r (recompute (s.updAlc ({ · with requested := r })))
      ∧ SequencerTold s (recompute (s.updAlc ({ · with requested := r }))) := by
  obtain ⟨honly, htold, hseq⟩ := recompute_updAlc_told (s := s) ({ · with requested := r }) rfl
  refine ⟨⟨honly, htold, recompute_follows _, ?_⟩, hseq⟩
  rw [recompute_alc]
  rfl

theorem takeHold_goes (s : State) :
    Goes s (if s.alc.requested = .run then .hold else s.alc.requested) (takeHold s) ∧ SequencerTold s (takeHold s) :=
  recompute_goes s _

theorem takeStop_goes (s : State) : Goes s .stop (takeStop s) ∧ SequencerTold s (takeStop s) := recompute_goes s _

theorem Goes.idleToRunning {r : Level} {t : State} (h : Goes s r t) : Goes s r (idleToRunning t) := by
  obtain ⟨honly, htold, hfollow, halc⟩ := h
  unfold Machine.idleToRunning
  split
  · refine ⟨?_, htold, hfollow, halc⟩
    exact congrArg (State.updCsq · ({ · with seq := .running })) honly
  · exact ⟨honly, htold, hfollow, halc⟩

/-! ### RUN (R146, R38) -/

/-- R39: the test between RUNNING and HELD concerns no other state. -/
theorem heldOf_other (l : Level) (full : Bool) {q : SeqState} (h1 : q ≠ .running) (h2 : q ≠ .held) : heldOf l full q = q := by
  cases q <;> simp_all [heldOf]

theorem SequencerTold.other {s t : State} (h : SequencerTold s t) (h1 : s.csq.seq ≠ .running) (h2 : s.csq.seq ≠ .held) :
    t.csq.seq = s.csq.seq := by
  unfold SequencerTold at h
  simpa [heldOf_other, h1, h2] using h

/-- R38: at a level other than requested STOP no sequencer becomes IDLE. -/
theorem SequencerTold.not_idle {s t : State} (h : SequencerTold s t) (hreq : t.alc.requested ≠ .stop)
    (hseq : s.csq.seq ≠ .idle) : t.csq.seq ≠ .idle := by
  unfold SequencerTold at h
  simp only [hreq, false_and, and_false, if_false] at h
  rw [h]
  split
  · exact hseq
  · cases hq : s.csq.seq <;> simp_all [heldOf] <;> split <;> simp

/-- What R146 and R38 say of a RUN that is taken. -/
def Runs (s t : State) : Prop :=
  Goes s .run t ∧ (s.csq.seq = .idle → s.mode ≠ .insertOnly → t.csq.seq = .running)
    ∧ (s.csq.seq = .idle → s.mode = .insertOnly → t.csq.seq = .idle)
    ∧ (s.csq.seq = .sweeping ∨ s.csq.seq = .purging → t.csq.seq = s.csq.seq)
    ∧ (s.csq.seq ≠ .idle → SequencerTold s t)

theorem idleToRunning_of_idle {t : State} (h : t.csq.seq = .idle) (hm : t.mode ≠ .insertOnly) :
    (idleToRunning t).csq.seq = .running := by
  rw [idleToRunning, if_pos ⟨h, hm⟩]
  rfl

theorem idleToRunning_of_busy {t : State} (h : t.csq.seq ≠ .idle) : idleToRunning t = t := if_neg fun hc => h hc.1

theorem takeRun_runs (s : State) : Runs s (takeRun s) := by
  obtain ⟨hgoes, htold⟩ := recompute_goes s .run
  have hmode : (recompute (s.updAlc ({ · with requested := .run }))).mode = s.mode := by simp [State.mode]
  have hbusy : s.csq.seq ≠ .idle → takeRun s = recompute (s.updAlc ({ · with requested := .run })) := fun h =>
    idleToRunning_of_busy (htold.not_idle (by simp) h)
  refine ⟨hgoes.idleToRunning, fun hidle hm => ?_, fun hidle hm => ?_, fun hother => ?_, fun h => (hbusy h) ▸ htold⟩
  · refine idleToRunning_of_idle ?_ (by rwa [hmode])
    rw [htold.other (by simp [hidle]) (by simp [hidle]), hidle]
  · rw [takeRun, idleToRunning, if_neg (by simp [hmode, hm])]
    rw [htold.other (by simp [hidle]) (by simp [hidle]), hidle]
  · have hne : s.csq.seq ≠ .idle ∧ s.csq.seq ≠ .running ∧ s.csq.seq ≠ .held := by
      rcases hother with h | h <;> simp [h]
    obtain ⟨hidle, hrun, hheld⟩ := hne
    rw [hbusy hidle]
    exact htold.other hrun hheld

theorem runAllowed_iff : runAllowed s = true ↔ s.alc.stopCh.entries = [] ∧ s.alc.estop = .released := by
  simp [runAllowed]

/-! ### The requests (R162) -/

theorem idleToRunning_blind : LpuBlind idleToRunning :=
  LpuBlind.ite (fun _ _ => Iff.rfl) (fun _ _ => rfl) LpuBlind.id

theorem takeRun_blind : LpuBlind takeRun :=
  idleToRunning_blind.comp (recompute_updAlc_blind ({ · with requested := .run }))

theorem takeHold_blind : LpuBlind takeHold :=
  recompute_updAlc_blind (fun a => { a with requested := if a.requested = .run then .hold else a.requested })

theorem takeStop_blind : LpuBlind takeStop := recompute_updAlc_blind ({ · with requested := .stop })

theorem LpuBlind.lpu {f : State → State} (h : LpuBlind f) (s : State) : (f s).lpu = s.lpu :=
  (congrArg State.lpu (h (fun _ => s.lpu) s) :)

theorem takeRun_lpu (s : State) : (takeRun s).lpu = s.lpu := takeRun_blind.lpu s

theorem actRun_blind : actRun.LpuBlind := fun g s => by
  unfold actRun
  rw [takeRun_blind g s]
  show (if runAllowed s then _ else _) = _
  split <;> rfl

theorem actHold_blind : actHold.LpuBlind := fun g s => by
  unfold actHold
  rw [takeHold_blind g s]
  rfl

theorem actStop_blind : actStop.LpuBlind := fun g s => by
  unfold actStop
  rw [takeStop_blind g s]
  rfl

theorem actRun_taken (h : runAllowed s = true) : actRun s = (takeRun s, .ok, levelsOf (takeRun s)) := by
  rw [actRun, if_pos h]

theorem actRun_refused (h : ¬ runAllowed s = true) : actRun s = (s, .alarmActive, levelsOf s) := by
  rw [actRun, if_neg h]

theorem exec_run_taken (tag : Byte) (hs : Takes s) (h : runAllowed s = true) :
    exec (.run tag) s = .next (answered 0x20 tag .ok (levelsOf (takeRun s)) (takeRun s)) :=
  next_request actRun_blind hs (by decide) (actRun_taken h)

theorem exec_hold (tag : Byte) (hs : Takes s) :
    exec (.hold tag) s = .next (answered 0x21 tag .ok (levelsOf (takeHold s)) (takeHold s)) :=
  next_request actHold_blind hs (by decide) rfl

theorem exec_stop (tag : Byte) (hs : Takes s) :
    exec (.stop tag) s = .next (answered 0x22 tag .ok (levelsOf (takeStop s)) (takeStop s)) :=
  next_request actStop_blind hs (by decide) rfl

/-- The answer goes by the levels of the part it is made in and by LPU alone. -/
theorem answered_lpu {t : State} (h : t.lpu = s.lpu) (kind tag : Byte) (code : ResultCode) (data : List Byte) :
    (answered kind tag code data t).lpu = (answered kind tag code data s).lpu := by
  show t.lpu.pushOwn _ = s.lpu.pushOwn _
  rw [h]

theorem Goes.answered {r : Level} {t : State} (h : Goes s r t) (kind tag : Byte) (code : ResultCode) (data : List Byte) :
    Goes s r (answered kind tag code data t) := by
  obtain ⟨honly, htold, hfollow, halc⟩ := h
  exact ⟨honly.updLpu _, htold, hfollow, halc⟩

theorem Runs.answered {t : State} (h : Runs s t) (kind tag : Byte) (code : ResultCode) (data : List Byte) :
    Runs s (answered kind tag code data t) := by
  obtain ⟨hgoes, hrest⟩ := h
  exact ⟨hgoes.answered kind tag code data, hrest⟩

/-! ### The sequencer after a STOP, and after a RUN from HELD (R38, R39) -/

theorem takeStop_level (s : State) : (takeStop s).alc.requested = .stop ∧ (takeStop s).alc.effective = .stop := by
  unfold takeStop
  rw [recompute_effective, effectiveOf_requested_stop rfl]
  exact ⟨by simp, rfl⟩

theorem takeStop_idle (hseq : s.csq.seq = .running ∨ s.csq.seq = .held) (hwindow : s.csq.window = [])
    (hcycle : s.csq.cycle = .rest) : (takeStop s).csq.seq = .idle := by
  obtain ⟨hreq, -⟩ := takeStop_level s
  obtain ⟨-, htold⟩ := takeStop_goes s
  unfold SequencerTold at htold
  simp only [hreq, hwindow, hcycle, and_true] at htold
  rw [htold, if_pos]
  split
  · exact hseq
  · rcases hseq with h | h <;> rw [h] <;> simp only [heldOf] <;> split <;> simp

theorem takeStop_held (hseq : s.csq.seq = .running) (hlevel : s.alc.effective ≠ .stop) (hwindow : s.csq.window ≠ []) :
    (takeStop s).csq.seq = .held := by
  obtain ⟨hreq, heff⟩ := takeStop_level s
  obtain ⟨-, htold⟩ := takeStop_goes s
  rw [htold.at_stop hreq heff (.inr ⟨hseq, hlevel⟩), if_neg (fun h => hwindow h.1)]

theorem takeRun_effective (hchannel : s.alc.stopCh.entries = []) (hestop : s.alc.estop = .released) :
    (takeRun s).alc.effective ≠ .stop := by
  have heff : (takeRun s).alc.effective = effectiveOf { s.alc with requested := .run } := by
    rw [show (takeRun s).alc = (recompute (s.updAlc ({ · with requested := .run }))).alc from ?_, recompute_effective]
    · rfl
    · unfold takeRun Machine.idleToRunning
      split <;> rfl
  rw [heff, effectiveOf_eq]
  simp [hchannel, hestop]
  split <;> simp

/-- R39: HELD goes back to RUNNING when the level has left STOP and the festoon has room. -/
theorem takeRun_from_held (hseq : s.csq.seq = .held) (hlevel : s.alc.effective = .stop)
    (hchannel : s.alc.stopCh.entries = []) (hestop : s.alc.estop = .released) :
    (takeRun s).csq.seq = if festoonFull s.tables s.tpc.tape then .held else .running := by
  obtain ⟨⟨-, -, -, halc⟩, -, -, -, htold⟩ := takeRun_runs s
  have heff := takeRun_effective hchannel hestop
  have hreq : (takeRun s).alc.requested = .run := by rw [halc]
  have hnow : (takeRun s).csq.seq = heldOf (takeRun s).alc.effective (festoonFull s.tables s.tpc.tape) .held := by
    have h := htold (by rw [hseq]; decide)
    unfold SequencerTold at h
    simpa [hreq, hlevel, heff, hseq] using h
  rw [hnow]
  simp only [heldOf, bne_iff_ne, ne_eq, heff, not_false_eq_true, Bool.and_eq_true, Bool.not_eq_true']
  cases festoonFull s.tables s.tpc.tape <;> simp

theorem festoonFull_iff : festoonFull s.tables s.tpc.tape = true
    ↔ s.mode = .sequenceInsert ∧ s.tables.constants.festoon ≤ s.tpc.tape.length := by
  simp [festoonFull, State.mode]

end Sys2Proof.Machine

open Sys2Proof Sys2Proof.Machine

/-- Settles O29: RUN, HOLD and STOP by request and by button. -/
theorem runLevels : Obligations.RunLevels := by
  unfold Obligations.RunLevels
  refine ⟨fun tag s => ⟨fun hfree hs => ?_, fun hno hs => ?_, fun hfree => ?_, fun hno => ?_, fun hs => ?_, ?_, fun hs => ?_⟩,
    fun tag s hs hwindow => ⟨fun hseq hlevel => ?_, fun hseq hlevel hchannel hestop => ?_⟩⟩
  · exact ⟨_, exec_run_taken tag hs (runAllowed_iff.mpr hfree), (takeRun_runs s).answered _ _ _ _,
      answered_lpu (takeRun_lpu s) _ _ _ _⟩
  · exact next_request actRun_blind hs (by decide) (actRun_refused (mt runAllowed_iff.mp hno))
  · refine ⟨takeRun s, ?_, takeRun_runs s, takeRun_lpu s⟩
    exact congrArg Host.Outcome.next (if_pos (runAllowed_iff.mpr hfree))
  · exact congrArg Host.Outcome.next (if_neg (mt runAllowed_iff.mp hno))
  · obtain ⟨hgoes, htold⟩ := takeHold_goes s
    exact ⟨_, exec_hold tag hs, ⟨hgoes.answered _ _ _ _, htold⟩, answered_lpu (by simp [takeHold]) _ _ _ _⟩
  · exact ⟨takeHold s, rfl, takeHold_goes s, by simp [takeHold]⟩
  · obtain ⟨hgoes, htold⟩ := takeStop_goes s
    exact ⟨_, exec_stop tag hs, ⟨hgoes.answered _ _ _ _, htold⟩, answered_lpu (by simp [takeStop]) _ _ _ _, takeStop_idle⟩
  · exact ⟨_, exec_stop tag hs, takeStop_held hseq hlevel hwindow⟩
  · refine ⟨_, exec_run_taken tag hs (runAllowed_iff.mpr ⟨hchannel, hestop⟩), fun hfull => ?_, fun hroom => ?_⟩
    · exact (takeRun_from_held hseq hlevel hchannel hestop).trans (if_pos (festoonFull_iff.mpr hfull))
    · exact (takeRun_from_held hseq hlevel hchannel hestop).trans (if_neg (mt festoonFull_iff.mp hroom))

end

section
/-! PROOF. The E-stop line asserted and released (R145, R147, R44, R80, R128, R136). -/

namespace Sys2Proof.Machine

variable {s : State}

/-! ### The chain drive keeps its HALT -/

theorem finishNotice_out (o : RecordOutcome) (e : Entry) (u : State) : (finishNotice o e u).out = u.out := by
  unfold finishNotice
  split <;> rfl

theorem finishEntry_out (o : RecordOutcome) (c : HeadCycle) (u : State) : (finishEntry o c u).out = u.out := by
  unfold finishEntry
  split
  · rfl
  · rw [finishNotice_out]
    simp [countOutcome]

theorem endCycleWith_out (o : RecordOutcome) (c : HeadCycle) (u : State) : (endCycleWith o c u).out = u.out := by
  unfold endCycleWith
  split
  · rfl
  · exact finishEntry_out o c u

theorem failSetup_chainDrive (u : State) : (failSetup u).out.chainDrive = u.out.chainDrive := by
  simp [failSetup]

theorem abortCycle_chainDrive (c : HeadCycle) (u : State) : (abortCycle c u).out.chainDrive = u.out.chainDrive := by
  have hended := endCycleWith_out (abortOutcome u.hdc.head c.kind) c (shutWindow u)
  show (endCycleWith _ c (shutWindow u)).out.chainDrive = (shutWindow u).out.chainDrive
  rw [hended]

theorem estopHead_chainDrive (u : State) : (estopHead u).out.chainDrive = u.out.chainDrive := by
  unfold estopHead
  split
  · exact failSetup_chainDrive u
  · rfl
  · split
    · exact abortCycle_chainDrive _ u
    · rfl
  · rfl

theorem estopTransfer_chainDrive (u : State) : (estopTransfer u).out.chainDrive = u.out.chainDrive := by
  unfold estopTransfer
  split
  next op _ => cases op <;> rfl
  · rfl

theorem estopTable_chainDrive (u : State) : (estopTable u).out.chainDrive = u.out.chainDrive := by
  unfold estopTable
  simp only []
  split <;> rfl

theorem estopStep_chainDrive {u : State} (h : u.csq.cycle = .step) : (estopStep u).out.chainDrive = .halt := by
  rw [estopStep, if_pos h]
  rfl

/-- R44: a step under way is halted, and nothing that follows commands the drive again. -/
theorem estopped_chainDrive (h : s.csq.cycle = .step) : (estopped s).out.chainDrive = .halt := by
  have hcycle : (estopTold s).csq.cycle = .step := by
    have hview := congrArg EstopView.inStep (estopTold_view s).2
    simpa [estopView, h] using hview
  unfold estopped
  rw [estopTable_chainDrive, estopHead_chainDrive, estopTransfer_chainDrive, estopStep_chainDrive hcycle]

/-! ### What stands after ESTOP_ASSERTED -/

theorem estopTable_inPosition (u : State) : (estopTable u).tbc.inPosition = .none := by
  rw [estopTable_halts]

theorem estopped_alc (h : EstopInv s) : (estopped s).alc = (estopTold s).alc := by
  obtain ⟨hstep, hhead, -⟩ := h.2
  obtain ⟨p, b, -, hv⟩ := estopped_view ⟨hstep, hhead⟩
  exact congrArg EstopView.alc hv

theorem estopTold_effective (s : State) : (estopTold s).alc.effective = .stop := by
  rw [(estopTold_levels s).1, effectiveOf_eq, if_pos (.inr (.inl (estopTold_view s).1))]

theorem estopTold_holds (hmap : s.alc.mapOf .estop = ⟨.stop, false⟩) (hroom : s.alc.stopCh.entries.length < 8) :
    (estopTold s).alc.Holds .stop .estop none :=
  (holds_kept .stop .estop none).recompute (post_holds (s := s.updAlc ({ · with estop := .asserted })) hmap hroom)

/-- R44, R80, R128: what runs is suspended with the time that remains. -/
theorem estopped_suspends (h : EstopInv s) :
    (∀ n, s.csq.cycle = .step → s.csq.stepTimer = .running n →
      (estopped s).csq.cycle = .step ∧ (estopped s).csq.stepTimer = .suspended n)
    ∧ (∀ op n, s.tpc.transfer = some ⟨op, .running⟩ → s.tpc.timer = .running n →
      (estopped s).tpc.transfer = some ⟨op, .suspended⟩ ∧ (estopped s).tpc.timer = .suspended n)
    ∧ (∀ op n, s.tbc.handler = some ⟨op, .running⟩ → s.tbc.handlerTimer = .running n →
      (estopped s).tbc.handler = some ⟨op, .suspended⟩ ∧ (estopped s).tbc.handlerTimer = .suspended n) := by
  obtain ⟨hstep, hhead, -⟩ := h.2
  obtain ⟨p, b, -, hv⟩ := estopped_view ⟨hstep, hhead⟩
  have hcycle : ((estopped s).csq.cycle == .step) = (s.csq.cycle == .step) := congrArg EstopView.inStep hv
  have hstepTimer : (estopped s).csq.stepTimer =
      if s.csq.cycle == .step then s.csq.stepTimer.suspend else s.csq.stepTimer := congrArg EstopView.stepTimer hv
  have htransfer : (estopped s).tpc.transfer = suspendedTransfer s.tpc.transfer := congrArg EstopView.transfer hv
  have htimer : (estopped s).tpc.timer = if s.tpc.transfer.map Transfer.phase = some .running then s.tpc.timer.suspend
      else s.tpc.timer := congrArg EstopView.timer hv
  have hhandler : (estopped s).tbc.handler = suspendedHandler s.tbc.handler := congrArg EstopView.handler hv
  have hhandlerTimer : (estopped s).tbc.handlerTimer =
      if s.tbc.handler.map HandlerOperation.phase = some .running then s.tbc.handlerTimer.suspend
      else s.tbc.handlerTimer := congrArg EstopView.handlerTimer hv
  refine ⟨fun n hc ht => ?_, fun op n hr ht => ?_, fun op n hr ht => ?_⟩
  · rw [hstepTimer, ht, hc]
    exact ⟨by simpa [hc] using hcycle, rfl⟩
  · rw [htransfer, htimer, hr, ht]
    exact ⟨rfl, rfl⟩
  · rw [hhandler, hhandlerTimer, hr, ht]
    exact ⟨rfl, rfl⟩

end Sys2Proof.Machine

open Sys2Proof Sys2Proof.Machine

/-- Settles O31: the line asserted halts what runs, the line released tells the level. -/
theorem estopLine : Obligations.EstopLine := by
  unfold Obligations.EstopLine
  intro s
  refine ⟨fun hasserted => ?_, fun h hreleased => ⟨estopped s, exec_estopAsserted hreleased, ?_⟩, _, rfl, ?_⟩
  · exact if_neg (by rw [hasserted]; decide)
  · have halc := estopped_alc h
    obtain ⟨hstep, htransfer, hhandler⟩ := estopped_suspends h
    refine ⟨halc ▸ (estopTold_view s).1, halc ▸ estopTold_effective s, (estopped_estop h).2, estopTable_inPosition _,
      fun hmap hroom => ?_, fun n hc ht => ?_, htransfer, hhandler⟩
    · rw [halc]
      exact (any_sameAs_iff _ .stop _ _).mpr (estopTold_holds hmap hroom)
    · obtain ⟨hcycle, htimer⟩ := hstep n hc ht
      exact ⟨hcycle, htimer, estopped_chainDrive hc⟩
  · obtain ⟨honly, htold, hseq⟩ := recompute_updAlc_told (s := s) ({ · with estop := .released }) rfl
    refine ⟨honly, htold, hseq, recompute_follows _, ?_, by simp⟩
    rw [recompute_alc]
    rfl

end

section
/-! PROOF. The horn, ALARM READ, and the clears of one entry by request and by button (R145, R149 to R154). -/

namespace Sys2Proof.Machine

variable {s : State}

/-! ### Channels and their codes -/

theorem ChannelId.ofCode_eq {n : Nat} {c : ChannelId} (h : n = c.code) : ChannelId.ofCode n = some c := by
  subst h
  cases c <;> rfl

theorem ChannelId.ofCode_none {n : Nat} (h : 3 < n) : ChannelId.ofCode n = none := by
  match n, h with
  | _ + 4, _ => rfl

/-! ### The clear condition (R150) -/

/-- R150: the clear condition of an entry, in words. -/
def Met (s : State) (e : AlarmEntry) : Prop :=
  (e.kind = .estop → s.alc.estop = .released) ∧ (e.kind = .tapeBreak → s.tpc.tension = .normal)
    ∧ (e.kind = .tableLimit → s.tbc.limits = .released)
    ∧ (e.kind = .noStation → componentValid s.tables (e.subject.getD 0) = false
        ∨ (resolveStation s.tables s.shu (componentAt s.tables (e.subject.getD 0)).station).isSome = true)

theorem clearable_iff (s : State) (e : AlarmEntry) : clearable s e = true ↔ Met s e := by
  unfold clearable Met
  cases e.kind <;> simp

/-! ### One entry leaves its channel (R153) -/

theorem find_seq {before after : List AlarmEntry} {e : AlarmEntry} (hb : ∀ x ∈ before, x.seq ≠ e.seq) :
    (before ++ e :: after).find? (·.seq == e.seq) = some e := by
  rw [List.find?_append, List.find?_eq_none.mpr (by simpa using hb)]
  simp

theorem erase_seq {before after : List AlarmEntry} {e : AlarmEntry} (hb : ∀ x ∈ before, x.seq ≠ e.seq) :
    (before ++ e :: after).eraseP (·.seq == e.seq) = before ++ after := by
  rw [List.eraseP_append_right _ (by simpa using hb), List.eraseP_cons_of_pos (by simp)]

theorem remove_channel (a : Alc) (c d : ChannelId) (seq : Word16) : (a.remove c seq).channel d =
    if d = c then { a.channel c with entries := (a.channel c).entries.eraseP (·.seq == seq) } else a.channel d :=
  setChannel_channel ..

@[simp] theorem remove_frame (a : Alc) (c : ChannelId) (seq : Word16) :
    (a.remove c seq).ms = a.ms ∧ (a.remove c seq).map = a.map ∧ (a.remove c seq).nextSeq = a.nextSeq
      ∧ (a.remove c seq).requested = a.requested ∧ (a.remove c seq).effective = a.effective
      ∧ (a.remove c seq).estop = a.estop ∧ (a.remove c seq).horn = a.horn := by
  simp [Alc.remove]

/-- R153: an entry has left channel `c`, in which `left` stand, and the level has been recomputed. -/
def Cleared (s : State) (c : ChannelId) (left : List AlarmEntry) (t : State) : Prop :=
  LevelOnly s t ∧ LevelTold s t ∧ SequencerTold s t ∧ LevelsFollow t.alc
    ∧ t.alc.requested = s.alc.requested ∧ t.alc.nextSeq = s.alc.nextSeq
    ∧ t.alc.ms = s.alc.ms ∧ t.alc.map = s.alc.map ∧ t.alc.estop = s.alc.estop
    ∧ t.alc.channel c = { s.alc.channel c with entries := left }
    ∧ ∀ d, d ≠ c → t.alc.channel d = s.alc.channel d

/-- A change of ALC that takes an entry out of channel `c` and leaves the levels, the line and the map. -/
structure Leaves (a b : Alc) (c : ChannelId) (left : List AlarmEntry) : Prop where
  levels : b.effective = a.effective ∧ b.requested = a.requested ∧ b.estop = a.estop
  counts : b.nextSeq = a.nextSeq ∧ b.ms = a.ms ∧ b.map = a.map
  channel : ∀ d, b.channel d = if d = c then { a.channel c with entries := left } else a.channel d

theorem Leaves.cleared {f : Alc → Alc} {c : ChannelId} {left : List AlarmEntry} (h : Leaves s.alc (f s.alc) c left) :
    Cleared s c left (recompute (s.updAlc f)) := by
  obtain ⟨⟨heff, hreq, hestop⟩, ⟨hseq, hms, hmap⟩, hch⟩ := h
  obtain ⟨honly, htold, hsequencer⟩ := recompute_updAlc_told f heff
  refine ⟨honly, htold, hsequencer, recompute_follows _, ?_⟩
  simp only [recompute_frame, recompute_channel, updAlc_alc, hreq, hseq, hms, hmap, hestop, hch, if_true, true_and]
  exact fun d hd => if_neg hd

/-- The removal, with the horn as it stands or silenced. -/
theorem remove_leaves {a b : Alc} {c : ChannelId} {before after : List AlarmEntry} {e : AlarmEntry}
    (hb : b = a ∨ b = { a with horn := false }) (he : (a.channel c).entries = before ++ e :: after)
    (hnew : ∀ x ∈ before, x.seq ≠ e.seq) : Leaves a (b.remove c e.seq) c (before ++ after) := by
  have hch : ∀ d, b.channel d = a.channel d := by
    rcases hb with rfl | rfl
    · exact fun d => rfl
    · intro d
      cases d <;> rfl
  refine ⟨?_, ?_, fun d => ?_⟩
  · rcases hb with rfl | rfl <;> simp
  · rcases hb with rfl | rfl <;> simp
  · rw [remove_channel, hch, hch, he, erase_seq hnew]

/-! ### ESTOP is posted again, or not (R145, R153) -/

theorem repostEstop_ordinary {t : State} (h : t.alc.estop = .released ∨ ∃ x ∈ t.alc.stopCh.entries, x.kind = .estop) :
    repostEstop t = t := by
  refine if_neg fun ⟨hestop, hnone⟩ => ?_
  rcases h with hr | ⟨x, hx, hk⟩
  · rw [hr] at hestop
    contradiction
  · have hne := List.all_eq_true.mp hnone x hx
    simp [hk] at hne

/-- R153: an ordinary clear: the line is RELEASED, the channel another, or an ESTOP entry is still there. -/
theorem clearEntry_ordinary {c : ChannelId} {before after : List AlarmEntry} {e : AlarmEntry}
    (he : (s.alc.channel c).entries = before ++ e :: after) (hnew : ∀ x ∈ before, x.seq ≠ e.seq)
    (h : s.alc.estop = .released ∨ c ≠ .stop ∨ ∃ x ∈ before ++ after, x.kind = .estop) :
    clearEntry c e.seq s = recompute (s.updAlc (·.remove c e.seq)) := by
  unfold clearEntry
  simp only []
  by_cases hc : c = .stop
  · subst hc
    refine (if_pos rfl).trans (repostEstop_ordinary ?_)
    obtain ⟨⟨-, -, hestop⟩, -, hch⟩ := remove_leaves (.inl rfl) he hnew
    refine h.imp (fun hr => ?_) (fun hrest => ?_)
    · simpa [hestop] using hr
    · have hentries : (recompute (s.updAlc (·.remove .stop e.seq))).alc.stopCh.entries = before ++ after := by
        have hstop := hch .stop
        simp only [if_true] at hstop
        simpa [Alc.channel] using congrArg Channel.entries hstop
      rw [hentries]
      exact hrest.resolve_left (fun hne => hne rfl)
  · exact if_neg hc

/-- R142, R143, R145, R168: ESTOP joins the STOP channel while no sweep runs. -/
structure Posted (s t : State) : Prop where
  only : LevelOnly s t
  follow : LevelsFollow t.alc
  stop : t.alc.requested = .stop ∧ t.alc.effective = .stop ∧ t.alc.horn = true
  counts : t.alc.nextSeq = s.alc.nextSeq + 1 ∧ t.alc.ms = s.alc.ms ∧ t.alc.map = s.alc.map ∧ t.alc.estop = s.alc.estop
  channel : ∀ d, t.alc.channel d = if d = .stop
    then { s.alc.stopCh with entries := s.alc.stopCh.entries ++ [newEntry s.alc .stop .estop none] } else s.alc.channel d
  lpu : t.lpu = s.lpu.notice (newEntry s.alc .stop .estop none)

theorem post_estop_posted (hsweep : s.shu.sweep = none) (hmap : s.alc.mapOf .estop = ⟨.stop, false⟩)
    (hnew : ∀ x ∈ s.alc.stopCh.entries, x.kind ≠ .estop) (hroom : s.alc.stopCh.entries.length < 8) :
    Posted s (post .estop none s) := by
  have hnone : ¬ s.alc.Holds .stop .estop none := fun ⟨e, he, hk, _⟩ => hnew e he hk
  obtain ⟨hreq, heff⟩ := post_appends_level hmap hnone hroom
  have honly : LevelOnly s (post .estop none s) := post_levelOnly hsweep
  have hposted : post .estop none s = recompute (appended .stop .estop none s) := by
    rw [post_appends_stop hmap hnone hroom, abortSweep_none (by exact hsweep)]
  rw [hposted] at hreq heff honly ⊢
  refine ⟨honly, recompute_follows _, ⟨hreq, heff, ?_⟩, ?_, fun d => ?_, by simp [appended]⟩
  · simp [appended, Alc.append]
  · simp [appended, Alc.append]
  · rw [recompute_channel]
    exact append_channel s.alc .stop d _

/-- What a clear that posts ESTOP again leaves. -/
def Reposted (s t : State) : Prop :=
  LevelOnly s t ∧ LevelsFollow t.alc ∧ t.alc.requested = .stop
    ∧ t.alc.effective = .stop ∧ t.alc.horn = true ∧ t.alc.nextSeq = s.alc.nextSeq + 1 ∧ t.alc.ms = s.alc.ms
    ∧ t.alc.map = s.alc.map ∧ t.alc.estop = s.alc.estop ∧ ∀ d, d ≠ .stop → t.alc.channel d = s.alc.channel d

theorem LevelOnly.trans {s t u : State} (h : LevelOnly s t) (h' : LevelOnly t u) : LevelOnly s u := by
  unfold LevelOnly at h h'
  rw [h] at h'
  exact h'

/-- R145: the entry ESTOP gets when it is posted again. -/
def estopEntry (s : State) : AlarmEntry := newEntry s.alc .stop .estop none

/-- R145, R153: the STOP channel is left without an ESTOP entry under the line. -/
theorem clearEntry_reposts {f : Alc → Alc} {left : List AlarmEntry} {seq : Word16}
    (hf : Leaves s.alc ((f s.alc).remove .stop seq) .stop left) (hestop : s.alc.estop = .asserted)
    (hnone : ∀ x ∈ left, x.kind ≠ .estop) (hroom : left.length < 8) (hmap : s.alc.mapOf .estop = ⟨.stop, false⟩)
    (hsweep : s.shu.sweep = none) :
    let t := clearEntry .stop seq (s.updAlc f)
    Reposted s t ∧ t.alc.stopCh.entries = left ++ [estopEntry s] ∧ t.lpu = s.lpu.notice (estopEntry s) := by
  let u := recompute (s.updAlc (fun a => (f a).remove .stop seq))
  have hu : clearEntry .stop seq (s.updAlc f) = repostEstop u := by
    unfold clearEntry
    exact if_pos rfl
  obtain ⟨honly, -, -, -, -, hseq, hms, hmap', hline, hstop, hother⟩ :
    Cleared s .stop left u := Leaves.cleared (f := fun a => (f a).remove .stop seq) hf
  have hentries : u.alc.stopCh.entries = left := congrArg Channel.entries hstop
  have hlpu : u.lpu = s.lpu := by simp [u]
  have hnew : newEntry u.alc .stop .estop none = estopEntry s := by
    simp only [newEntry, estopEntry, hseq, hms]
  have hpost : repostEstop u = post .estop none u := if_pos ⟨hline.trans hestop, by simpa [hentries] using hnone⟩
  have hposted : Posted u (post .estop none u) := by
    refine post_estop_posted ?_ ?_ (by rwa [hentries]) (by rwa [hentries])
    · simpa [u] using hsweep
    · unfold Alc.mapOf
      rw [hmap']
      exact hmap
  obtain ⟨honly', hfollow, ⟨hreq, heff, hhorn⟩, ⟨hseq', hms', hmap'', hline'⟩, hch, hlpu'⟩ := hposted
  intro t
  have ht : t = post .estop none u := hu.trans hpost
  rw [ht]
  refine ⟨⟨honly.trans honly', hfollow, hreq, heff, hhorn, ?_, hms'.trans hms, hmap''.trans hmap', hline'.trans hline,
    fun d hd => ?_⟩, ?_, ?_⟩
  · rw [hseq', hseq]
  · rw [hch, if_neg hd, hother d hd]
  · have hstop' := hch .stop
    rw [if_pos rfl] at hstop'
    have hlist := congrArg Channel.entries hstop'
    rw [hentries, hnew] at hlist
    exact hlist
  · rw [hlpu', hlpu, hnew]

/-! ### The requests (R152, R154, R162) -/

theorem actAlarmClear_unknown {ch : Byte} (seq : Word16) (h : 3 < ch.toNat) : actAlarmClear ch seq s = (s, .badIndex, [0]) := by
  rw [actAlarmClear, ChannelId.ofCode_none h]

theorem actAlarmRead_unknown {ch : Byte} (h : 3 < ch.toNat) :
    actAlarmRead ch s = (s, .badIndex, [ch, 0, 0, 0, 0, 0]) := by
  rw [actAlarmRead, ChannelId.ofCode_none h]

theorem actAlarmClear_absent {ch : Byte} {c : ChannelId} {seq : Word16} (hc : ch.toNat = c.code)
    (h : ∀ e ∈ (s.alc.channel c).entries, e.seq ≠ seq) : actAlarmClear ch seq s = (s, .badIndex, [0]) := by
  have hfind : (s.alc.channel c).entries.find? (·.seq == seq) = none := List.find?_eq_none.mpr (by simpa using h)
  simp only [actAlarmClear, ChannelId.ofCode_eq hc, hfind]

theorem actAlarmClear_found {ch : Byte} {c : ChannelId} {before after : List AlarmEntry} {e : AlarmEntry}
    (hc : ch.toNat = c.code) (he : (s.alc.channel c).entries = before ++ e :: after)
    (hnew : ∀ x ∈ before, x.seq ≠ e.seq) : actAlarmClear ch e.seq s =
      if clearable s e then (clearEntry c e.seq s, .ok, [byte ((clearEntry c e.seq s).alc.channel c).entries.length])
      else (s, .causePresent, [0]) := by
  simp only [actAlarmClear, ChannelId.ofCode_eq hc, he, find_seq hnew]

theorem actAlarmRead_channel {ch : Byte} {c : ChannelId} (hc : ch.toNat = c.code) : actAlarmRead ch s = (s, .ok,
    [ch, byte (s.alc.channel c).entries.length] ++ be16 (s.alc.channel c).overflow ++ be16 (s.alc.channel c).suppressed
      ++ (s.alc.channel c).entries.flatMap alarmBytes) := by
  simp only [actAlarmRead, ChannelId.ofCode_eq hc]

/-- R162: a request that answers the same from every LPU and leaves the part as it is. -/
theorem next_unchanged {kind tag : Byte} {act : Act} {code : ResultCode} {data : List Byte} (hs : Takes s)
    (hk : kind ≠ 0x50#8) (h : ∀ g, act (s.updLpu g) = (s.updLpu g, code, data)) :
    (.next (request kind tag act s) : Result) = .next (answered kind tag code data s) :=
  congrArg Host.Outcome.next (request_answered kind tag act s s code data hs (.inl hk) rfl (h _))

theorem actAlarmClear_ordinary {ch : Byte} {c : ChannelId} {before after : List AlarmEntry} {e : AlarmEntry}
    (hc : ch.toNat = c.code) (he : (s.alc.channel c).entries = before ++ e :: after)
    (hnew : ∀ x ∈ before, x.seq ≠ e.seq) (hmet : clearable s e = true)
    (h : s.alc.estop = .released ∨ c ≠ .stop ∨ ∃ x ∈ before ++ after, x.kind = .estop) :
    actAlarmClear ch e.seq s = (recompute (s.updAlc (·.remove c e.seq)), .ok, [byte (before.length + after.length)]) := by
  obtain ⟨-, -, -, -, -, -, -, -, -, hchannel, -⟩ := (remove_leaves (.inl rfl) he hnew).cleared (f := (·.remove c e.seq))
  rw [actAlarmClear_found hc he hnew, if_pos hmet, clearEntry_ordinary he hnew h, hchannel, List.length_append]

theorem exec_alarmClear_ordinary {tag ch : Byte} {c : ChannelId} {before after : List AlarmEntry} {e : AlarmEntry}
    (hs : Takes s) (hc : ch.toNat = c.code) (he : (s.alc.channel c).entries = before ++ e :: after)
    (hnew : ∀ x ∈ before, x.seq ≠ e.seq) (hmet : clearable s e = true)
    (h : s.alc.estop = .released ∨ c ≠ .stop ∨ ∃ x ∈ before ++ after, x.kind = .estop) :
    exec (.alarmClear tag ch e.seq) s = .next (answered 0x41 tag .ok [byte (before.length + after.length)]
      (recompute (s.updAlc (·.remove c e.seq)))) := by
  refine congrArg Host.Outcome.next (request_answered _ _ _ _ _ _ _ hs (.inl (by decide)) (by simp) ?_)
  rw [actAlarmClear_ordinary (s := s.updLpu _) hc he hnew hmet h]
  exact congrArg (·, ResultCode.ok, [byte (before.length + after.length)])
    (recompute_updAlc_blind (·.remove c e.seq) _ s)

theorem Cleared.updLpu {t : State} {c : ChannelId} {left : List AlarmEntry} (h : Cleared s c left t) (f : Lpu → Lpu) :
    Cleared s c left (t.updLpu f) := by
  obtain ⟨honly, hrest⟩ := h
  exact ⟨honly.updLpu f, hrest⟩

/-- R161: upstream-out is chosen by whether answers wait, not by what they say. -/
theorem choose_answers (l : Lpu) (as : List OwnFrame) (h : as = [] ↔ l.answers = []) :
    Lpu.choose { l with answers := as } = { Lpu.choose l with answers := as } := by
  unfold Lpu.choose
  cases hs : l.sending with
  | some x => simp [hs]
  | none =>
    cases hu : l.upForward <;> cases ha : l.answers <;> cases as <;> simp_all
    cases l.lastServed <;> rfl

theorem pushOwn_answers_set (m : Lpu) (n : Nat) (b x : OwnFrame) (h : n < m.answers.length) :
    Lpu.pushOwn { m with answers := m.answers.set n b } x =
      { m.pushOwn x with answers := (m.pushOwn x).answers.set n b } := by
  have hset : (m.answers ++ [x]).set n b = m.answers.set n b ++ [x] := List.set_append_left _ _ h
  have hchoose := choose_answers { m with answers := m.answers ++ [x] } (m.answers.set n b ++ [x]) (by simp)
  have hanswers : (m.pushOwn x).answers = m.answers ++ [x] := by simp
  rw [hanswers, hset]
  exact hchoose

/-- R162, R168: the answer is written into its place in front of the notice. -/
theorem notice_set (l : Lpu) (a b : OwnFrame) (e : AlarmEntry) :
    { (l.pushOwn a).notice e with answers := ((l.pushOwn a).notice e).answers.set l.answers.length b } =
      (l.pushOwn b).notice e := by
  have hplace : l.answers.length < (l.pushOwn a).answers.length := by simp
  have hsender : Lpu.sender { l.pushOwn a with answers := (l.pushOwn a).answers.set l.answers.length b } =
    (l.pushOwn a).sender := rfl
  rw [← pushOwn_set l a b]
  unfold Lpu.notice
  simp only [List.length_set, hsender]
  split
  · rw [pushOwn_answers_set _ _ _ _ hplace]
  · rfl

/-- R162, R168: a request taken whose act posts one alarm: its answer, and the notice behind it. -/
theorem request_noticed {kind tag : Byte} {act : Act} {u : State} {code : ResultCode} {data : List Byte} {e : AlarmEntry}
    (hs : Takes s) (hk : kind ≠ 0x50#8) (hu : u.lpu = (s.lpu.pushOwn (answerPlace tag)).notice e)
    (hact : act (s.updLpu (·.pushOwn (answerPlace tag))) = (u, code, data)) :
    request kind tag act s = u.updLpu (fun _ => (answered kind tag code data s).lpu.notice e) := by
  have hfree : ¬ (Config.bufferCapacity ≤ s.lpu.answers.length ∨ s.lpu.resetPending = true) := by
    obtain ⟨hroom, hpending⟩ := hs
    rw [hpending]
    exact fun h => h.elim (Nat.not_le.mpr hroom) nofun
  have hanswer : answerOf u.lpu kind tag code data = answerOf s.lpu kind tag code data := by
    simp [hu, answerOf, Lpu.sender]
  have hown : answerOf s.lpu kind tag code data =
      ⟨mkFrame s.lpu.sender 0x80#8 tag ([kind, byte code.code] ++ data), false⟩ := by
    simp [answerOf, hk]
  rw [request, if_neg hfree, hact]
  show u.updLpu (fun l => { l with answers := l.answers.set s.lpu.answers.length (answerOf l kind tag code data) }) = _
  refine congrArg (fun l : Lpu => { u with lpu := l }) ?_
  simp only [hanswer, hown]
  rw [hu, notice_set]
  rfl

/-- R145, R152, R162: a clear by request that posts ESTOP again. -/
theorem exec_alarmClear_reposts {tag : Byte} {before after : List AlarmEntry} {e : AlarmEntry}
    (hs : Takes s) (he : s.alc.stopCh.entries = before ++ e :: after) (hnew : ∀ x ∈ before, x.seq ≠ e.seq)
    (hestop : s.alc.estop = .asserted) (hmet : clearable s e = true) (hnone : ∀ x ∈ before ++ after, x.kind ≠ .estop)
    (hroom : before.length + after.length < 8) (hmap : s.alc.mapOf .estop = ⟨.stop, false⟩)
    (hsweep : s.shu.sweep = none) :
    ∃ t, exec (.alarmClear tag 0 e.seq) s = .next t ∧ Reposted s t
      ∧ t.alc.stopCh.entries = before ++ after ++ [estopEntry s]
      ∧ t.lpu = (answered 0x41 tag .ok [byte (before.length + after.length + 1)] s).lpu.notice (estopEntry s) := by
  obtain ⟨⟨honly, hrest⟩, hentries, hlpu⟩ := clearEntry_reposts (s := s.updLpu (·.pushOwn (answerPlace tag))) (f := id)
    (seq := e.seq) (remove_leaves (.inl rfl) he hnew) hestop hnone (by simpa using hroom) hmap hsweep
  have hact : actAlarmClear 0 e.seq (s.updLpu (·.pushOwn (answerPlace tag))) =
      (clearEntry .stop e.seq ((s.updLpu (·.pushOwn (answerPlace tag))).updAlc id), .ok,
        [byte (before.length + after.length + 1)]) := by
    rw [actAlarmClear_found (s := s.updLpu _) (c := .stop) rfl he hnew]
    refine (if_pos hmet).trans (congrArg (fun n : Nat => (_, ResultCode.ok, [byte n])) ?_)
    show (clearEntry .stop e.seq ((s.updLpu (·.pushOwn (answerPlace tag))).updAlc id)).alc.stopCh.entries.length = _
    rw [hentries]
    simp [Nat.add_assoc]
  refine ⟨_, congrArg Host.Outcome.next (request_noticed hs (by decide) hlpu hact), ⟨?_, hrest⟩, hentries, rfl⟩
  exact LevelOnly.updLpu (s := s) honly _

/-! ### The buttons (R149, R151) -/

/-- R151: the first channel, from STOP on, that is not empty gives the entry. -/
theorem highestEntry_of_first {a : Alc} {c : ChannelId} {e : AlarmEntry} {after : List AlarmEntry}
    (he : (a.channel c).entries = e :: after) (hfirst : ∀ d : ChannelId, d.code < c.code → (a.channel d).entries = []) :
    highestEntry a = some (c, e) := by
  have hstop := hfirst .stop
  have hhold := hfirst .hold
  have hwarn := hfirst .warn
  cases c <;> simp_all [highestEntry, ChannelId.code]

theorem highestEntry_none {a : Alc} (h : ∀ c, (a.channel c).entries = []) : highestEntry a = none := by
  simp [highestEntry, h]

theorem exec_clearButton_silences (h : ∀ c, (s.alc.channel c).entries = []) :
    exec .clearButton s = .next (s.updAlc ({ · with horn := false })) := by
  change execClearButton s = _
  simp [execClearButton, highestEntry_none h]

theorem exec_clearButton {c : ChannelId} {e : AlarmEntry} {after : List AlarmEntry}
    (he : (s.alc.channel c).entries = e :: after)
    (hfirst : ∀ d : ChannelId, d.code < c.code → (s.alc.channel d).entries = []) :
    exec .clearButton s = .next (if clearable s e then clearEntry c e.seq (s.updAlc ({ · with horn := false }))
      else s.updAlc ({ · with horn := false })) := by
  change execClearButton s = _
  unfold execClearButton
  simp only [highestEntry_of_first he hfirst]
  split <;> rfl

/-- R149, R151, R153: an ordinary clear by the button. -/
theorem clearEntry_by_button {c : ChannelId} {e : AlarmEntry} {after : List AlarmEntry}
    (he : (s.alc.channel c).entries = e :: after)
    (h : s.alc.estop = .released ∨ c ≠ .stop ∨ ∃ x ∈ after, x.kind = .estop) :
    let t := clearEntry c e.seq (s.updAlc ({ · with horn := false }))
    Cleared s c after t ∧ t.alc.horn = false ∧ t.lpu = s.lpu := by
  have hch : ((s.updAlc ({ · with horn := false })).alc.channel c).entries = [] ++ e :: after := by
    rw [List.nil_append, ← he]
    cases c <;> rfl
  have hclear : clearEntry c e.seq (s.updAlc ({ · with horn := false })) =
      recompute (s.updAlc (fun a => Alc.remove { a with horn := false } c e.seq)) :=
    clearEntry_ordinary (before := []) hch nofun h
  intro t
  have ht : t = _ := hclear
  rw [ht]
  refine ⟨Leaves.cleared (f := fun a => Alc.remove { a with horn := false } c e.seq)
    (remove_leaves (before := []) (.inr rfl) he nofun), by simp, by simp⟩

end Sys2Proof.Machine

open Sys2Proof Sys2Proof.Machine

/-- Settles O30: the horn and the reads, the clears of one entry, and ESTOP posted again. -/
theorem alarmsReadAndCleared : Obligations.AlarmsReadAndCleared := by
  unfold Obligations.AlarmsReadAndCleared
  refine ⟨fun tag ch seq s => ⟨fun hs => ?_, fun hs hch => ⟨?_, ?_⟩, fun c hc => ⟨fun hs => ?_, fun hs habsent => ?_,
    fun before e after he hseq hnew => ?_⟩⟩, fun s => ⟨exec_clearButton_silences,
      fun e after he hestop hkind hmet hnone hroom hmap hsweep => ?_,
      fun tag before e after hs he hnew hestop hkind hmet hnone hroom hmap hsweep => ?_⟩⟩
  · exact congrArg Host.Outcome.next (request_answered _ _ actHornOff s _ _ _ hs (.inl (by decide)) rfl rfl)
  · exact next_unchanged hs (by decide) fun _ => actAlarmRead_unknown hch
  · exact next_unchanged hs (by decide) fun _ => actAlarmClear_unknown seq hch
  · exact next_unchanged hs (by decide) fun _ => actAlarmRead_channel hc
  · exact next_unchanged hs (by decide) fun g => actAlarmClear_absent (s := s.updLpu g) hc habsent
  · subst hseq
    refine ⟨fun hs hno => ?_, fun hs hmet h => ?_, ?_⟩
    · refine next_unchanged hs (by decide) fun g => ?_
      rw [actAlarmClear_found (s := s.updLpu g) hc he hnew]
      exact if_neg (mt (clearable_iff s e).mp hno)
    · refine ⟨_, exec_alarmClear_ordinary hs hc he hnew ((clearable_iff s e).mpr hmet) h,
        Cleared.updLpu (Leaves.cleared (remove_leaves (.inl rfl) he hnew)) _, by simp [answered], ?_⟩
      exact answered_lpu (by simp) _ _ _ _
    · rintro rfl hfirst
      refine ⟨fun hno => ?_, fun hmet h => ?_⟩
      · rw [exec_clearButton he hfirst, if_neg (mt (clearable_iff s e).mp hno)]
        rfl
      · refine ⟨_, ?_, clearEntry_by_button he h⟩
        rw [exec_clearButton he hfirst, if_pos ((clearable_iff s e).mpr hmet)]
  · obtain ⟨hreposted, hentries, -⟩ := clearEntry_reposts (f := ({ · with horn := false })) (seq := e.seq)
      (remove_leaves (before := []) (.inr rfl) he nofun) hestop hnone (by simpa using hroom) hmap hsweep
    refine ⟨_, ?_, hreposted, hentries⟩
    rw [exec_clearButton (c := .stop) he (fun d hd => absurd hd (Nat.not_lt_zero _)), if_pos hmet]
  · exact exec_alarmClear_reposts hs he hnew hestop hmet hnone hroom hmap hsweep

end

section
/-! PROOF. The miss cascade, and the release of one clip in every state of the clip and the exchange (R35, R51). -/

namespace Sys2Proof.Machine

variable {s : State}

/-! ### The cascade of any missed entries (R35) -/

/-- R35 step 1: the tries of an entry, if it is missed. -/
def counted (missed : List Nat) (v : WindowEntry) : WindowEntry :=
  if v.entry.uid ∈ missed then { v with tries := satInc 7 v.tries } else v

theorem counted_frame (missed : List Nat) (v : WindowEntry) : (counted missed v).entry = v.entry
    ∧ (counted missed v).status = v.status ∧ (counted missed v).clip = v.clip
    ∧ (counted missed v).captured = v.captured := by
  unfold counted
  split <;> exact ⟨rfl, rfl, rfl, rfl⟩

theorem countTries_eq (missed : List Nat) (s : State) : countTries missed s =
    { s with csq := s.csq.withWindow (s.csq.window.map (counted missed)) } := by
  unfold countTries counted
  simp only [List.contains_iff_mem]
  rfl

theorem counted_before {missed : List Nat} {before : List WindowEntry} (h : ∀ v ∈ before, v.entry.uid ∉ missed) :
    before.map (counted missed) = before :=
  (List.map_congr_left fun v hv => if_neg (h v hv)).trans (List.map_id before)

/-- R35 step 2: the part once the entries `l` behind `before` are unwound. -/
def unwoundState (before l : List WindowEntry) (s : State) : State :=
  ((l.filter WindowEntry.holds).foldl (fun t v => releaseClip v t) { s with csq := s.csq.withWindow (before ++ l) }).updCsq
    (·.withWindow (before ++ l.map WindowEntry.unwound))

theorem unwindFrom_at {before after : List WindowEntry} {w : WindowEntry} {q : Csq}
    (hne : ∀ v ∈ before, v.entry.uid ≠ w.entry.uid) :
    unwindFrom w.entry.uid { s with csq := q.withWindow (before ++ w :: after) } =
      unwoundState before (w :: after) { s with csq := q } := by
  have hpass : ∀ v ∈ before, (v.entry.uid != w.entry.uid) = true := fun v hv => bne_iff_ne.mpr (hne v hv)
  unfold unwindFrom
  simp only [Csq.withWindow]
  rw [List.takeWhile_append_of_pos hpass, List.takeWhile_cons_of_neg (by simp), List.append_nil,
    List.dropWhile_append_of_pos hpass, List.dropWhile_cons_of_neg (by simp)]
  rfl

/-- R35: the cascade, from the first missed entry on. -/
theorem missCascade_eq {missed : List Nat} {before after : List WindowEntry} {w : WindowEntry}
    (hwindow : s.csq.window = before ++ w :: after) (hbefore : ∀ v ∈ before, v.entry.uid ∉ missed)
    (hw : w.entry.uid ∈ missed) : missCascade missed s =
      postRetries missed (unwoundState before ((w :: after).map (counted missed)) s) := by
  have huid : (counted missed w).entry.uid = w.entry.uid := congrArg Entry.uid (counted_frame missed w).1
  have hmap : s.csq.window.map (counted missed) = before ++ counted missed w :: after.map (counted missed) := by
    rw [hwindow, List.map_append, List.map_cons, counted_before hbefore]
  have hfind : (before ++ counted missed w :: after.map (counted missed)).find? (fun v => missed.contains v.entry.uid) =
      some (counted missed w) := by
    have hpass : before.find? (fun v => missed.contains v.entry.uid) = none :=
      List.find?_eq_none.mpr fun v hv => by simpa using hbefore v hv
    have hhit : missed.contains (counted missed w).entry.uid = true := by simpa [huid] using hw
    rw [List.find?_append, hpass, Option.none_or]
    exact List.find?_cons_of_pos hhit
  have hne : ∀ v ∈ before, v.entry.uid ≠ (counted missed w).entry.uid := fun v hv heq =>
    hbefore v hv (heq ▸ huid ▸ hw)
  unfold missCascade
  simp only [countTries_eq, hmap]
  simp only [Csq.withWindow] at hfind ⊢
  simp only [hfind]
  exact congrArg (postRetries missed) (unwindFrom_at (q := s.csq) hne)

theorem unwoundState_frame (before l : List WindowEntry) (s : State) :
    (unwoundState before l s).tables = s.tables ∧ (unwoundState before l s).alc = s.alc
      ∧ (unwoundState before l s).csq.window = before ++ l.map WindowEntry.unwound := by
  refine ⟨?_, ?_, rfl⟩
  · exact foldl_keep State.tables _ (fun _ _ => by simp) _ _
  · exact foldl_keep State.alc _ (fun _ _ => by simp) _ _

theorem postRetries_eq (missed : List Nat) (t : State) : postRetries missed t =
    (t.csq.window.filter (fun v => decide (v.entry.uid ∈ missed ∧ t.tables.constants.retryLimit < v.tries))).foldl
      (fun t v => post .placementRetry (some v.entry.step.toNat) t) t := by
  unfold postRetries
  simp only [List.contains_eq_mem, Bool.decide_and]

/-! ### One clip released (R35 step 2, R51) -/

section

variable {v : WindowEntry} {p : Nat} {c : Captured}

theorem releaseClip_none (h : v.clip = none) : releaseClip v s = s := by
  simp only [releaseClip, h]

theorem releaseClip_loaded (h : v.clip = some p) (hc : clipAt s.csq p = .loaded) :
    releaseClip v s = setClip p .reject s := by
  simp only [releaseClip, h, hc]

theorem releaseClip_stands (h : v.clip = some p) (hl : clipAt s.csq p ≠ .loaded) (hr : clipAt s.csq p ≠ .reserved) :
    releaseClip v s = s := by
  simp only [releaseClip, h]

theorem releaseClip_reserved (h : v.clip = some p) (hc : clipAt s.csq p = .reserved) (hcap : v.captured = some c) :
    releaseClip v s = unbook c.station p (setClip p .empty s) := by
  simp only [releaseClip, h, hc, hcap]
  rfl

end

/-- R51: with a command left the exchange goes on waiting. -/
theorem emptiedTest_waits (h : ∃ x ∈ s.csq.commands, x ≠ .none) : emptiedTest s = s := by
  obtain ⟨x, hx, hne⟩ := h
  refine if_neg fun ⟨_, hall⟩ => hne ?_
  simpa using List.all_eq_true.mp hall x hx

/-- R51: with no command left it is COMPLETE. -/
theorem emptiedTest_completes (hw : s.csq.exchange = .waiting) (h : ∀ x ∈ s.csq.commands, x = .none) :
    emptiedTest s = settleTest (s.updCsq ({ · with exchange := .complete })) :=
  if_pos ⟨hw, List.all_eq_true.mpr fun x hx => by simp [h x hx]⟩

section

variable {n p : Nat}

theorem unbook_booked (hd : 1 ≤ p - dropPosition s.tables n) : unbook n p s = fireLoadDown (p - dropPosition s.tables n) s :=
  if_pos hd

variable (hd : p - dropPosition s.tables n = 0)

include hd

theorem unbook_past (hx : s.csq.exchange = .none ∨ s.csq.exchange = .complete) : unbook n p s = fireLoadDown 0 s := by
  have hno : ¬ 1 ≤ p - dropPosition s.tables n := by omega
  rcases hx with hx | hx <;> simp only [unbook, if_neg hno, hx]

theorem unbook_inFlight (hx : s.csq.exchange = .inFlight) : unbook n p s = s := by
  have hno : ¬ 1 ≤ p - dropPosition s.tables n := by omega
  simp only [unbook, if_neg hno, hx]

theorem unbook_waiting (hx : s.csq.exchange = .waiting) :
    unbook n p s = emptiedTest (clearCommand n (fireLoadDown 0 s)) := by
  have hno : ¬ 1 ≤ p - dropPosition s.tables n := by omega
  simp only [unbook, if_neg hno, hx]

end

/-! ### The cascade of one missed entry -/

section

variable {before after : List WindowEntry} {w : WindowEntry} (hwindow : s.csq.window = before ++ w :: after)
  (hn : (s.csq.window.map (·.entry.uid)).Nodup)

include hwindow hn

theorem uid_once : (∀ v ∈ before, v.entry.uid ∉ [w.entry.uid]) ∧ ∀ v ∈ after, v.entry.uid ∉ [w.entry.uid] := by
  rw [hwindow, List.map_append, List.map_cons, List.nodup_append] at hn
  obtain ⟨-, hcons, hdisjoint⟩ := hn
  refine ⟨fun v hv => ?_, fun v hv => ?_⟩
  · simpa using hdisjoint _ (List.mem_map_of_mem hv) _ List.mem_cons_self
  · rw [List.mem_singleton]
    exact fun heq => (List.nodup_cons.mp hcons).1 (heq ▸ List.mem_map_of_mem hv)

/-- R35: the missed entry counts one try more; it and those behind it are unwound. -/
theorem missCascade_single : missCascade [w.entry.uid] s = postRetries [w.entry.uid]
    (unwoundState before ({ w with tries := satInc 7 w.tries } :: after) s) := by
  obtain ⟨hbefore, hafter⟩ := uid_once hwindow hn
  rw [missCascade_eq hwindow hbefore List.mem_cons_self, List.map_cons, counted_before hafter,
    show counted [w.entry.uid] w = { w with tries := satInc 7 w.tries } from if_pos List.mem_cons_self]

/-- R35 step 3: past the retry limit it is the one entry posted, up to it none is. -/
theorem postRetries_single (u : WindowEntry) (hu : u.entry = w.entry)
    {t : State} (ht : t.csq.window = before ++ u :: after.map WindowEntry.unwound) :
    postRetries [w.entry.uid] t = if t.tables.constants.retryLimit < u.tries
      then post .placementRetry (some w.entry.step.toNat) t else t := by
  obtain ⟨hbefore, hafter⟩ := uid_once hwindow hn
  have hothers : ∀ v ∈ before ++ after.map WindowEntry.unwound,
      decide (v.entry.uid ∈ [w.entry.uid] ∧ t.tables.constants.retryLimit < v.tries) = false := fun v hv => by
    refine decide_eq_false fun h => ?_
    rcases List.mem_append.mp hv with hv | hv
    · exact hbefore v hv h.1
    · obtain ⟨v', hv', rfl⟩ := List.mem_map.mp hv
      exact hafter v' hv' h.1
  rw [postRetries_eq, ht]
  split
  next hpast =>
    rw [filter_single (by simp [hu, hpast]) hothers, ← hu]
    rfl
  next hno =>
    rw [List.filter_eq_nil_iff.mpr]
    · rfl
    · intro v hv
      rcases List.mem_append.mp hv with hv | hv
      · simpa using hothers v (List.mem_append_left _ hv)
      · rcases List.mem_cons.mp hv with rfl | hv
        · simp [hno]
        · simpa using hothers v (List.mem_append_right _ hv)

theorem missCascade_single_posts : missCascade [w.entry.uid] s =
    let u := unwoundState before ({ w with tries := satInc 7 w.tries } :: after) s
    if s.tables.constants.retryLimit < satInc 7 w.tries then post .placementRetry (some w.entry.step.toNat) u else u := by
  obtain ⟨htables, -, hwin⟩ := unwoundState_frame before ({ w with tries := satInc 7 w.tries } :: after) s
  rw [missCascade_single hwindow hn,
    postRetries_single hwindow hn (WindowEntry.unwound { w with tries := satInc 7 w.tries }) rfl hwin, htables]
  rfl

end

/-- R35 step 2: the last entry of the window is unwound. -/
theorem unwoundState_last {before : List WindowEntry} {u : WindowEntry} (hu : u.status = .reserved ∨ u.status = .loaded) :
    unwoundState before [u] s = { s with csq :=
      (releaseCsq s.tables s.tpc.transfer u s.csq).withWindow (before ++ [u.unwound]) } := by
  have hholds : [u].filter WindowEntry.holds = [u] :=
    List.filter_cons_of_pos (by rcases hu with h | h <;> rw [WindowEntry.holds, h] <;> rfl)
  have hne : (s.csq.withWindow (before ++ [u])).window ≠ [] := by simp [Csq.withWindow]
  unfold unwoundState
  rw [hholds, List.foldl_cons, List.foldl_nil, releaseClip_csq (s := { s with csq := s.csq.withWindow (before ++ [u]) }) u hne]
  simp only [releaseCsq_withWindow]
  rfl

theorem releaseCsq_empty {t : Tables} {transfer : Option Transfer} {v : WindowEntry} {q : Csq} {p : Nat}
    (h : v.clip = some p) (hc : clipAt q p = .empty) : releaseCsq t transfer v q = q := by
  simp only [releaseCsq, h, hc]

theorem post_window (k : AlarmKind) (subject : Option Nat) (s : State) :
    (post k subject s).csq.window = s.csq.window := by simp

end Sys2Proof.Machine

open Sys2Proof Sys2Proof.Machine

/-- Settles O44: the cascade, the release of one clip, and the cascade of one missed entry. -/
theorem missCascadeUnwinds : Obligations.MissCascade := by
  unfold Obligations.MissCascade
  refine ⟨fun s missed before w after hwindow hbefore hw => ?_, fun s v p c => ?_, fun s before w after hwindow hn => ?_⟩
  · obtain ⟨htables, -, -⟩ := unwoundState_frame before ((w :: after).map (counted missed)) s
    rw [missCascade_eq hwindow hbefore hw, postRetries_eq, htables]
    rfl
  · refine ⟨releaseClip_none, releaseClip_loaded, releaseClip_stands, fun hp hc hcap => ?_⟩
    have hrelease := releaseClip_reserved hp hc hcap
    refine ⟨fun hd => ?_, fun hd hx => ?_, fun hd hx => ?_, fun hd hx => ⟨fun hleft => ?_, fun hnone => ?_⟩⟩
    · exact hrelease.trans (unbook_booked (s := setClip p .empty s) hd)
    · exact hrelease.trans (unbook_past (s := setClip p .empty s) hd hx)
    · exact hrelease.trans (unbook_inFlight (s := setClip p .empty s) hd hx)
    · exact (hrelease.trans (unbook_waiting (s := setClip p .empty s) hd hx)).trans (emptiedTest_waits hleft)
    · exact (hrelease.trans (unbook_waiting (s := setClip p .empty s) hd hx)).trans (emptiedTest_completes hx hnone)
  · intro missed t
    have ht : t = _ := missCascade_single_posts hwindow hn
    obtain ⟨-, halc, hwin⟩ := unwoundState_frame before (missed :: after) s
    have hwin : t.csq.window = before ++ (missed :: after).map WindowEntry.unwound := by
      rw [ht]
      simp only []
      split
      · rw [post_window]
        exact hwin
      · exact hwin
    refine ⟨hwin, fun hpast hmap hroom => ?_, fun hno => ?_, fun hlast hno hstatus p c hp hc => ?_⟩
    · rw [ht]
      simp only []
      rw [if_pos hpast]
      exact post_holds (c := .stop) (by rw [halc]; exact hmap) (by rw [halc]; exact hroom)
    · rw [ht]
      simp only []
      rw [if_neg (Nat.not_lt.mpr hno)]
      exact halc
    · subst hlast
      have hlast : t = { s with csq :=
          (releaseCsq s.tables s.tpc.transfer missed s.csq).withWindow (before ++ [missed.unwound]) } := by
        rw [ht]
        simp only []
        rw [if_neg (Nat.not_lt.mpr hno)]
        exact unwoundState_last hstatus
      have hcsq : ∀ q, releaseCsq s.tables s.tpc.transfer missed s.csq = q →
          t = { s with csq := { q with window := t.csq.window } } := fun q hq => by
        rw [hwin, hlast, hq]
        rfl
      refine ⟨fun hclip => ?_, fun hclip => ?_, fun hclip hd => ?_⟩
      · exact hcsq _ (releaseCsq_empty hp hclip)
      · exact hcsq _ (releaseCsq_loaded hp hclip)
      · exact hcsq _ ((releaseCsq_reserved hp hclip (congrArg (Option.map Captured.station) hc)).trans (unbookCsq_booked hd))

end

section
/-! PROOF. Station resolution, clip sense and the assignment of the entering clip (R46 to R49, R69). -/

namespace Sys2Proof.Machine

variable {s : State}

/-! ### The station resolved (R48) -/

/-- R27: the conditions of a usable station. -/
def UsableNow (t : Tables) (h : Shu) (n : Nat) : Prop := fitted t n = true ∧ (recordAt h n).enabled = true
  ∧ (recordAt h n).jammed = false ∧ (recordAt h n).empty = false

theorem usable_iff (t : Tables) (h : Shu) (n : Nat) : usable t h n = true ↔ UsableNow t h n := by
  simp [usable, StationRecord.sound, UsableNow, and_assoc]

theorem resolveStation_substituted {t : Tables} {h : Shu} {c : Nat} {before after : List SubstEntry} {e : SubstEntry}
    (hs : h.subst = before ++ e :: after) (hb : ∀ x ∈ before, x.failed ≠ c) (he : e.failed = c) :
    resolveStation t h c = if usable t h e.substitute then some e.substitute else none := by
  have hfind : substFor h c = some e := by
    rw [substFor, hs, List.find?_append, List.find?_eq_none.mpr (by simpa using hb)]
    simp [he]
  rw [resolveStation, hfind]

theorem resolveStation_own {t : Tables} {h : Shu} {c : Nat} (hs : ∀ e ∈ h.subst, e.failed ≠ c) :
    resolveStation t h c = if usable t h c then some c else none := by
  have hfind : substFor h c = none := List.find?_eq_none.mpr (by simpa using hs)
  rw [resolveStation, hfind]

/-! ### Clip sense (R46, R69) -/

theorem updMember_eq (n : Nat) (f : SweepMember → SweepMember) (s : State) : updMember n f s = { s with shu := { s.shu with
    sweep := s.shu.sweep.map (fun w => { w with members := w.members.map (fun m => if m.station = n then f m else m) }) } } :=
  rfl

/-- R69: clip sense resolves the oldest drop of the station's member that awaits sense. -/
theorem passSensed_eq (n : Nat) (passed : Bool) (s : State) : passSensed n passed s = { s with shu := { s.shu with
    sweep := s.shu.sweep.map (fun w => { w with members := w.members.map (fun m =>
      if m.station = n ∧ 1 ≤ m.awaiting then
        { m with awaiting := m.awaiting - 1, resolved := m.resolved + 1, failed := m.failed || !passed }
      else m) }) } } := by
  have hmember : ∀ m : SweepMember, (if m.station = n then
      if m.awaiting = 0 then m
      else { m with awaiting := m.awaiting - 1, resolved := m.resolved + 1, failed := m.failed || !passed } else m) =
      if m.station = n ∧ 1 ≤ m.awaiting then
        { m with awaiting := m.awaiting - 1, resolved := m.resolved + 1, failed := m.failed || !passed } else m := by
    intro m
    by_cases hn : m.station = n
    · by_cases ha : m.awaiting = 0
      · simp [ha]
      · rw [if_pos hn, if_neg ha, if_pos ⟨hn, Nat.one_le_iff_ne_zero.mpr ha⟩]
    · rw [if_neg hn, if_neg (fun h => hn h.1)]
  rw [passSensed, updMember_eq]
  simp only [hmember]

section

variable {present : Bool} (sp : Nat) (hsp : s.tables.constants.sensePos = sp)

include hsp

theorem clipSense_reject (h : clipAt s.csq sp = .reject) : clipSense present s = s := by
  simp only [clipSense, hsp, h]

theorem clipSense_empty (h : clipAt s.csq sp = .empty) :
    clipSense false s = s ∧ clipSense true s = post .strayPart (some sp) (setClip sp .reject s) := by
  constructor <;> simp only [clipSense, hsp, h]

theorem clipSense_unknown (h : clipAt s.csq sp = .unknown) :
    clipSense false s = setClip sp .empty s ∧ clipSense true s = setClip sp .reject s := by
  constructor <;> simp only [clipSense, hsp, h]

theorem clipSense_test {n : Nat} (h : clipAt s.csq sp = .test n) :
    clipSense true s = sweepTest (passSensed n true s)
      ∧ clipSense false s = sweepTest (passSensed n false (setClip sp .empty s)) := by
  constructor <;> simp only [clipSense, hsp, h]

theorem clipSense_loaded {w : WindowEntry} {c : Captured} (h : clipAt s.csq sp = .loaded)
    (hw : entryAt s.csq sp = some w) (hc : w.captured = some c) :
    clipSense true s = confirmedDrop c.station s
      ∧ clipSense false s = missCascade [w.entry.uid] (countedMiss c.station (setClip sp .empty s)) := by
  have hstation : stationOfClip s.csq sp = c.station := by simp [stationOfClip, hw, hc]
  constructor <;> simp [clipSense, hsp, h, hstation, hw]

end

/-! ### Assignment (R47, R49) -/

/-- R47: the candidates, oldest first. -/
def unassigned (l : List WindowEntry) : List WindowEntry := l.filter (fun w => w.status == .unassigned)

theorem unassigned_nil {l : List WindowEntry} (h : ∀ v ∈ l, v.status ≠ .unassigned) : unassigned l = [] :=
  List.filter_eq_nil_iff.mpr fun v hv => by simpa using h v hv

theorem unassigned_first {before after : List WindowEntry} {w : WindowEntry} (hb : ∀ v ∈ before, v.status ≠ .unassigned)
    (hw : w.status = .unassigned) : unassigned (before ++ w :: after) = w :: unassigned after := by
  have hnone : before.filter (fun w => w.status == .unassigned) = [] := unassigned_nil hb
  have hpick : (w.status == .unassigned) = true := by rw [hw]; rfl
  unfold unassigned
  rw [List.filter_append, hnone, List.nil_append]
  exact List.filter_cons_of_pos hpick

/-- R47: what assignment does from a candidate found in the window, or by a take. -/
def assignFrom : State × Option WindowEntry → State
  | (s1, some w) => assignCandidate w s1
  | (s1, none) =>
    match take s1 with
    | (s2, none) => s2
    | (s2, some e) =>
      assignCandidate (newWindowEntry e) (s2.updCsq (fun q => { q with window := q.window ++ [newWindowEntry e] }))

theorem assignEntering_eq (s : State) : assignEntering s = assignFrom (dropInvalid (unassigned s.csq.window) s) := rfl

/-- R22, R47: an entry whose component is no longer valid has left the window. -/
def dropped (w : WindowEntry) (s : State) : State :=
  rejectEntry w.entry 0 (s.updCsq (fun q => { q with window := q.window.filter (·.entry.uid != w.entry.uid) }))

theorem dropInvalid_valid {w : WindowEntry} {rest : List WindowEntry} (h : componentValid s.tables w.entry.component = true) :
    dropInvalid (w :: rest) s = (s, some w) := by
  simp only [dropInvalid, h, if_true]

theorem dropInvalid_invalid {w : WindowEntry} {rest : List WindowEntry}
    (h : componentValid s.tables w.entry.component = false) :
    dropInvalid (w :: rest) s = dropInvalid rest (dropped w s) := by
  simp only [dropInvalid, h, Bool.false_eq_true, if_false]
  rfl

theorem assignCandidate_none {w : WindowEntry}
    (h : resolveStation s.tables s.shu (componentAt s.tables w.entry.component).station = none) :
    assignCandidate w s = post .noStation (some w.entry.component) s := by
  simp only [assignCandidate, h]

/-- R49: a candidate with a station, by the fire load at the step its clip will be there. -/
theorem assignCandidate_some {w : WindowEntry} {r m : Nat}
    (h : resolveStation s.tables s.shu (componentAt s.tables w.entry.component).station = some r)
    (hm : s.csq.fireLoad[s.csq.ring.length - 1 - dropPosition s.tables r]? = some m) :
    assignCandidate w s = if m < s.tables.constants.fireLimit then
      reserve w (componentAt s.tables w.entry.component).station r (s.csq.ring.length - 1 - dropPosition s.tables r) s
      else s := by
  have hload : s.csq.fireLoad.getD (s.csq.ring.length - 1 - dropPosition s.tables r) 0 = m := by
    rw [List.getD_eq_getElem?_getD, hm, Option.getD_some]
  simp only [assignCandidate, h, hload]

theorem modify_eq_set {l : List Nat} {d m : Nat} (h : l[d]? = some m) : l.modify d (· + 1) = l.set d (m + 1) := by
  rw [List.modify_eq_set_getElem?]
  simp [h]

/-- R49, R61: the entering clip reserved, as one update. -/
theorem reserve_eq {w : WindowEntry} {c r d m : Nat} (hm : s.csq.fireLoad[d]? = some m) : reserve w c r d s = { s with
    csq := { s.csq with
      ring := s.csq.ring.set ((s.csq.base + (s.csq.ring.length - 1)) % s.csq.ring.length) .reserved
      fireLoad := s.csq.fireLoad.set d (m + 1)
      window := s.csq.window.map (fun v => if v.entry.uid = w.entry.uid then
        { v with status := .reserved, clip := some (s.csq.ring.length - 1)
                 captured := some (capturedOf s.tables w.entry.component r) }
        else v) }
    shu := { s.shu with subst := s.shu.subst.map (fun e =>
      if e.failed = c then { e with served := satInc 65535 e.served } else e) } } := by
  rw [← modify_eq_set hm]
  rfl

/-! ### What a take hands out (R11) -/

theorem takeFrom_valid (rs : List QueueRecord) {u t : State} {e : Entry} (h : takeFrom rs u = (t, some e)) :
    componentValid u.tables e.component = true := by
  have hout : ∀ (p : Placement) (n : Nat) (v : State), handOut p n v = (t, some e) → e.component = p.component := by
    intro p n v hv
    simp only [handOut, Prod.mk.injEq, Option.some.injEq] at hv
    rw [← hv.2]
  induction rs generalizing u with
  | nil => simp [takeFrom] at h
  | cons r rest ih =>
    cases r with
    | boundary =>
      by_cases hm : u.mode = .sequenceOnly
      · simp [takeFrom_boundary_sequenceOnly rest u hm] at h
      · by_cases hp : u.pin.takePanel = u.tbc.current
        · simp [takeFrom_boundary_current rest u hm hp] at h
        · simp [takeFrom_boundary_ahead rest u hm hp] at h
    | placement p =>
      cases hv : componentValid u.tables p.component with
      | false =>
        rw [takeFrom_invalid p rest u hv] at h
        have hrest := ih h
        exact hrest
      | true =>
        by_cases hi : p.image = 0
        · obtain ⟨hnone, hone, hmore⟩ := takeFrom_allImages p rest u hv hi
          rcases hg : goodLeft u with _ | ⟨n, _ | ⟨k, more⟩⟩
          · rw [hnone hg] at h
            have hrest := ih h
            exact hrest
          · rw [hone n hg] at h
            rw [hout _ _ _ h, hv]
          · rw [hmore n k more hg] at h
            rw [hout _ _ _ h, hv]
        · cases hb : knownBad u.mode u.tbc u.pin.takePanel p.image with
          | true =>
            rw [takeFrom_knownBad p rest u hv hi hb] at h
            have hrest := ih h
            exact hrest
          | false =>
            rw [takeFrom_oneImage p rest u hv hi hb] at h
            rw [hout _ _ _ h, hv]

theorem take_csq {t : State} {o : Option Entry} (h : take s = (t, o)) :
    t.csq = s.csq ∧ t.tables = s.tables := by
  obtain ⟨n, heffect⟩ := take_effect_of_eq h
  rw [heffect.blocks]
  exact ⟨rfl, rfl⟩

theorem take_nil (h : s.pin.queue = []) : take s = (s, none) := by
  simp only [take, h, takeFrom, State.updPin]
  rw [← h]

/-- R47: with no candidate in the window the entry taken is the candidate. -/
theorem assignEntering_taken {t : State} {e : Entry} (hno : ∀ v ∈ s.csq.window, v.status ≠ .unassigned)
    (h : take s = (t, some e)) : assignEntering s =
      assignEntering (t.updCsq (fun q => { q with window := q.window ++ [newWindowEntry e] })) := by
  obtain ⟨hcsq, htables⟩ := take_csq h
  have hvalid : componentValid (t.updCsq (fun q => { q with window := q.window ++ [newWindowEntry e] })).tables
      (newWindowEntry e).entry.component = true := by
    show componentValid t.tables e.component = true
    rw [htables]
    exact takeFrom_valid s.pin.queue h
  have hpick : unassigned (t.updCsq (fun q => { q with window := q.window ++ [newWindowEntry e] })).csq.window =
      newWindowEntry e :: unassigned [] :=
    unassigned_first (by rw [hcsq]; exact hno) rfl
  rw [assignEntering_eq, assignEntering_eq, unassigned_nil hno, hpick, dropInvalid_valid hvalid]
  simp only [dropInvalid, assignFrom, h]

/-- An entry that stands once leaves the others in their places. -/
theorem window_without {before after : List WindowEntry} {w : WindowEntry} (hwindow : s.csq.window = before ++ w :: after)
    (hn : (s.csq.window.map (·.entry.uid)).Nodup) :
    s.csq.window.filter (·.entry.uid != w.entry.uid) = before ++ after := by
  obtain ⟨hbefore, hafter⟩ := uid_once hwindow hn
  have hkeep : ∀ l : List WindowEntry, (∀ v ∈ l, v.entry.uid ∉ [w.entry.uid]) → l.filter (·.entry.uid != w.entry.uid) = l :=
    fun l hl => List.filter_eq_self.mpr fun v hv => by simpa using hl v hv
  rw [hwindow, List.filter_append, List.filter_cons_of_neg (by simp), hkeep before hbefore, hkeep after hafter]

end Sys2Proof.Machine

open Sys2Proof Sys2Proof.Machine

/-- Settles O40: resolution, clip sense by the clip's state, assignment by the candidate. -/
theorem clipSenseAndAssignment : Obligations.ClipSenseAndAssignment := by
  unfold Obligations.ClipSenseAndAssignment
  refine ⟨fun t h c => ⟨fun before e after hs hb he => ⟨fun hu => ?_, fun hu => ?_⟩, fun hs => ⟨fun hu => ?_, fun hu => ?_⟩⟩,
    fun s => ⟨fun hc b => clipSense_reject _ rfl hc, clipSense_empty _ rfl, clipSense_unknown _ rfl,
      fun w c hc hw hcap hn => ?_, fun n hc => ?_, fun before w after hwindow hb hw => ⟨fun hvalid => ⟨fun hno => ?_,
        fun r m hr => ?_⟩, fun hinvalid hlast hqueue => ?_, fun hinvalid hn => ?_⟩,
      fun t o hno htake => ⟨fun ho => ?_, fun e ho => ?_⟩⟩⟩
  · rw [resolveStation_substituted hs hb he, if_pos ((usable_iff ..).mpr hu)]
  · rw [resolveStation_substituted hs hb he, if_neg (mt (usable_iff ..).mp hu)]
  · rw [resolveStation_own hs, if_pos ((usable_iff ..).mpr hu)]
  · rw [resolveStation_own hs, if_neg (mt (usable_iff ..).mp hu)]
  · obtain ⟨hpresent, habsent⟩ := clipSense_loaded _ rfl hc hw hcap
    refine ⟨hpresent.trans ?_, habsent⟩
    exact if_neg (Nat.one_le_iff_ne_zero.mp hn)
  · obtain ⟨hpresent, habsent⟩ := clipSense_test _ rfl hc
    rw [hpresent, habsent, passSensed_eq, passSensed_eq]
    exact ⟨rfl, rfl⟩
  · rw [assignEntering_eq, hwindow, unassigned_first hb hw, dropInvalid_valid hvalid]
    exact assignCandidate_none hno
  · intro d hm
    have hassign : assignEntering s = if m < s.tables.constants.fireLimit then reserve w (componentAt s.tables w.entry.component).station r d s else s := by
      rw [assignEntering_eq, hwindow, unassigned_first hb hw, dropInvalid_valid hvalid]
      exact assignCandidate_some hr hm
    refine ⟨fun hfull => ?_, fun hroom => ?_⟩
    · rw [hassign, if_neg (Nat.not_lt.mpr hfull)]
    · rw [hassign, if_pos hroom, reserve_eq hm]
  · rw [assignEntering_eq, hwindow, unassigned_first hb hw, unassigned_nil hlast, dropInvalid_invalid hinvalid]
    simp only [dropInvalid, assignFrom, take_nil (s := dropped w s) hqueue]
    rw [← hwindow]
    rfl
  · have hleft : unassigned (before ++ after) = unassigned after := by
      unfold unassigned
      rw [List.filter_append, show before.filter _ = [] from unassigned_nil hb, List.nil_append]
    have hdropped : dropped w s = { s with
        csq := { s.csq with window := before ++ after }
        pin := { s.pin with rejected := s.pin.rejected + 1 }
        rrg := s.rrg.write ⟨.rejected, w.entry.step, w.entry.panel, w.entry.image, w.entry.component, 0, none⟩ } := by
      rw [← window_without hwindow hn]
      rfl
    have hwin : (dropped w s).csq.window = before ++ after := by rw [hdropped]
    have hafter : assignEntering (dropped w s) = assignFrom (dropInvalid (unassigned after) (dropped w s)) := by
      rw [assignEntering_eq, hwin, hleft]
    rw [assignEntering_eq, hwindow, unassigned_first hb hw, dropInvalid_invalid hinvalid, ← hafter, hdropped]
  · subst ho
    rw [assignEntering_eq, unassigned_nil hno]
    simp only [dropInvalid, assignFrom, htake]
  · subst ho
    exact assignEntering_taken hno htake

end

section
/-! PROOF. The exchange built: the FIRE commands, and the TEST commands of a sweep (R50, R51, R68). -/

namespace Sys2Proof.Machine

variable {s : State}

/-! ### FIRE commands (R50) -/

/-- R50: the FIRE commands of an exchange, slot by slot. -/
def fireCommands (s : State) : List SlotCommand := (List.range' 1 96).map (fireCommand s)

@[simp] theorem fireCommands_length (s : State) : (fireCommands s).length = 96 := by
  simp [fireCommands]

theorem fireCommands_getElem? (s : State) {n : Nat} (h1 : 1 ≤ n) (h2 : n ≤ 96) :
    (fireCommands s)[n - 1]? = some (fireCommand s n) := by
  have hn : (List.range' 1 96)[n - 1]? = some n := by
    rw [List.getElem?_range' (by omega)]
    exact congrArg some (by omega)
  rw [fireCommands, List.getElem?_map, hn]
  rfl

theorem fireCommand_vacant {n : Nat} (h : entryAt s.csq (dropPosition s.tables n) = none) : fireCommand s n = .none := by
  simp only [fireCommand, h]

theorem fireCommand_held {n : Nat} {w : WindowEntry} (h : entryAt s.csq (dropPosition s.tables n) = some w) :
    fireCommand s n = if (fitted s.tables n = true ∧ clipAt s.csq (dropPosition s.tables n) = .reserved)
      ∧ w.captured.map Captured.station = some n then .fire w.entry.uid else .none := by
  simp only [fireCommand, h, Bool.and_eq_true, beq_iff_eq]

/-- R50: a slot is FIRE for the entry that holds a RESERVED clip at the drop position of a fitted station, captured for it. -/
theorem fireCommand_iff (s : State) (n uid : Nat) : fireCommand s n = .fire uid ↔
    ∃ w c, entryAt s.csq (dropPosition s.tables n) = some w ∧ w.entry.uid = uid ∧ w.captured = some c
      ∧ c.station = n ∧ fitted s.tables n = true ∧ clipAt s.csq (dropPosition s.tables n) = .reserved := by
  constructor
  · intro h
    rcases he : entryAt s.csq (dropPosition s.tables n) with _ | w
    · rw [fireCommand_vacant he] at h
      contradiction
    · rw [fireCommand_held he] at h
      split at h
      next hslot =>
        obtain ⟨⟨hfit, hclip⟩, hstation⟩ := hslot
        obtain ⟨c, hc, hn⟩ := Option.map_eq_some_iff.mp hstation
        exact ⟨w, c, rfl, SlotCommand.fire.inj h, hc, hn, hfit, hclip⟩
      · contradiction
  · rintro ⟨w, c, he, rfl, hc, hn, hfit, hclip⟩
    rw [fireCommand_held he, if_pos ⟨⟨hfit, hclip⟩, by rw [hc, ← hn]; rfl⟩]

theorem fireCommand_cases (s : State) (n : Nat) : fireCommand s n = .none ∨ ∃ uid, fireCommand s n = .fire uid := by
  rcases he : entryAt s.csq (dropPosition s.tables n) with _ | w
  · exact .inl (fireCommand_vacant he)
  · rw [fireCommand_held he]
    split
    · exact .inr ⟨w.entry.uid, rfl⟩
    · exact .inl rfl

theorem fireCommands_none (h : ∀ n, fireCommand s n = .none) : fireCommands s = List.replicate 96 .none :=
  List.eq_replicate_iff.mpr ⟨fireCommands_length s, fun c hc => by
    obtain ⟨n, -, rfl⟩ := List.mem_map.mp hc
    exact h n⟩

theorem fireCommand_window_nil (h : s.csq.window = []) (n : Nat) : fireCommand s n = .none := by
  simp [fireCommand, entryAt, h]

/-! ### The exchange sent, left to wait, or COMPLETE (R51) -/

/-- R51: what becomes of an exchange with these commands. -/
def exchangeOf (level : Level) (commands : List SlotCommand) : ExchangeState :=
  if commands.all (· == .none) then .complete else if level = .stop then .waiting else .inFlight

theorem all_none_iff {commands : List SlotCommand} (h : commands.length = 96) :
    commands.all (· == .none) = true ↔ commands = List.replicate 96 .none := by
  rw [List.eq_replicate_iff, List.all_eq_true]
  simp [h]

theorem exchangeOf_eq (level : Level) {commands : List SlotCommand} (h : commands.length = 96) :
    exchangeOf level commands = if commands = List.replicate 96 .none then .complete
      else if level = .stop then .waiting else .inFlight := by
  simp only [exchangeOf, all_none_iff h]

/-- The part with the FIRE commands in its slots and every reply SILENT. -/
def withFires (s : State) : State :=
  { s with csq := { s.csq with commands := fireCommands s, replies := List.replicate 96 .silent } }

theorem buildExchange_open (s : State) : buildExchange s = sendOrWait (buildTests (withFires s)) := rfl

theorem sendOrWait_eq (u : State) : sendOrWait u =
    { u with csq := { u.csq with exchange := exchangeOf u.alc.effective u.csq.commands } } := rfl

theorem buildTests_other (h : s.csq.seq ≠ .sweeping) : buildTests s = s := by
  unfold buildTests
  split
  next hseq _ => exact absurd hseq h
  · rfl

theorem buildExchange_fires (h : s.csq.seq ≠ .sweeping) : buildExchange s = { s with csq := { s.csq with
    commands := fireCommands s, replies := List.replicate 96 .silent
    exchange := exchangeOf s.alc.effective (fireCommands s) } } := by
  rw [buildExchange_open, buildTests_other (s := withFires s) h, sendOrWait_eq]
  rfl

/-! ### TEST commands (R68) -/

/-- R68: the slots, the clips and the members after the TESTs of `l`. -/
def testSlots (t : Tables) (l : List Nat) (commands : List SlotCommand) : List SlotCommand :=
  l.foldl (fun cs n => cs.set (n - 1) (.test (dropPosition t n) true)) commands

def testClips (t : Tables) (base : Nat) (l : List Nat) (ring : List ClipState) : List ClipState :=
  l.foldl (fun r n => r.set ((base + dropPosition t n) % ring.length) (.test n)) ring

def testMembers (l : List Nat) (members : List SweepMember) : List SweepMember :=
  members.map (fun m => if m.station ∈ l then { m with fired := m.fired + 1 } else m)

theorem testMembers_cons {n : Nat} {l : List Nat} (h : n ∉ l) (members : List SweepMember) :
    testMembers l (members.map (fun m => if m.station = n then { m with fired := m.fired + 1 } else m)) =
      testMembers (n :: l) members := by
  unfold testMembers
  rw [List.map_map]
  refine List.map_congr_left fun m _ => ?_
  by_cases hm : m.station = n
  · simp [hm, h]
  · simp [hm]

theorem testClips_cons (t : Tables) (base n : Nat) (l : List Nat) (ring : List ClipState) :
    testClips t base (n :: l) ring =
      testClips t base l (ring.set ((base + dropPosition t n) % ring.length) (.test n)) := by
  simp only [testClips, List.foldl_cons, List.length_set]

/-- R68: the TESTs of a list of stations, each named once, as one update. -/
theorem fireTests_eq (l : List Nat) (hl : l.Nodup) (s : State) : l.foldl (fun t n => fireTest n t) s = { s with
    csq := { s.csq with
      commands := testSlots s.tables l s.csq.commands
      ring := testClips s.tables s.csq.base l s.csq.ring }
    shu := { s.shu with sweep := s.shu.sweep.map (fun w => { w with members := testMembers l w.members }) } } := by
  induction l generalizing s with
  | nil => simp [testSlots, testClips, testMembers]
  | cons n l ih =>
    obtain ⟨hn, hrest⟩ := List.nodup_cons.mp hl
    rw [List.foldl_cons, ih hrest (fireTest n s), testClips_cons]
    have hsweep : ((s.shu.sweep.map (fun w => { w with members := w.members.map (fun m : SweepMember =>
        if m.station = n then { m with fired := m.fired + 1 } else m) })).map
          (fun w => { w with members := testMembers l w.members })) =
        s.shu.sweep.map (fun w => { w with members := testMembers (n :: l) w.members }) := by
      simp only [Option.map_map, ← testMembers_cons hn]
      rfl
    rw [← hsweep]
    rfl

theorem testSlots_length (t : Tables) (l : List Nat) (commands : List SlotCommand) :
    (testSlots t l commands).length = commands.length := by
  unfold testSlots
  induction l generalizing commands with
  | nil => rfl
  | cons n l ih => rw [List.foldl_cons, ih, List.length_set]

theorem testSlots_getElem? (t : Tables) (l : List Nat) (hl : ∀ n ∈ l, 1 ≤ n) (commands : List SlotCommand) {i : Nat}
    (hi : i < commands.length) : (testSlots t l commands)[i]? =
      if i + 1 ∈ l then some (.test (dropPosition t (i + 1)) true) else commands[i]? := by
  induction l generalizing commands with
  | nil => rfl
  | cons n l ih =>
    have hpos : 1 ≤ n := hl n List.mem_cons_self
    have hopen : testSlots t (n :: l) commands =
      testSlots t l (commands.set (n - 1) (.test (dropPosition t n) true)) := rfl
    rw [hopen, ih (fun m hm => hl m (List.mem_cons_of_mem n hm)) _ (by simpa using hi)]
    by_cases hmem : i + 1 ∈ l
    · simp [hmem]
    · by_cases hn : n = i + 1
      · subst hn
        simp [hmem, hi]
      · have hne : n - 1 ≠ i := by omega
        have hne' : ¬ i + 1 = n := fun h => hn h.symm
        simp [hmem, hne, hne', List.getElem?_set_ne]

/-- R68: the slots of a fresh exchange after the TESTs. -/
theorem testSlots_fresh (t : Tables) (l : List Nat) (hl : ∀ n ∈ l, 1 ≤ n) :
    testSlots t l (List.replicate 96 .none) =
      (List.range' 1 96).map (fun n => if n ∈ l then .test (dropPosition t n) true else .none) := by
  refine List.ext_getElem? fun i => ?_
  by_cases hi : i < 96
  · rw [testSlots_getElem? t l hl _ (by simpa using hi), List.getElem?_map, List.getElem?_range' hi]
    simp only [Nat.one_mul, Nat.add_comm 1 i, Option.map_some]
    split
    · rfl
    · exact List.getElem?_replicate_of_lt hi
  · rw [List.getElem?_eq_none (by rw [testSlots_length]; simpa using hi), List.getElem?_eq_none (by simpa using hi)]

/-- R68: the stations that are due in an exchange, by number. -/
def dueStations (s : State) (w : Sweep) : List Nat :=
  (List.range' 1 96).filter (fun n => decide (n ∈ w.current ∧ fitted s.tables n = true
    ∧ clipAt s.csq (dropPosition s.tables n) = .empty ∧ ∃ m ∈ w.members, m.station = n ∧ m.fired < w.passes))

theorem testDue_iff (s : State) (w : Sweep) (n : Nat) : testDue s w n = true ↔ n ∈ w.current ∧ fitted s.tables n = true
    ∧ clipAt s.csq (dropPosition s.tables n) = .empty ∧ ∃ m ∈ w.members, m.station = n ∧ m.fired < w.passes := by
  simp only [testDue, Bool.and_eq_true, List.contains_iff_mem, List.any_eq_true, beq_iff_eq, decide_eq_true_eq]
  tauto

theorem dueStations_eq (s : State) (w : Sweep) : (List.range' 1 96).filter (testDue s w) = dueStations s w :=
  List.filter_congr fun n _ => Bool.eq_iff_iff.mpr (by rw [testDue_iff, decide_eq_true_iff])

theorem dueStations_facts (s : State) (w : Sweep) :
    (dueStations s w).Nodup ∧ ∀ n ∈ dueStations s w, 1 ≤ n ∧ n ≤ 96 := by
  refine ⟨(List.nodup_range' (step := 1)).filter _, fun n hn => ?_⟩
  have hmem := List.mem_range'_1.mp (List.mem_of_mem_filter hn)
  omega

/-- R68: the sweep after the TESTs of an exchange and the test of its group. -/
def sweepAfterTests (w : Sweep) (due : List Nat) : Sweep :=
  let members := testMembers due w.members
  if w.waiting ≠ [] ∧ ∀ m ∈ members, m.fired = w.passes then { w with
    members := members ++ (w.waiting.take w.group).map (⟨·, 0, 0, 0, false⟩)
    current := w.waiting.take w.group, waiting := w.waiting.drop w.group }
  else { w with members := members }

theorem groupTest_eq (w : Sweep) (l : List Nat) :
    (if !w.waiting.isEmpty && (testMembers l w.members).all (fun m => m.fired == w.passes)
      then nextGroup { w with members := testMembers l w.members } else { w with members := testMembers l w.members }) =
      sweepAfterTests w l := by
  have hiff : (!w.waiting.isEmpty && (testMembers l w.members).all (fun m => m.fired == w.passes)) = true ↔
      w.waiting ≠ [] ∧ ∀ m ∈ testMembers l w.members, m.fired = w.passes := by
    simp
  simp only [sweepAfterTests]
  by_cases h : w.waiting ≠ [] ∧ ∀ m ∈ testMembers l w.members, m.fired = w.passes
  · rw [if_pos (hiff.mpr h), if_pos h]
    rfl
  · rw [if_neg (mt hiff.mp h), if_neg h]

theorem buildTests_sweeping {w : Sweep} (hseq : s.csq.seq = .sweeping) (hw : s.shu.sweep = some w) : buildTests s = { s with
    csq := { s.csq with
      commands := testSlots s.tables (dueStations s w) s.csq.commands
      ring := testClips s.tables s.csq.base (dueStations s w) s.csq.ring }
    shu := { s.shu with sweep := some (sweepAfterTests w (dueStations s w)) } } := by
  obtain ⟨hnodup, -⟩ := dueStations_facts s w
  have hfired := fireTests_eq (dueStations s w) hnodup s
  have hopen : buildTests s =
      groupTest (((List.range' 1 96).filter (testDue s w)).foldl (fun t n => fireTest n t) s) := by
    unfold buildTests
    simp only [hseq, hw]
  rw [hopen, dueStations_eq, hfired, hw, ← groupTest_eq]
  rfl

/-- R51: an exchange of TESTs alone is COMPLETE when no station is due. -/
theorem exchangeOf_tests (level : Level) (t : Tables) {l : List Nat} (hl : ∀ n ∈ l, 1 ≤ n ∧ n ≤ 96) :
    exchangeOf level ((List.range' 1 96).map (fun n => if n ∈ l then .test (dropPosition t n) true else .none)) =
      if l = [] then .complete else if level = .stop then .waiting else .inFlight := by
  have hiff : ((List.range' 1 96).map (fun n => if n ∈ l then SlotCommand.test (dropPosition t n) true else .none)).all
      (· == .none) = true ↔ l = [] := by
    rw [List.all_eq_true]
    constructor
    · intro h
      refine List.eq_nil_iff_forall_not_mem.mpr fun n hn => ?_
      obtain ⟨h1, h2⟩ := hl n hn
      have hslot := h _ (List.mem_map_of_mem (List.mem_range'_1.mpr ⟨h1, by omega⟩))
      simp [hn] at hslot
    · rintro rfl c hc
      obtain ⟨n, -, rfl⟩ := List.mem_map.mp hc
      simp
  simp only [exchangeOf, hiff]

theorem buildExchange_sweeping {w : Sweep} (hseq : s.csq.seq = .sweeping) (hw : s.shu.sweep = some w)
    (hwindow : s.csq.window = []) : buildExchange s = { s with
      csq := { s.csq with
        commands := (List.range' 1 96).map (fun n => if n ∈ dueStations s w then .test (dropPosition s.tables n) true
          else .none)
        replies := List.replicate 96 .silent
        ring := testClips s.tables s.csq.base (dueStations s w) s.csq.ring
        exchange := if dueStations s w = [] then .complete
          else if s.alc.effective = .stop then .waiting else .inFlight }
      shu := { s.shu with sweep := some (sweepAfterTests w (dueStations s w)) } } := by
  obtain ⟨-, hrange⟩ := dueStations_facts s w
  have hfires : fireCommands s = List.replicate 96 .none := fireCommands_none (fireCommand_window_nil hwindow)
  have hdue : dueStations (withFires s) w = dueStations s w := rfl
  rw [buildExchange_open, buildTests_sweeping (s := withFires s) hseq hw, sendOrWait_eq, hdue,
    ← exchangeOf_tests _ s.tables hrange, ← testSlots_fresh s.tables _ (fun n hn => (hrange n hn).1), ← hfires]
  rfl

end Sys2Proof.Machine

open Sys2Proof Sys2Proof.Machine

/-- Settles O42: the FIREs outside a sweep, the TESTs within one. -/
theorem exchangeIsBuilt : Obligations.ExchangeIsBuilt := by
  unfold Obligations.ExchangeIsBuilt
  refine ⟨fun s hseq => ?_, fun s w hseq hw hwindow => ?_⟩
  · have hbuilt := buildExchange_fires hseq
    intro q
    have hcommands : q.commands = fireCommands s := congrArg (fun t : State => t.csq.commands) hbuilt
    have hexchange : q.exchange = exchangeOf s.alc.effective (fireCommands s) :=
      congrArg (fun t : State => t.csq.exchange) hbuilt
    refine ⟨?_, ?_, fun n uid h1 h2 => ?_, fun c hc => ?_, ?_⟩
    · rw [hcommands, hexchange]
      exact hbuilt
    · rw [hcommands, fireCommands_length]
    · rw [hcommands, fireCommands_getElem? s h1 h2, Option.some.injEq]
      exact fireCommand_iff s n uid
    · rw [hcommands] at hc
      obtain ⟨n, -, rfl⟩ := List.mem_map.mp hc
      exact fireCommand_cases s n
    · rw [hcommands, hexchange, exchangeOf_eq _ (fireCommands_length s)]
  · exact buildExchange_sweeping hseq hw hwindow

end

section
/-! PROOF. The index event, and the hand-over of the clip at position 0 (R42, R45, R54, R75). -/

namespace Sys2Proof.Machine

variable {s : State}

/-! ### The event (R42) -/

/-- R32, R34, R42: the chain one step on, in SETTLE. -/
def movedCsq (q : Csq) : Csq := advanceChain { q with stepTimer := .stopped, abandoned := false, cycle := .settle }

/-- R42: the part once the chain has moved. -/
def movedState (s : State) : State := { s with csq := movedCsq s.csq }

/-- R42, R43: an index event belongs to a step, or to one abandoned. -/
def InStep (s : State) : Prop := s.csq.cycle = .step ∨ (s.csq.cycle = .rest ∧ s.csq.abandoned = true)

theorem exec_chainIndexEvent (present : Bool) (h : InStep s) : exec (.chainIndexEvent present) s = .next (settleTest
    (buildExchange (assignStep (handOver (purgeTest (clipSense present (movedState s))))))) := if_pos h

theorem exec_chainIndexEvent_ignored (present : Bool) (h : ¬ InStep s) : exec (.chainIndexEvent present) s = .next s :=
  if_neg h

/-! ### The hand-over (R54, R75) -/

/-- R54: the entry that holds the LOADED clip at position 0 is TAPING. -/
def tapingAt0 (l : List WindowEntry) : List WindowEntry :=
  l.map (fun w => if w.status = .loaded ∧ w.clip = some 0 then { w with status := .taping } else w)

theorem handOver_loaded (h : clipAt s.csq 0 = .loaded) :
    handOver s = startTaping { s with csq := { s.csq with window := tapingAt0 s.csq.window } } := by
  have htaken : s.updCsq (fun q => { q with window := q.window.map (fun w =>
      if clipAt q 0 = .loaded ∧ w.status = .loaded ∧ w.clip = some 0 then { w with status := .taping } else w) }) =
      { s with csq := { s.csq with window := tapingAt0 s.csq.window } } := by
    simp only [State.updCsq, h, true_and]
    rfl
  unfold handOver
  simp only [htaken, h]
  rfl

theorem handOver_other (h : clipAt s.csq 0 ≠ .loaded) : handOver s = startTransfer (clipAt s.csq 0) s := by
  have hsame : s.updCsq (fun q => { q with window := q.window.map (fun w =>
      if clipAt q 0 = .loaded ∧ w.status = .loaded ∧ w.clip = some 0 then { w with status := .taping } else w) }) = s := by
    simp [State.updCsq, h]
  unfold handOver
  simp only [hsame]

theorem handOver_empty (h : clipAt s.csq 0 = .empty) : handOver s = s := by
  rw [handOver_other (by rw [h]; decide), h]
  rfl

theorem handOver_dumps (h : clipAt s.csq 0 = .reject ∨ clipAt s.csq 0 = .unknown ∨ ∃ n, clipAt s.csq 0 = .test n) :
    handOver s = commandTransfer .dump s := by
  rcases h with h | h | ⟨n, h⟩
  · rw [handOver_other (by rw [h]; decide), h]
    rfl
  · rw [handOver_other (by rw [h]; decide), h]
    rfl
  · rw [handOver_other (by rw [h]; simp), h]
    rfl

theorem startTaping_verified (h : s.tpc.verified = true) : startTaping s = commandTransfer .tape s := by
  rw [startTaping, if_pos h]

theorem startTaping_waits (h : s.tpc.verified = false) :
    startTaping s = { s with tpc := { s.tpc with transfer := some ⟨.tape, .waitTape⟩ } } := by
  rw [startTaping, h]
  rfl

/-- R75: an operation commanded while the line is RELEASED runs. -/
theorem commandTransfer_released (op : TransferOp) (h : s.alc.estop = .released) : commandTransfer op s = { s with
    tpc := { s.tpc with transfer := some ⟨op, .running⟩, timer := .running s.tables.constants.taperTimeout }
    out := match op with
      | .tape => { s.out with reTaper := .start }
      | .dump => { s.out with gate := .start } } := by
  have hline : ¬ s.alc.estop = .asserted := by rw [h]; decide
  rw [commandTransfer_eq, if_neg hline, if_neg hline] <;> rfl

/-! ### The works that find nothing to do -/

theorem clipSense_quiet {present : Bool} (h : clipAt s.csq s.tables.constants.sensePos = .reject
    ∨ (clipAt s.csq s.tables.constants.sensePos = .empty ∧ present = false)) : clipSense present s = s := by
  rcases h with h | ⟨h, rfl⟩
  · exact clipSense_reject _ rfl h
  · exact (clipSense_empty _ rfl h).1

theorem purgeTest_quiet (h : s.csq.seq ≠ .purging ∨ .unknown ∈ s.csq.ring) : purgeTest s = s := by
  refine if_neg fun ⟨hseq, hall⟩ => ?_
  rcases h with h | h
  · exact h hseq
  · exact (noneUnknown_iff s.csq.ring).mp hall h

theorem assignStep_quiet (h : s.csq.seq ≠ .running ∧ s.csq.seq ≠ .held) : assignStep s = s :=
  if_neg fun hseq => hseq.elim h.1 h.2

theorem assignStep_assigns (h : s.csq.seq = .running ∨ s.csq.seq = .held) : assignStep s = assignEntering s := if_pos h

/-- R47: with no candidate in the window and none in the queue nothing is assigned. -/
theorem assignEntering_quiet (h : ∀ v ∈ s.csq.window, v.status ≠ .unassigned) (hq : s.pin.queue = []) :
    assignEntering s = s := by
  rw [assignEntering_eq, unassigned_nil h]
  simp only [dropInvalid, assignFrom, take_nil hq]

/-- R51: an exchange with nothing to say is COMPLETE. -/
def noCommands (q : Csq) : Csq :=
  { q with exchange := .complete, commands := List.replicate 96 .none, replies := List.replicate 96 .silent }

theorem buildExchange_quiet (hseq : s.csq.seq ≠ .sweeping) (h : ∀ n, fireCommand s n = .none) :
    buildExchange s = { s with csq := noCommands s.csq } := by
  rw [buildExchange_fires hseq, exchangeOf_eq _ (fireCommands_length s), fireCommands_none h, if_pos rfl]
  rfl

theorem settleTest_busy (h : s.tpc.transfer ≠ none) : settleTest s = s := if_neg fun ⟨_, _, hnone⟩ => h hnone

/-- R45: a cycle with nothing under way goes back to REST. -/
theorem settleTest_settles {u : State} (hcycle : u.csq.cycle = .settle) (hexchange : u.csq.exchange = .complete)
    (htransfer : u.tpc.transfer = none) (hseq : u.csq.seq ≠ .running ∧ u.csq.seq ≠ .held) :
    settleTest u = { u with csq := { u.csq with cycle := .rest } } :=
  (if_pos ⟨hcycle, hexchange, htransfer⟩).trans (if_neg fun h => h.1.elim hseq.1 hseq.2)

/-- R50: the entry in the clip at position 0 is at no station: drop position 0 is that of no fitted one. -/
theorem fireCommand_at0 {w : WindowEntry} (hwindow : s.csq.window = [w]) (hclip : w.clip = some 0) (n : Nat) :
    fireCommand s n = .none := by
  by_cases hd : dropPosition s.tables n = 0
  · rcases he : entryAt s.csq (dropPosition s.tables n) with _ | v
    · exact fireCommand_vacant he
    · rw [fireCommand_held he, if_neg]
      rintro ⟨⟨hfit, -⟩, -⟩
      simp [fitted, hd] at hfit
  · refine fireCommand_vacant ?_
    rw [entryAt, hwindow]
    simp [hclip, Ne.symm hd]

/-! ### Three whole events -/

section

variable {present : Bool} (hin : InStep s) (hsensed : clipAt (movedCsq s.csq) s.tables.constants.sensePos = .reject
    ∨ (clipAt (movedCsq s.csq) s.tables.constants.sensePos = .empty ∧ present = false))

include hin hsensed

theorem exec_chainIndexEvent_sensed (hpurge : s.csq.seq ≠ .purging ∨ .unknown ∈ s.csq.ring) :
    exec (.chainIndexEvent present) s =
      .next (settleTest (buildExchange (assignStep (handOver (movedState s))))) := by
  rw [exec_chainIndexEvent present hin, clipSense_quiet (s := movedState s) hsensed,
    purgeTest_quiet (s := movedState s) hpurge]

/-- R45: a step whose slot stays empty is at once back in REST. -/
theorem indexEvent_empty (hwindow : s.csq.window = [])
    (hseq : s.csq.seq = .idle ∨ (s.csq.seq = .purging ∧ .unknown ∈ s.csq.ring)) (hclip : clipAt (movedCsq s.csq) 0 = .empty)
    (htransfer : s.tpc.transfer = none) : exec (.chainIndexEvent present) s =
      .next { s with csq := { noCommands (movedCsq s.csq) with cycle := .rest } } := by
  have hpurge : s.csq.seq ≠ .purging ∨ .unknown ∈ s.csq.ring := hseq.imp (fun h => by rw [h]; decide) And.right
  have hstate : s.csq.seq ≠ .running ∧ s.csq.seq ≠ .held ∧ s.csq.seq ≠ .sweeping := by
    rcases hseq with h | ⟨h, -⟩ <;> rw [h] <;> decide
  obtain ⟨hrun, hheld, hsweep⟩ := hstate
  have hnone : (movedState s).csq.window = [] := by simp [movedState, movedCsq, advanceChain, hwindow]
  rw [exec_chainIndexEvent_sensed hin hsensed hpurge, handOver_empty (s := movedState s) hclip,
    assignStep_quiet (s := movedState s) ⟨hrun, hheld⟩,
    buildExchange_quiet (s := movedState s) hsweep (fireCommand_window_nil hnone),
    settleTest_settles (u := { movedState s with csq := noCommands (movedState s).csq }) rfl rfl htransfer ⟨hrun, hheld⟩]
  rfl

/-- R54, R75: a step that brings a clip to be dumped. -/
theorem indexEvent_dumps (hwindow : s.csq.window = [])
    (hseq : s.csq.seq = .idle ∨ (s.csq.seq = .purging ∧ .unknown ∈ s.csq.ring))
    (hclip : clipAt (movedCsq s.csq) 0 = .reject ∨ clipAt (movedCsq s.csq) 0 = .unknown)
    (hestop : s.alc.estop = .released) : exec (.chainIndexEvent present) s = .next { s with
      csq := noCommands (movedCsq s.csq)
      tpc := { s.tpc with transfer := some ⟨.dump, .running⟩, timer := .running s.tables.constants.taperTimeout }
      out := { s.out with gate := .start } } := by
  have hpurge : s.csq.seq ≠ .purging ∨ .unknown ∈ s.csq.ring := hseq.imp (fun h => by rw [h]; decide) And.right
  have hstate : s.csq.seq ≠ .running ∧ s.csq.seq ≠ .held ∧ s.csq.seq ≠ .sweeping := by
    rcases hseq with h | ⟨h, -⟩ <;> rw [h] <;> decide
  obtain ⟨hrun, hheld, hsweep⟩ := hstate
  have hnone : (movedState s).csq.window = [] := by simp [movedState, movedCsq, advanceChain, hwindow]
  have hcommanded : handOver (movedState s) = { movedState s with
      tpc := { s.tpc with transfer := some ⟨.dump, .running⟩, timer := .running s.tables.constants.taperTimeout }
      out := { s.out with gate := .start } } := by
    rw [handOver_dumps (s := movedState s) (hclip.imp_right .inl), commandTransfer_released .dump (by exact hestop)]
    rfl
  rw [exec_chainIndexEvent_sensed hin hsensed hpurge, hcommanded, assignStep_quiet (by exact ⟨hrun, hheld⟩),
    buildExchange_quiet (by exact hsweep) (fireCommand_window_nil (by exact hnone)), settleTest_busy (by simp)]
  rfl

/-- R54, R75: a step that brings the LOADED clip of the only entry to verified tape. -/
theorem indexEvent_tapes {w : WindowEntry} (hseq : s.csq.seq = .running ∨ s.csq.seq = .held) (hwindow : s.csq.window = [w])
    (hw : w.status = .loaded) (hclip : w.clip = some 1) (hloaded : clipAt (movedCsq s.csq) 0 = .loaded)
    (hq : s.pin.queue = []) (hverified : s.tpc.verified = true) (hestop : s.alc.estop = .released) :
    exec (.chainIndexEvent present) s = .next { s with
      csq := { noCommands (movedCsq s.csq) with window := [{ w with clip := some 0, status := .taping }] }
      tpc := { s.tpc with transfer := some ⟨.tape, .running⟩, timer := .running s.tables.constants.taperTimeout }
      out := { s.out with reTaper := .start } } := by
  have hstate : s.csq.seq ≠ .purging ∧ s.csq.seq ≠ .sweeping := by rcases hseq with h | h <;> rw [h] <;> decide
  obtain ⟨hpurge, hsweep⟩ := hstate
  have hmoved : (movedState s).csq.window = [{ w with clip := some 0 }] := by
    simp [movedState, movedCsq, advanceChain, hwindow, hclip]
  have htaping : tapingAt0 (movedState s).csq.window = [{ w with clip := some 0, status := .taping }] := by
    simp [hmoved, tapingAt0, hw]
  have hcommanded : handOver (movedState s) = { movedState s with
      csq := { movedCsq s.csq with window := [{ w with clip := some 0, status := .taping }] }
      tpc := { s.tpc with transfer := some ⟨.tape, .running⟩, timer := .running s.tables.constants.taperTimeout }
      out := { s.out with reTaper := .start } } := by
    rw [handOver_loaded (s := movedState s) hloaded, htaping, startTaping_verified (by exact hverified),
      commandTransfer_released .tape (by exact hestop)]
    rfl
  rw [exec_chainIndexEvent_sensed hin hsensed (.inl hpurge), hcommanded, assignStep_assigns (by exact hseq),
    assignEntering_quiet (by simp) (by exact hq), buildExchange_quiet (by exact hsweep) (fireCommand_at0 rfl rfl),
    settleTest_busy (by simp)]
  rfl

end

end Sys2Proof.Machine

open Sys2Proof Sys2Proof.Machine

/-- Settles O41: the works of the event, three whole events, and the hand-over by the clip. -/
theorem indexEvents : Obligations.IndexEvents := by
  unfold Obligations.IndexEvents
  intro present s base moved noCommands inStep sensed quiet held full starts taken
  refine ⟨exec_chainIndexEvent_ignored present, exec_chainIndexEvent present,
    fun hin hsensed ⟨hwindow, hseq⟩ => indexEvent_empty hin hsensed hwindow hseq,
    fun hin hsensed ⟨hwindow, hseq⟩ => indexEvent_dumps hin hsensed hwindow hseq,
    fun w hin hsensed => indexEvent_tapes hin hsensed,
    fun hloaded => ⟨fun hverified => ?_, fun hverified => ?_⟩, fun hdump => ?_, handOver_empty⟩
  · rw [handOver_loaded hloaded, startTaping_verified (by exact hverified), commandTransfer_eq]
    rfl
  · rw [handOver_loaded hloaded, startTaping_waits (by exact hverified)]
    rfl
  · rw [handOver_dumps hdump, commandTransfer_eq]

end

section
/-! PROOF. An exchange completes: what one slot's reply does, what its report does, and a whole exchange with one FIRE slot
(R45, R52, R53, R57 to R59, R69, R72). -/

namespace Sys2Proof.Machine

variable {s : State}

/-! ### The event (R52) -/

/-- R52: the reply heard of a station. -/
def heardOf (replies : List ReplySlot) (n : Nat) : Reply := ReplySlot.reply (replies.getD (n - 1) .unfilled)

/-- R52: the slots of the exchange with their replies, in station order. -/
def slotsOf (replies : List ReplySlot) (s : State) : List (Nat × SlotCommand × Reply) :=
  (List.range' 1 96).map (fun n => (n, s.csq.commands.getD (n - 1) .none, heardOf replies n))

/-- R45, R52: the exchange COMPLETE with its replies. -/
def heardState (replies : List ReplySlot) (s : State) : State :=
  { s with csq := { s.csq with exchange := .complete, replies := (List.range' 1 96).map (heardOf replies) } }

/-- R52: what is done once the replies are applied. -/
def afterReplies (slots : List (Nat × SlotCommand × Reply)) (acc : State × List Nat) : State :=
  settleTest (sweepTest (slots.foldl reportSlot (missCascade acc.2 acc.1)))

theorem range'_one_map {α : Type} (f : Nat → α) (k : Nat) :
    (List.range' 1 k).map f = (List.range k).map (fun i => f (i + 1)) := by
  rw [List.range'_eq_map_range, List.map_map]
  exact List.map_congr_left fun i _ => congrArg f (Nat.add_comm 1 i)

theorem exec_exchangeComplete (replies : List ReplySlot) (h : s.csq.exchange = .inFlight) :
    exec (.exchangeComplete replies) s =
      .next (afterReplies (slotsOf replies s) ((slotsOf replies s).foldl applyReply (heardState replies s, []))) := by
  have hheard : (List.range 96).map (fun i => ReplySlot.reply (replies.getD i .unfilled)) =
      (List.range' 1 96).map (heardOf replies) := (range'_one_map (heardOf replies) 96).symm
  have hslots : (List.range 96).map (fun i => (i + 1, s.csq.commands.getD i .none,
      ((List.range 96).map (fun i => ReplySlot.reply (replies.getD i .unfilled))).getD i .silent)) = slotsOf replies s := by
    rw [slotsOf, range'_one_map]
    refine List.map_congr_left fun i hi => ?_
    have hget : ((List.range 96).map (fun i => ReplySlot.reply (replies.getD i .unfilled))).getD i .silent =
        heardOf replies (i + 1) := by
      rw [List.getD_eq_getElem?_getD, List.getElem?_map, List.getElem?_range (List.mem_range.mp hi)]
      rfl
    rw [hget]
    rfl
  change execExchangeComplete replies s = _
  unfold execExchangeComplete
  rw [if_pos h]
  simp only [Config.stationCount]
  rw [hslots, hheard]
  rfl

theorem exec_exchangeComplete_ignored (replies : List ReplySlot) (h : s.csq.exchange ≠ .inFlight) :
    exec (.exchangeComplete replies) s = .next s := if_neg h

/-- R52: whatever the replies, the window keeps its order. -/
theorem afterReplies_window (slots : List (Nat × SlotCommand × Reply)) (u : State) :
    windowIds (afterReplies slots (slots.foldl applyReply (u, []))).csq = windowIds u.csq := by
  have hreplies := applyReplies_steady slots (u, [])
  generalize slots.foldl applyReply (u, []) = acc at hreplies ⊢
  have hdone : Steady acc.1 (afterReplies slots acc) :=
    ((settleTest_steady _).after (sweepTest_steady _)).after
      ((Steady.foldl reportSlot_steady _ _).after (missCascade_steady _ _))
  exact congrArg View.windowIds (hdone.after hreplies).sameView

theorem exec_exchangeComplete_window (replies : List ReplySlot) (s : State) :
    ∃ t, exec (.exchangeComplete replies) s = .next t
      ∧ t.csq.window.map (·.entry.uid) = s.csq.window.map (·.entry.uid) := by
  by_cases hflight : s.csq.exchange = .inFlight
  · exact ⟨_, exec_exchangeComplete replies hflight, afterReplies_window _ (heardState replies s)⟩
  · exact ⟨s, exec_exchangeComplete_ignored replies hflight, rfl⟩

/-! ### One slot's reply (R52, R53) -/

theorem drop_iff (r : Reply) : r.drop = true ↔ r = .dropped ∨ r = .droppedLow := by
  cases r <;> simp [Reply.drop]

section

variable {missed : List Nat} {n : Nat} {r : Reply}

theorem applyReply_none : applyReply (s, missed) (n, .none, r) = (s, missed) := rfl

/-- R52: the entry a FIRE slot was built for holds its clip, RESERVED still. -/
def Booked (s : State) (n uid : Nat) (w : WindowEntry) : Prop :=
  entryAt s.csq (dropPosition s.tables n) = some w ∧ w.entry.uid = uid ∧ w.status = .reserved
    ∧ clipAt s.csq (dropPosition s.tables n) = .reserved

theorem firedEntry_iff (s : State) (n uid : Nat) (w : WindowEntry) : firedEntry s n uid = some w ↔ Booked s n uid w := by
  unfold firedEntry Booked
  rcases entryAt s.csq (dropPosition s.tables n) with _ | v
  · simp
  · simp only [Option.some.injEq]
    constructor
    · intro h
      split at h
      next hv =>
        obtain rfl := Option.some.inj h
        exact ⟨rfl, hv⟩
      · contradiction
    · rintro ⟨rfl, hv⟩
      exact if_pos hv

theorem applyReply_drop {uid : Nat} {w : WindowEntry} (h : Booked s n uid w) (hr : r.drop = true) :
    applyReply (s, missed) (n, .fire uid, r) =
      (setStatus uid .loaded (setClip (dropPosition s.tables n) .loaded s), missed) := by
  have hfired := (firedEntry_iff s n uid w).mpr h
  obtain ⟨-, rfl, -⟩ := h
  simp only [applyReply, hfired, hr, if_true]

theorem applyReply_missed {uid : Nat} {w : WindowEntry} (h : Booked s n uid w) (hr : ¬ r.drop = true) :
    applyReply (s, missed) (n, .fire uid, r) = (setClip (dropPosition s.tables n) .empty s, missed ++ [uid]) := by
  have hfired := (firedEntry_iff s n uid w).mpr h
  obtain ⟨-, rfl, -⟩ := h
  simp only [applyReply, hfired, if_neg hr]

theorem applyReply_unbooked {uid : Nat} (h : ∀ w, ¬ Booked s n uid w) : applyReply (s, missed) (n, .fire uid, r) =
    (if r.drop then setClip (dropPosition s.tables n) .reject s else s, missed) := by
  have hfired : firedEntry s n uid = none :=
    Option.eq_none_iff_forall_ne_some.mpr fun w hw => h w ((firedEntry_iff s n uid w).mp hw)
  simp only [applyReply, hfired]

theorem applyReply_test {q : Nat} {j : Bool} : applyReply (s, missed) (n, .test q j, r) =
    (if r.drop = false ∧ clipAt s.csq q = .test n then setClip q .empty s else s, missed) := rfl

end

/-! ### One slot's report (R57 to R59, R69, R72) -/

/-- R57: the station's fires count, and its record changes by `f`. -/
def countedFire (n : Nat) (f : StationRecord → StationRecord) (s : State) : State := { s with shu := { s.shu with
  records := s.shu.records.modify (n - 1) (fun x => f { x with fires := x.fires + 1 }) } }

theorem setRecord_eq {n : Nat} (hn : 1 ≤ n) (f : StationRecord → StationRecord) (s : State) :
    setRecord n f s = { s with shu := { s.shu with records := s.shu.records.modify (n - 1) f } } :=
  if_neg (Nat.one_le_iff_ne_zero.mp hn)

section

variable {n : Nat} (hn : 1 ≤ n)

include hn

theorem countFire_eq (s : State) : countFire n s = countedFire n id s := setRecord_eq hn _ s

theorem setRecord_countFire (f : StationRecord → StationRecord) (s : State) :
    setRecord n f (countFire n s) = countedFire n f s := by
  rw [countFire, setRecord_eq hn, setRecord_eq hn]
  simp only [List.modify_modify_eq]
  rfl

/-- R57: a count of fires changes nothing else of a record. -/
theorem recordAt_countFire {α : Type} (g : StationRecord → α) (hg : ∀ x : StationRecord, g { x with fires := x.fires + 1 } = g x)
    (s : State) : g (recordAt (countFire n s).shu n) = g (recordAt s.shu n) := by
  have hne : n ≠ 0 := Nat.one_le_iff_ne_zero.mp hn
  rw [countFire, setRecord_eq hn]
  simp only [recordAt, if_neg hne, List.getD_eq_getElem?_getD, List.getElem?_modify_eq]
  cases s.shu.records[n - 1]? with
  | none => rfl
  | some x => exact hg x

theorem lowReply_counted (s : State) :
    lowReply n (countFire n s) = post .reelLow (some n) (countedFire n ({ · with low := true }) s) := by
  rw [lowReply, setRecord_countFire hn]

/-- R59, R60: an EMPTY reply, by what stood before it. -/
theorem emptyReply_counted (s : State) : emptyReply n (countFire n s) =
    if (recordAt s.shu n).empty = true then post .stationEmpty (some n) (countedFire n id s)
    else stationFailed (usable s.tables s.shu n) n
      (post .stationEmpty (some n) (countedFire n ({ · with empty := true }) s)) := by
  have hempty : (recordAt (countFire n s).shu n).empty = (recordAt s.shu n).empty :=
    recordAt_countFire hn StationRecord.empty (fun _ => rfl) s
  have hsound : (recordAt (countFire n s).shu n).sound = (recordAt s.shu n).sound :=
    recordAt_countFire hn StationRecord.sound (fun _ => rfl) s
  have htables : (countFire n s).tables = s.tables := by rw [countFire_eq hn]; rfl
  rw [emptyReply, hempty, setRecord_countFire hn, countFire_eq hn]
  rw [countFire_eq hn] at hsound htables
  simp only [usable, hsound, htables]

end

/-! ### A whole exchange with one FIRE slot -/

/-- A fold that one member of the list has a part in. -/
theorem foldl_single {α β : Type} {f : β → α → β} {a : α} (l : List α) (hl : l.Nodup) (ha : a ∈ l)
    (hf : ∀ b, ∀ x ∈ l, x ≠ a → f b x = b) (b : β) : l.foldl f b = f b a := by
  have hskip : ∀ (l' : List α) (b : β), (∀ x ∈ l', x ∈ l ∧ x ≠ a) → l'.foldl f b = b := by
    intro l'
    induction l' with
    | nil => exact fun b _ => rfl
    | cons x rest ih =>
      intro b hrest
      obtain ⟨hx, hne⟩ := hrest x List.mem_cons_self
      rw [List.foldl_cons, hf b x hx hne]
      exact ih b fun y hy => hrest y (List.mem_cons_of_mem x hy)
  obtain ⟨before, after, rfl⟩ := List.append_of_mem ha
  obtain ⟨-, hcons, hdisjoint⟩ := List.nodup_append.mp hl
  have hb : ∀ x ∈ before, x ∈ before ++ a :: after ∧ x ≠ a := fun x hx =>
    ⟨List.mem_append_left _ hx, hdisjoint x hx a List.mem_cons_self⟩
  have ht : ∀ x ∈ after, x ∈ before ++ a :: after ∧ x ≠ a := fun x hx =>
    ⟨List.mem_append_right _ (List.mem_cons_of_mem a hx), fun h => (List.nodup_cons.mp hcons).1 (h ▸ hx)⟩
  rw [List.foldl_append, hskip before b hb, List.foldl_cons, hskip after _ ht]

/-- A list of 96 that is `d` but for the place of station `n`. -/
theorem getD_single {α : Type} {d a : α} {n m : Nat} (hn : 1 ≤ n) (hn' : n ≤ 96) (hm : 1 ≤ m) :
    ((List.replicate 96 d).set (n - 1) a).getD (m - 1) d = if m = n then a else d := by
  rw [List.getD_eq_getElem?_getD]
  by_cases h : m = n
  · subst h
    rw [if_pos rfl, List.getElem?_set_self (by rw [List.length_replicate]; omega)]
    rfl
  · rw [if_neg h, List.getElem?_set_ne (by omega), List.getElem?_replicate]
    split <;> rfl

/-- R52: the replies of an exchange in which one station alone is heard. -/
def oneReply (n : Nat) (r : ReplySlot) : List ReplySlot := (List.replicate 96 .unfilled).set (n - 1) r

section

variable {n uid : Nat} (hn : 1 ≤ n) (hn' : n ≤ 96)

include hn hn'

theorem heardOf_one (r : ReplySlot) {m : Nat} (hm : 1 ≤ m) :
    heardOf (oneReply n r) m = if m = n then ReplySlot.reply r else .silent := by
  rw [heardOf, oneReply, getD_single hn hn' hm]
  split <;> rfl

theorem heard_one (r : ReplySlot) :
    (List.range' 1 96).map (heardOf (oneReply n r)) = (List.replicate 96 .silent).set (n - 1) (ReplySlot.reply r) := by
  refine List.ext_getElem? fun i => ?_
  by_cases hi : i < 96
  · rw [List.getElem?_map, List.getElem?_range' hi, Option.map_some, heardOf_one hn hn' r (by omega)]
    by_cases h : n = i + 1
    · subst h
      rw [if_pos (by omega), Nat.add_sub_cancel, List.getElem?_set_self (by rw [List.length_replicate]; exact hi)]
    · rw [if_neg (by omega), List.getElem?_set_ne (by omega), List.getElem?_replicate_of_lt hi]
  · rw [List.getElem?_eq_none (by simpa using hi), List.getElem?_eq_none (by simpa using hi)]

theorem heardState_one (r : ReplySlot) (s : State) : heardState (oneReply n r) s = { s with csq := { s.csq with
    exchange := .complete, replies := (List.replicate 96 .silent).set (n - 1) (ReplySlot.reply r) } } := by
  rw [heardState, heard_one hn hn']

variable (hcommands : s.csq.commands = (List.replicate 96 .none).set (n - 1) (.fire uid))

include hcommands

/-- With one command in the exchange one slot has a part in any work that passes over the slots with none. -/
theorem slots_one {β : Type} (f : β → Nat × SlotCommand × Reply → β) (hf : ∀ b m r, f b (m, .none, r) = b) (r : ReplySlot)
    (b : β) : (slotsOf (oneReply n r) s).foldl f b = f b (n, .fire uid, ReplySlot.reply r) := by
  have hslot : ∀ m, 1 ≤ m → (m, s.csq.commands.getD (m - 1) .none, heardOf (oneReply n r) m) =
      (m, (if m = n then SlotCommand.fire uid else .none), if m = n then ReplySlot.reply r else .silent) := fun m hm => by
    rw [hcommands, getD_single hn hn' hm, heardOf_one hn hn' r hm]
  rw [slotsOf, List.foldl_map, foldl_single (a := n) _ List.nodup_range' (List.mem_range'_1.mpr ⟨hn, by omega⟩)]
  · rw [hslot n hn, if_pos rfl, if_pos rfl]
  · intro b' m hm hne
    rw [hslot m (List.mem_range'_1.mp hm).1, if_neg hne]
    exact hf b' m _

theorem exchangeComplete_one (hflight : s.csq.exchange = .inFlight) (r : ReplySlot) :
    exec (.exchangeComplete (oneReply n r)) s =
      let acc := applyReply (heardState (oneReply n r) s, []) (n, .fire uid, ReplySlot.reply r)
      .next (settleTest (sweepTest (reportFire n (ReplySlot.reply r) (missCascade acc.2 acc.1)))) := by
  rw [exec_exchangeComplete _ hflight, afterReplies, slots_one hn hn' hcommands applyReply (fun _ _ _ => rfl),
    slots_one hn hn' hcommands reportSlot (fun _ _ _ => rfl)]
  rfl

end

/-- R35: with nothing missed nothing is unwound. -/
theorem missCascade_nil (s : State) : missCascade [] s = s := by
  have hnone : (countTries [] s).csq.window.find? (fun w => ([] : List Nat).contains w.entry.uid) = none :=
    List.find?_eq_none.mpr fun _ _ => by simp
  unfold missCascade
  simp only [hnone]

theorem sweepTest_none (h : s.shu.sweep = none) : sweepTest s = s := by
  unfold sweepTest
  rw [h]

/-! ### No work of the chain starts a sweep -/

theorem noSweep_postKept : PostKept (fun t => t.shu.sweep = none) where
  updAlc := fun h _ => h
  updLpu := fun _ h => h
  closeSweep := fun _ _ => by simp [closeSweep]
  recompute := fun h => by simpa using h

theorem missCascade_noSweep (missed : List Nat) (h : s.shu.sweep = none) : (missCascade missed s).shu.sweep = none := by
  unfold missCascade
  simp only []
  split
  · exact h
  · refine foldl_inv (P := fun t => t.shu.sweep = none) (fun t w ht => noSweep_postKept.post _ _ ht) _ ?_
    simpa [countTries] using h

theorem attemptSubstitution_noSweep (f : Nat) (h : s.shu.sweep = none) :
    (attemptSubstitution f s).shu.sweep = none := by
  unfold attemptSubstitution
  split
  · exact h
  · split
    · exact h
    · split
      · exact h
      · exact noSweep_postKept.post _ _ h

theorem stationFailed_noSweep (was : Bool) (n : Nat) (h : s.shu.sweep = none) :
    (stationFailed was n s).shu.sweep = none := by
  unfold stationFailed
  refine attemptSubstitution_noSweep n ?_
  split <;> exact h

theorem countedMiss_noSweep (n : Nat) (h : s.shu.sweep = none) : (countedMiss n s).shu.sweep = none := by
  unfold countedMiss
  simp only []
  split
  · refine stationFailed_noSweep _ n (noSweep_postKept.post _ _ ?_)
    rw [setRecord_sweep, setRecord_sweep, h]
  · rw [setRecord_sweep, h]

/-! ### The three outcomes of the one slot -/

section

variable {n uid : Nat} {w : WindowEntry} (hn : 1 ≤ n) (hn' : n ≤ 96) (hflight : s.csq.exchange = .inFlight)
  (hcommands : s.csq.commands = (List.replicate 96 .none).set (n - 1) (.fire uid)) (hsweep : s.shu.sweep = none)

include hn hn' hflight hcommands hsweep

theorem exchangeComplete_drop (hb : Booked s n uid w) : exec (.exchangeComplete (oneReply n .dropped)) s =
    .next (settleTest (countedFire n id (setStatus uid .loaded
      (setClip (dropPosition s.tables n) .loaded (heardState (oneReply n .dropped) s))))) := by
  rw [exchangeComplete_one hn hn' hcommands hflight, applyReply_drop (s := heardState _ s) hb rfl]
  simp only [missCascade_nil, reportFire, ReplySlot.reply, countFire_eq hn]
  rw [sweepTest_none (by exact hsweep)]
  rfl

theorem exchangeComplete_reject (hnone : entryAt s.csq (dropPosition s.tables n) = none) :
    exec (.exchangeComplete (oneReply n .dropped)) s = .next (settleTest (countedFire n id
      (setClip (dropPosition s.tables n) .reject (heardState (oneReply n .dropped) s)))) := by
  have hno : ∀ w, ¬ Booked (heardState (oneReply n .dropped) s) n uid w := fun w hw => by
    have hw' : entryAt s.csq (dropPosition s.tables n) = some w := hw.1
    rw [hnone] at hw'
    contradiction
  rw [exchangeComplete_one hn hn' hcommands hflight, applyReply_unbooked hno]
  simp only [missCascade_nil, reportFire, ReplySlot.reply, Reply.drop, if_true, countFire_eq hn]
  rw [sweepTest_none (by exact hsweep)]
  rfl

theorem exchangeComplete_miss (hb : Booked s n uid w) {r : ReplySlot}
    (hr : r = .noPart ∨ r = .fault ∨ r = .parityError ∨ r = .unfilled) : exec (.exchangeComplete (oneReply n r)) s =
    .next (settleTest (countedMiss n (countedFire n id (missCascade [uid]
      (setClip (dropPosition s.tables n) .empty (heardState (oneReply n r) s)))))) := by
  have hreply : (ReplySlot.reply r).drop = false ∧ ∀ u, reportFire n (ReplySlot.reply r) u = countedMiss n (countFire n u) := by
    rcases hr with rfl | rfl | rfl | rfl <;> exact ⟨rfl, fun _ => rfl⟩
  obtain ⟨hdrop, hreport⟩ := hreply
  have hcascade := missCascade_noSweep [uid]
    (s := setClip (dropPosition s.tables n) .empty (heardState (oneReply n r) s)) hsweep
  rw [exchangeComplete_one hn hn' hcommands hflight, applyReply_missed (s := heardState _ s) hb (by rw [hdrop]; decide)]
  simp only [hreport, countFire_eq hn]
  rw [sweepTest_none (countedMiss_noSweep n (by exact hcascade))]
  rfl

end

end Sys2Proof.Machine

open Sys2Proof Sys2Proof.Machine

/-- Settles O43: the event, one slot's reply, one slot's report, and an exchange of one FIRE. -/
theorem exchangeCompletes : Obligations.ExchangeCompletes := by
  unfold Obligations.ExchangeCompletes
  refine ⟨fun replies s => ⟨exec_exchangeComplete_ignored replies, fun t missed hflight hacc => ?_, ?_⟩,
    fun s missed n r => ⟨rfl, fun uid ⟨w, hb⟩ => ⟨fun hr => ?_, fun hr => ?_⟩, fun uid hno => ⟨fun hr => ?_, fun hr => ?_⟩,
      fun q j => ⟨fun hc => ⟨fun hr => ?_, fun hr => ?_⟩, fun hc => ?_⟩⟩, fun s n uid q r hn => ?_,
    fun n uid w s hn hn' hflight hcommands hsweep => ⟨fun he huid hst hclip => ⟨?_, fun r hr => ?_⟩, fun hnone => ?_⟩⟩
  · have hfold : (slotsOf replies s).foldl applyReply (heardState replies s, []) = (t, missed) := hacc
    rw [exec_exchangeComplete replies hflight, hfold] <;> rfl
  · exact exec_exchangeComplete_window replies s
  · exact applyReply_drop hb ((drop_iff r).mpr hr)
  · exact applyReply_missed hb (mt (drop_iff r).mp hr)
  · exact (applyReply_unbooked fun w hw => hno ⟨w, hw⟩).trans (by rw [if_pos ((drop_iff r).mpr hr)] <;> rfl)
  · exact (applyReply_unbooked fun w hw => hno ⟨w, hw⟩).trans (by rw [if_neg (mt (drop_iff r).mp hr)])
  · rw [applyReply_test, if_neg (by rw [(drop_iff r).mpr hr]; simp)]
  · rw [applyReply_test, if_pos ⟨by simpa using mt (drop_iff r).mp hr, hc⟩] <;> rfl
  · rw [applyReply_test, if_neg fun h => hc h.2]
  · have hfires : reportFire n .dropped s = countedFire n id s := countFire_eq hn s
    have hlow := lowReply_counted hn s
    have hempty := emptyReply_counted hn s
    refine ⟨rfl, hfires, congrArg (passDropped n) hfires, hfires, hlow, congrArg (passDropped n) hlow, hlow, ?_,
      hempty, congrArg (passFailed n) hempty, hempty⟩
    rintro (rfl | rfl | rfl) <;>
      exact ⟨congrArg (countedMiss n) hfires, congrArg (passFailed n) hfires, hfires⟩
  · have h := exchangeComplete_drop hn hn' hflight hcommands hsweep ⟨he, huid, hst, hclip⟩
    rw [heardState_one hn hn'] at h
    exact h
  · have h := exchangeComplete_miss hn hn' hflight hcommands hsweep ⟨he, huid, hst, hclip⟩ (by simpa using hr)
    rw [heardState_one hn hn'] at h
    exact h
  · have h := exchangeComplete_reject hn hn' hflight hcommands hsweep hnone
    rw [heardState_one hn hn'] at h
    exact h

end

section
/-! PROOF. A complete sweep is applied: flags, jams, spares and the notices to CSQ (R69 to R71). -/

namespace Sys2Proof.Machine

variable {s : State}

/-! ### What a post that ends no sweep keeps -/

/-- The alarm map and the clock stand through every post. -/
theorem mapClock_kept (map : List MapEntry) (ms : Word32) : AlcKept (fun a => a.map = map ∧ a.ms = ms) where
  fold := fun c _ _ h => by simpa using h
  append := fun c _ _ h => by cases c <;> exact h
  overflowed := fun c h => by simpa using h
  suppress := fun c h => by simpa using h
  levels := id

section

variable {k : AlarmKind} {subject : Option Nat} {d : ChannelId}

/-- R142: a post concerns the channel the map names and no other. -/
theorem postQuiet_channel_ne (h : d ≠ (s.alc.mapOf k).channel) :
    (postQuiet k subject s).alc.channel d = s.alc.channel d := by
  unfold postQuiet postWith
  simp only []
  split
  · exact channel_setChannel_ne _ _ h
  · unfold postIn
    split
    · exact channel_setChannel_ne _ _ h
    · split
      · simp only [id, ite_self, recompute_channel]
        exact (append_channel _ _ _ _).trans (if_neg h)
      · exact channel_setChannel_ne _ _ h

/-- R142: a post makes at most one entry. -/
theorem postQuiet_length_le :
    ((postQuiet k subject s).alc.channel d).entries.length ≤ (s.alc.channel d).entries.length + 1 := by
  by_cases h : d = (s.alc.mapOf k).channel
  · unfold postQuiet postWith
    simp only [← h]
    split
    · simp [Alc.suppress, channel_setChannel_self]
    · unfold postIn
      split
      · simp [Alc.fold, channel_setChannel_self]
      · split
        · simp only [id, ite_self, recompute_channel]
          show ((s.alc.append d _).channel d).entries.length ≤ _
          rw [append_channel, if_pos rfl, List.length_append]
          exact le_refl _
        · simp [Alc.overflowed, channel_setChannel_self]
  · rw [postQuiet_channel_ne h]
    exact Nat.le_succ _

/-- R38, R39: a sequencer that neither runs nor is held is not told the level. -/
theorem postQuiet_seq_other (h1 : s.csq.seq ≠ .running) (h2 : s.csq.seq ≠ .held) :
    (postQuiet k subject s).csq.seq = s.csq.seq := by
  unfold postQuiet postWith
  simp only []
  split
  · rfl
  · unfold postIn
    split
    · rfl
    · split
      · simp only [id, ite_self]
        obtain ⟨-, -, htold⟩ := recompute_told (appended (s.alc.mapOf k).channel k subject s)
        exact htold.other h1 h2
      · rfl

end

theorem LevelOnly.shu {t : State} (h : LevelOnly s t) : t.shu = s.shu := (congrArg State.shu h).trans rfl

theorem LevelOnly.unusable {t : State} (h : LevelOnly s t) : t.csq.unusable = s.csq.unusable :=
  (congrArg (fun u : State => u.csq.unusable) h).trans rfl

/-! ### Station records -/

/-- The record of a station changes by `f`; there is none of station 0. -/
def modifyRecord (n : Nat) (f : StationRecord → StationRecord) (rs : List StationRecord) : List StationRecord :=
  if n = 0 then rs else rs.modify (n - 1) f

theorem setRecord_modifyRecord (n : Nat) (f : StationRecord → StationRecord) (s : State) :
    setRecord n f s = { s with shu := { s.shu with records := modifyRecord n f s.shu.records } } := by
  unfold setRecord modifyRecord
  split <;> rfl

theorem modifyRecord_comm {f g : StationRecord → StationRecord} (h : f ∘ g = g ∘ f) (m n : Nat) (rs : List StationRecord) :
    modifyRecord m f (modifyRecord n g rs) = modifyRecord n g (modifyRecord m f rs) := by
  unfold modifyRecord
  by_cases hm : m = 0
  · rw [if_pos hm, if_pos hm]
  · by_cases hn : n = 0
    · rw [if_pos hn, if_pos hn]
    · simp only [if_neg hm, if_neg hn]
      by_cases hmn : m = n
      · rw [hmn, List.modify_modify_eq, List.modify_modify_eq, h]
      · exact List.modify_modify_ne g f rs (by omega)

theorem modifyRecord_modifyRecord (n : Nat) (f g : StationRecord → StationRecord) (rs : List StationRecord) :
    modifyRecord n f (modifyRecord n g rs) = modifyRecord n (f ∘ g) rs := by
  unfold modifyRecord
  split
  · rfl
  · exact List.modify_modify_eq g f (n - 1) rs

theorem recordAt_setRecord_ne {m n : Nat} (h : m ≠ n) (f : StationRecord → StationRecord) (s : State) :
    recordAt (setRecord n f s).shu m = recordAt s.shu m := by
  unfold setRecord
  split
  · rfl
  · unfold recordAt
    split
    · rfl
    · simp only [updShu_shu, List.getD_eq_getElem?_getD]
      rw [List.getElem?_modify_ne _ _ (by omega)]

/-- What a change leaves of each record. -/
theorem recordAt_setRecord_keeps {α : Type} (g : StationRecord → α) {f : StationRecord → StationRecord}
    (hg : ∀ x, g (f x) = g x) (n m : Nat) (s : State) : g (recordAt (setRecord n f s).shu m) = g (recordAt s.shu m) := by
  by_cases h : m = n
  · subst h
    unfold setRecord
    split
    · rfl
    next hm =>
      simp only [recordAt, if_neg hm, updShu_shu, List.getD_eq_getElem?_getD, List.getElem?_modify_eq]
      cases s.shu.records[m - 1]? with
      | none => rfl
      | some x => exact hg x
  · rw [recordAt_setRecord_ne h]

/-! ### The flags (R70) -/

/-- R70: what the sweep found of a member. -/
def flagged (failed : Bool) (r : StationRecord) : StationRecord := { r with sweepFailed := failed }

/-- R71 step 1. -/
def jammed (r : StationRecord) : StationRecord := { r with jammed := true }

/-- R70, R71: what the sweep found of a member, which the application jams. -/
def judged (jams failed : Bool) (r : StationRecord) : StationRecord :=
  { r with sweepFailed := failed, jammed := r.jammed || (jams && failed) }

theorem judged_false (failed : Bool) : judged false failed = flagged failed := by
  funext r
  simp [judged, flagged]

theorem judged_passed (jams : Bool) : judged jams false = flagged false := by
  funext r
  simp [judged, flagged]

theorem judged_failed : judged true true = jammed ∘ flagged true := by
  funext r
  simp [judged, flagged, jammed]

def judgedRecords (jams : Bool) (members : List SweepMember) (rs : List StationRecord) : List StationRecord :=
  members.foldl (fun rs m => modifyRecord m.station (judged jams m.failed) rs) rs

def jammedRecords (failing : List Nat) (rs : List StationRecord) : List StationRecord :=
  failing.foldl (fun rs f => modifyRecord f jammed rs) rs

theorem jammed_judgedRecords (n : Nat) (members : List SweepMember) (rs : List StationRecord) :
    modifyRecord n jammed (judgedRecords false members rs) = judgedRecords false members (modifyRecord n jammed rs) := by
  induction members generalizing rs with
  | nil => rfl
  | cons m rest ih =>
    have hcomm : jammed ∘ judged false m.failed = judged false m.failed ∘ jammed := by
      rw [judged_false]
      rfl
    show modifyRecord n jammed (judgedRecords false rest _) = _
    rw [ih, modifyRecord_comm hcomm] <;> rfl

/-- R70, R71 step 1: the flags, and then the jams, are one judgement of each member. -/
theorem jammedRecords_judgedRecords (members : List SweepMember) (rs : List StationRecord) :
    jammedRecords ((members.filter SweepMember.failed).map SweepMember.station) (judgedRecords false members rs) =
      judgedRecords true members rs := by
  induction members generalizing rs with
  | nil => rfl
  | cons m rest ih =>
    have hrest := ih (modifyRecord m.station (judged true m.failed) rs)
    cases hf : m.failed with
    | false =>
      rw [hf] at hrest
      rw [List.filter_cons_of_neg (by simp [hf])]
      simpa only [judgedRecords, List.foldl_cons, hf, judged_passed] using hrest
    | true =>
      rw [hf, judged_failed, ← modifyRecord_modifyRecord, ← jammed_judgedRecords] at hrest
      rw [List.filter_cons_of_pos hf]
      simpa only [judgedRecords, jammedRecords, List.map_cons, List.foldl_cons, hf, judged_false, judged_failed,
        modifyRecord_modifyRecord] using hrest

theorem applyFlags_eq (w : Sweep) (s : State) :
    applyFlags w s = { s with shu := { s.shu with records := judgedRecords false w.members s.shu.records } } := by
  unfold applyFlags judgedRecords
  induction w.members generalizing s with
  | nil => rfl
  | cons m rest ih =>
    rw [List.foldl_cons, ih, List.foldl_cons, setRecord_modifyRecord, judged_false] <;> rfl

/-- R70: the flags leave the rest of each record. -/
theorem recordAt_applyFlags {α : Type} (g : StationRecord → α) (hg : ∀ b x, g (flagged b x) = g x) (w : Sweep) (n : Nat)
    (s : State) : g (recordAt (applyFlags w s).shu n) = g (recordAt s.shu n) :=
  foldl_keep (fun t => g (recordAt t.shu n)) (fun t (m : SweepMember) => setRecord m.station (flagged m.failed) t) (fun t m => recordAt_setRecord_keeps g (hg m.failed) m.station n t) w.members s

/-- R27: SWEEP_FAILED makes no station unusable. -/
theorem usable_applyFlags (w : Sweep) (s : State) :
    usable (applyFlags w s).tables (applyFlags w s).shu = usable s.tables s.shu := by
  funext n
  have hsound := recordAt_applyFlags StationRecord.sound (fun _ _ => rfl) w n s
  have htables : (applyFlags w s).tables = s.tables := by rw [applyFlags_eq]
  simp only [usable, hsound, htables]

/-! ### The jams (R71 step 1) -/

theorem jamFailing_levelOnly (f : Nat) (s : State) : LevelOnly (setRecord f jammed s) (jamFailing f s) := by
  unfold jamFailing
  simp only []
  split
  · exact rfl
  · exact postQuiet_levelOnly _ _ _

/-- What holds of ALC through every post holds of it through a jam. -/
theorem AlcKept.jamFailing {Q : Alc → Prop} (hQ : AlcKept Q) (f : Nat) (h : Q s.alc) : Q (jamFailing f s).alc := by
  have hset : Q (setRecord f Machine.jammed s).alc := by
    rw [setRecord_modifyRecord]
    exact h
  unfold Machine.jamFailing
  simp only []
  split
  · exact hset
  · exact hQ.postQuiet _ _ hset

/-- The failing stations are jammed, in the order of the list. -/
def jamAll (failing : List Nat) (s : State) : State := failing.foldl (fun t f => jamFailing f t) s

theorem AlcKept.jamAll {Q : Alc → Prop} (hQ : AlcKept Q) (failing : List Nat) (h : Q s.alc) : Q (jamAll failing s).alc :=
  foldl_inv (P := fun t => Q t.alc) (fun _ f => hQ.jamFailing f) failing h

theorem jamFailing_mapOf (f : Nat) (s : State) : (jamFailing f s).alc.mapOf = s.alc.mapOf := by
  obtain ⟨hmap, -⟩ := (mapClock_kept s.alc.map s.alc.ms).jamFailing f ⟨rfl, rfl⟩
  funext k
  rw [Alc.mapOf, hmap] <;> rfl

theorem jamAll_clock (failing : List Nat) (s : State) : (jamAll failing s).alc.map = s.alc.map ∧ (jamAll failing s).alc.ms = s.alc.ms :=
  (mapClock_kept s.alc.map s.alc.ms).jamAll failing ⟨rfl, rfl⟩

theorem jamAll_mapOf (failing : List Nat) (s : State) : (jamAll failing s).alc.mapOf = s.alc.mapOf :=
  foldl_keep (fun t => t.alc.mapOf) _ (fun t f => jamFailing_mapOf f t) failing s

theorem jamFailing_shu_eq (f : Nat) (s : State) :
    (jamFailing f s).shu = { s.shu with records := modifyRecord f jammed s.shu.records } := by
  have hshu : (jamFailing f s).shu = (setRecord f jammed s).shu := (jamFailing_levelOnly f s).shu
  rw [hshu, setRecord_modifyRecord]

theorem jamAll_shu (failing : List Nat) (s : State) :
    (jamAll failing s).shu = { s.shu with records := jammedRecords failing s.shu.records } := by
  unfold jamAll jammedRecords
  induction failing generalizing s with
  | nil => rfl
  | cons f rest ih => rw [List.foldl_cons, ih, jamFailing_shu_eq, List.foldl_cons]

theorem jamFailing_unusable (f : Nat) (s : State) : (jamFailing f s).csq.unusable = s.csq.unusable := by
  have h : (jamFailing f s).csq.unusable = (setRecord f jammed s).csq.unusable :=
    (jamFailing_levelOnly f s).unusable
  rw [h, setRecord_modifyRecord]

theorem jamAll_unusable (failing : List Nat) (s : State) : (jamAll failing s).csq.unusable = s.csq.unusable :=
  foldl_keep (fun t => t.csq.unusable) _ (fun t f => jamFailing_unusable f t) failing s

section

variable {d : ChannelId}

theorem jamFailing_cases (f : Nat) (s : State) :
    jamFailing f s = setRecord f jammed s ∨ jamFailing f s = postQuiet .stationJam (some f) (setRecord f jammed s) := by
  unfold jamFailing
  simp only []
  split
  · exact .inl rfl
  · exact .inr rfl

theorem setRecord_alc (n : Nat) (f : StationRecord → StationRecord) (s : State) : (setRecord n f s).alc = s.alc := by
  rw [setRecord_modifyRecord]

theorem jamFailing_channel_ne (h : d ≠ (s.alc.mapOf .stationJam).channel) (f : Nat) :
    (jamFailing f s).alc.channel d = s.alc.channel d := by
  have hset : (setRecord f jammed s).alc.channel d = s.alc.channel d := by rw [setRecord_alc]
  rcases jamFailing_cases f s with hj | hj <;> rw [hj]
  · exact hset
  · rw [postQuiet_channel_ne (by rwa [setRecord_alc]), hset]

theorem jamAll_channel_ne (h : d ≠ (s.alc.mapOf .stationJam).channel) (failing : List Nat) :
    (jamAll failing s).alc.channel d = s.alc.channel d := by
  unfold jamAll
  induction failing generalizing s with
  | nil => rfl
  | cons f rest ih => rw [List.foldl_cons, ih (by rwa [jamFailing_mapOf]), jamFailing_channel_ne h]

theorem jamFailing_length_le (f : Nat) :
    ((jamFailing f s).alc.channel d).entries.length ≤ (s.alc.channel d).entries.length + 1 := by
  rcases jamFailing_cases f s with hj | hj <;> rw [hj]
  · rw [setRecord_alc]
    exact Nat.le_succ _
  · refine postQuiet_length_le.trans ?_
    rw [setRecord_alc]

/-- R71 step 1: with room for them all, each station that was not yet jammed has its STATION JAM. -/
theorem jamAll_holds (hmap : s.alc.mapOf .stationJam = ⟨d, false⟩) {failing : List Nat}
    (hroom : (s.alc.channel d).entries.length + failing.length ≤ 8) {f : Nat} (hf : f ∈ failing)
    (hj : (recordAt s.shu f).jammed = false) : (jamAll failing s).alc.Holds d .stationJam (some f) := by
  unfold jamAll
  induction failing generalizing s with
  | nil => contradiction
  | cons g rest ih =>
    rw [List.length_cons] at hroom
    rw [List.foldl_cons]
    by_cases hfg : f = g
    · subst hfg
      refine (holds_kept d .stationJam (some f)).jamAll rest ?_
      have hposts : jamFailing f s = postQuiet .stationJam (some f) (setRecord f jammed s) := by
        unfold jamFailing
        simp only [hj]
        rfl
      rw [hposts]
      refine postQuiet_holds (by rwa [setRecord_alc]) ?_
      rw [setRecord_alc]
      omega
    · refine ih (by rwa [jamFailing_mapOf]) ?_ ((List.mem_cons.mp hf).resolve_left hfg) ?_
      · have hle := jamFailing_length_le (s := s) (d := d) g
        omega
      · have hshu : (jamFailing g s).shu = (setRecord g jammed s).shu := (jamFailing_levelOnly g s).shu
        rw [hshu, recordAt_setRecord_ne hfg, hj]

end

/-! ### The spares chosen, and the places for them (R71) -/

/-- R71: the spare of a failing station can stand for it. -/
def SpareFor (t : Tables) (h : Shu) (failing : List Nat) (chosen : List (Nat × Nat)) (f : Nat) : Prop :=
  let spare := (stationMapAt t f).spare
  (∀ e ∈ h.subst, e.failed ≠ f) ∧ spare ≠ 0 ∧ usable t h spare = true
    ∧ (∀ e ∈ h.subst, e.failed ≠ spare ∧ e.substitute ≠ spare) ∧ spare ∉ failing ∧ ∀ x ∈ chosen, x.2 ≠ spare

theorem spareFor_iff (t : Tables) (h : Shu) (failing : List Nat) (chosen : List (Nat × Nat)) (f : Nat) :
    ((substFor h f).isNone && spareQualifies t h f && !failing.contains (stationMapAt t f).spare
      && !chosen.any (·.2 == (stationMapAt t f).spare)) = true ↔ SpareFor t h failing chosen f := by
  simp [SpareFor, substFor, spareQualifies, and_assoc]

theorem chooseSpares_cons_of_pos {t : Tables} {h : Shu} {failing : List Nat} {chosen : List (Nat × Nat)} {f : Nat}
    (hc : SpareFor t h failing chosen f) (rest : List Nat) : chooseSpares t h failing (f :: rest) chosen =
      chooseSpares t h failing rest (chosen ++ [(f, (stationMapAt t f).spare)]) :=
  if_pos ((spareFor_iff t h failing chosen f).mpr hc)

theorem chooseSpares_cons_of_neg {t : Tables} {h : Shu} {failing : List Nat} {chosen : List (Nat × Nat)} {f : Nat}
    (hc : ¬ SpareFor t h failing chosen f) (rest : List Nat) : chooseSpares t h failing (f :: rest) chosen =
      chooseSpares t h failing rest chosen :=
  if_neg (mt (spareFor_iff t h failing chosen f).mp hc)

/-- R71: the spares are chosen in the order of the failing stations. -/
theorem chooseSpares_eq (t : Tables) (h : Shu) (failing : List Nat) (l : List Nat) (chosen : List (Nat × Nat)) :
    chooseSpares t h failing l chosen = l.foldl (fun (c : List (Nat × Nat)) f =>
      if (∀ e ∈ h.subst, e.failed ≠ f) ∧ (stationMapAt t f).spare ≠ 0 ∧ usable t h (stationMapAt t f).spare = true
          ∧ (∀ e ∈ h.subst, e.failed ≠ (stationMapAt t f).spare ∧ e.substitute ≠ (stationMapAt t f).spare)
          ∧ (stationMapAt t f).spare ∉ failing ∧ (∀ x ∈ c, x.2 ≠ (stationMapAt t f).spare)
        then c ++ [(f, (stationMapAt t f).spare)] else c) chosen := by
  induction l generalizing chosen with
  | nil => rfl
  | cons f rest ih =>
    rw [List.foldl_cons]
    by_cases hc : SpareFor t h failing chosen f
    · rw [chooseSpares_cons_of_pos hc, ih]
      exact congrArg (rest.foldl _) (if_pos hc).symm
    · rw [chooseSpares_cons_of_neg hc, ih]
      exact congrArg (rest.foldl _) (if_neg hc).symm

/-- R71: the entries that stay are those whose substitute does not fail. -/
def keptSubst (h : Shu) (failing : List Nat) : List SubstEntry :=
  h.subst.filter (fun e => decide (e.substitute ∉ failing))

theorem filter_contains_eq (h : Shu) (failing : List Nat) :
    h.subst.filter (fun e => !failing.contains e.substitute) = keptSubst h failing :=
  List.filter_congr fun e _ => by simp

theorem freePlaces_eq (h : Shu) (failing : List Nat) : freePlaces h failing = 8 - (keptSubst h failing).length := by
  rw [freePlaces, filter_contains_eq]

theorem dropSubstitutes_eq (failing : List Nat) (s : State) : failing.foldl (fun t f => dropSubstitute f t) s =
    { s with shu := { s.shu with subst := keptSubst s.shu failing } } := by
  have hsubst := dropSubstitutes_subst failing s
  have honly : ∀ u : State, ∃ x, failing.foldl (fun t f => dropSubstitute f t) u = { u with shu := { u.shu with subst := x } } := by
    induction failing with
    | nil => exact fun u => ⟨u.shu.subst, rfl⟩
    | cons f rest ih =>
      intro u
      obtain ⟨x, hx⟩ := ih (dropSubstitutes_subst rest s) (dropSubstitute f u)
      exact ⟨x, hx⟩
  obtain ⟨x, hx⟩ := honly s
  rw [hx] at hsubst ⊢
  have hx' : x = keptSubst s.shu failing := hsubst.trans (filter_contains_eq s.shu failing)
  rw [hx']

theorem noticeUnusables_eq (l : List Nat) (s : State) : l.foldl (fun t f => noticeUnusable f t) s =
    { s with csq := { s.csq with unusable := s.csq.unusable ++ l } } := by
  induction l generalizing s with
  | nil => simp
  | cons f rest ih =>
    rw [List.foldl_cons, ih]
    simp [noticeUnusable, State.updCsq]

/-- R71 steps 1 to 4: the jams, and then the Substitution Table and the notices to CSQ. -/
theorem applySubstitution_eq (failing : List Nat) (chosen : List (Nat × Nat)) (s : State) :
    applySubstitution failing chosen s = { jamAll failing s with
      shu := { (jamAll failing s).shu with
        subst := keptSubst s.shu failing ++ chosen.map (fun x => ⟨x.1, x.2, s.alc.ms, 0⟩) }
      csq := { (jamAll failing s).csq with
        unusable := s.csq.unusable ++ failing.filter (usable s.tables s.shu) } } := by
  obtain ⟨-, hms⟩ := jamAll_clock failing s
  have hkept : keptSubst (jamAll failing s).shu failing = keptSubst s.shu failing := by
    unfold keptSubst
    rw [jamAll_shu]
  rw [← hkept, ← hms, ← jamAll_unusable failing s]
  unfold applySubstitution
  simp only []
  rw [noticeUnusables_eq, dropSubstitutes_eq]
  rfl

end Sys2Proof.Machine
end

section
/-! PROOF. How a sweep ends: what its end leaves of the exchange, the end of a complete sweep, and the abort (R51, R69 to R73). -/

namespace Sys2Proof.Machine

variable {s : State}

/-! ### The TEST commands (R51, R72) -/

/-- R51: what the end of the sweep leaves of a command of a WAITING exchange. -/
def SlotCommand.removed : SlotCommand → SlotCommand
  | .test _ _ => .none
  | other => other

/-- R51: the clip of a TEST command that is removed is EMPTY. -/
def emptiedClip (base size : Nat) (ring : List ClipState) : SlotCommand → List ClipState
  | .test p _ => ring.set ((base + p) % size) .empty
  | _ => ring

/-- R51: the commands from station `before.length + 1` on are gone through. -/
theorem removeTest_foldl (all rest before done : List SlotCommand) (s : State) (hall : all = before ++ rest)
    (hlen : done.length = before.length) (hs : s.csq.commands = done ++ rest) :
    (List.range' (before.length + 1) rest.length).foldl (fun t n => removeTest (all.getD (n - 1) .none) n t) s =
      { s with csq := { s.csq with
        ring := rest.foldl (emptiedClip s.csq.base s.csq.ring.length) s.csq.ring
        commands := done ++ rest.map SlotCommand.removed } } := by
  induction rest generalizing before done s with
  | nil =>
    rw [List.map_nil, ← hs]
    rfl
  | cons c rest ih =>
    have hget : all.getD (before.length + 1 - 1) .none = c := by
      rw [hall, Nat.add_sub_cancel, List.getD_eq_getElem?_getD, List.getElem?_append_right (le_refl _), Nat.sub_self]
      rfl
    have hset : s.csq.commands.set (before.length + 1 - 1) .none = (done ++ [.none]) ++ rest := by
      rw [hs, Nat.add_sub_cancel, ← hlen, List.set_append_right _ _ (le_refl _), Nat.sub_self, List.append_assoc]
      rfl
    have hnext := ih (before ++ [c]) (done ++ [c.removed]) (removeTest c (before.length + 1) s)
      (by rw [hall, List.append_assoc]; rfl) (by simp [hlen])
    rw [List.length_append, List.length_singleton] at hnext
    rw [List.length_cons, List.range'_succ, List.foldl_cons, hget]
    cases c with
    | test p j =>
      rw [hnext hset]
      simp [removeTest, clearCommand, setClip, State.updCsq, emptiedClip, ringPlace, SlotCommand.removed]
    | none | fire uid =>
      rw [hnext (by rw [List.append_assoc]; exact hs)]
      simp [removeTest, emptiedClip, SlotCommand.removed]

/-- R45: a sequencer that is IDLE stays so when the cycle settles. -/
theorem settleTest_idle {u : State} (h : u.csq.seq = .idle) : settleTest u = { u with csq := { u.csq with
    cycle := if u.csq.cycle = .settle ∧ u.csq.exchange = .complete ∧ u.tpc.transfer = none then .rest else u.csq.cycle } } := by
  unfold settleTest
  split
  · exact if_neg fun hc => by simp [State.updCsq, h] at hc
  · rfl

theorem emptiedTest_eq (hseq : s.csq.seq = .idle) (hx : s.csq.exchange = .waiting) :
    emptiedTest s = { s with csq := { s.csq with
      exchange := if ∀ c ∈ s.csq.commands, c = .none then .complete else .waiting
      cycle := if (∀ c ∈ s.csq.commands, c = .none) ∧ s.csq.cycle = .settle ∧ s.tpc.transfer = none then .rest
        else s.csq.cycle } } := by
  by_cases hempty : ∀ c ∈ s.csq.commands, c = .none
  · rw [emptiedTest_completes hx hempty, settleTest_idle (u := s.updCsq ({ · with exchange := .complete })) hseq, if_pos hempty]
    simp only [State.updCsq, eq_true hempty, true_and]
  · rw [emptiedTest_waits (by simpa using hempty), if_neg hempty, if_neg fun h => hempty h.1, ← hx]

/-- R51: what the end of a sweep leaves of a WAITING exchange. -/
def emptiedExchange (transfer : Option Transfer) (q : Csq) : Csq :=
  let commands := q.commands.map SlotCommand.removed
  let empty := ∀ c ∈ commands, c = .none
  { q with
    commands := commands
    ring := q.commands.foldl (emptiedClip q.base q.ring.length) q.ring
    exchange := if empty then .complete else .waiting
    cycle := if empty ∧ q.cycle = .settle ∧ transfer = none then .rest else q.cycle }

theorem removeTests_waiting (hseq : s.csq.seq = .idle) (hx : s.csq.exchange = .waiting)
    (hlen : s.csq.commands.length = 96) :
    removeTests s = { s with csq := emptiedExchange s.tpc.transfer s.csq } := by
  have hfold := removeTest_foldl s.csq.commands s.csq.commands [] [] s rfl rfl rfl
  rw [List.length_nil, Nat.zero_add, hlen, List.nil_append] at hfold
  unfold removeTests
  simp only [hx, Config.stationCount]
  rw [hfold]
  exact emptiedTest_eq hseq hx

theorem removeTests_inFlight (hx : s.csq.exchange = .inFlight) : removeTests s =
    { s with csq := { s.csq with commands := s.csq.commands.map SlotCommand.unjudged } } := by
  unfold removeTests
  rw [hx]
  rfl

theorem removeTests_other (h1 : s.csq.exchange ≠ .waiting) (h2 : s.csq.exchange ≠ .inFlight) : removeTests s = s := by
  unfold removeTests
  split
  next h => exact absurd h h1
  next h => exact absurd h h2
  · rfl

theorem emptiedTest_idle (h : s.csq.seq = .idle) : (emptiedTest s).csq.seq = .idle := by
  unfold emptiedTest
  split
  · rw [settleTest_idle (by exact h)]
    exact h
  · exact h

theorem removeTests_idle (h : s.csq.seq = .idle) : (removeTests s).csq.seq = .idle := by
  unfold removeTests
  split
  · refine emptiedTest_idle ((foldl_keep (fun t => t.csq.seq) _ (fun t n => ?_) _ s).trans h)
    obtain ⟨r, k, hr⟩ := removeTest_shape (s.csq.commands.getD (n - 1) .none) n t
    rw [hr]
  · exact h
  · exact h

theorem closeSweep_seq (r : SweepResult) (s : State) : (closeSweep r s).csq.seq = .idle := removeTests_idle rfl

theorem closeSweep_shu (r : SweepResult) (s : State) :
    (closeSweep r s).shu = { s.shu with sweep := none, result := some r } := by
  unfold closeSweep
  simp

theorem closeSweep_only (r : SweepResult) (s : State) :
    closeSweep r s = { s with csq := (closeSweep r s).csq, shu := (closeSweep r s).shu } := by
  have hframe := closeSweep_frame r s
  generalize closeSweep r s = t at hframe ⊢
  obtain ⟨hpending, hlpu, hrrg, hpin, htables, htpc, hhdc, hcsu, htbc, halc, hout, huid, hresets, -⟩ := hframe
  rw [← hpending, ← hlpu, ← hrrg, ← hpin, ← htables, ← htpc, ← hhdc, ← hcsu, ← htbc, ← halc, ← hout, ← huid, ← hresets]

/-! ### The end of a complete sweep -/

theorem closePosted_seq (k : AlarmKind) (subject : Option Nat) (r : SweepResult) (u : State) :
    (post k subject (closeSweep r u)).csq.seq = .idle := by
  have hseq := closeSweep_seq r u
  rw [post_eq_postQuiet (by rw [closeSweep_shu]), postQuiet_seq_other (by rw [hseq]; decide) (by rw [hseq]; decide), hseq]

theorem closePosted_shu (k : AlarmKind) (subject : Option Nat) (r : SweepResult) (u : State) :
    (post k subject (closeSweep r u)).shu = { u.shu with sweep := none, result := some r } :=
  (post_levelOnly (by rw [closeSweep_shu])).shu.trans (closeSweep_shu r u)

theorem closePosted_unusable (k : AlarmKind) (subject : Option Nat) (r : SweepResult) (u : State) :
    (post k subject (closeSweep r u)).csq.unusable = u.csq.unusable :=
  (post_levelOnly (by rw [closeSweep_shu])).unusable.trans (by simp)

theorem closePosted_alc {Q : Alc → Prop} (hQ : AlcKept Q) (k : AlarmKind) (subject : Option Nat) (r : SweepResult) {u : State}
    (h : Q u.alc) : Q (post k subject (closeSweep r u)).alc := hQ.post k subject (by simpa using h)

theorem closePosted_holds {k : AlarmKind} {subject : Option Nat} {c : ChannelId} {u : State} (r : SweepResult)
    (hmap : u.alc.mapOf k = ⟨c, false⟩) (hroom : (u.alc.channel c).entries.length < 8) :
    (post k subject (closeSweep r u)).alc.Holds c k subject := post_holds (by simpa using hmap) (by simpa using hroom)

theorem sweepTest_complete {w : Sweep} (h : s.shu.sweep = some w) (hw : w.waiting = [])
    (hm : ∀ m ∈ w.members, m.fired = w.passes ∧ m.resolved = w.passes) : sweepTest s = applySweep w s := by
  unfold sweepTest
  simp only [h]
  rw [if_pos]
  simpa [sweepComplete, hw] using hm

theorem sweepTest_waits {w : Sweep} (h : s.shu.sweep = some w) (hw : w.waiting ≠ [] ∨ ∃ m ∈ w.members,
    ¬ (m.fired = w.passes ∧ m.resolved = w.passes)) : sweepTest s = s := by
  unfold sweepTest
  simp only [h]
  rw [if_neg]
  intro hc
  simp only [sweepComplete, Bool.and_eq_true, List.isEmpty_iff, List.all_eq_true, beq_iff_eq] at hc
  obtain ⟨hnone, hall⟩ := hc
  rcases hw with hw | ⟨m, hm, hne⟩
  · exact hw hnone
  · exact hne (hall m hm)

/-- R70: a complete sweep that installs no substitutes. -/
theorem applySweep_plain {w : Sweep} (hw : w.withSubst = false) (s : State) : applySweep w s =
    post .sweepDone (some SweepOutcome.done.code)
      (closeSweep ⟨.done, w.members.length, failingStations w, 0⟩ (applyFlags w s)) := by
  unfold applySweep
  simp [hw]

def sparesChosen (w : Sweep) (s : State) : List (Nat × Nat) :=
  chooseSpares s.tables s.shu (failingStations w) (failingStations w) []

/-- R71: more spares than places. -/
theorem applySweep_over {w : Sweep} (hw : w.withSubst = true)
    (hover : freePlaces s.shu (failingStations w) < (sparesChosen w s).length) : applySweep w s =
    post .sweepDone (some SweepOutcome.over.code)
      (closeSweep ⟨.over, w.members.length, failingStations w, 0⟩ (applyFlags w s)) := by
  unfold sparesChosen at hover
  unfold applySweep
  simp [hw, hover]

theorem applySweep_installs {w : Sweep} (hw : w.withSubst = true)
    (hroom : (sparesChosen w s).length ≤ freePlaces s.shu (failingStations w)) : applySweep w s =
    post .sweepDone (some SweepOutcome.done.code)
      (closeSweep ⟨.done, w.members.length, failingStations w, (sparesChosen w s).length⟩
        (applySubstitution (failingStations w) (sparesChosen w s) (applyFlags w s))) := by
  unfold sparesChosen at hroom ⊢
  unfold applySweep
  simp [hw, Nat.not_lt.mpr hroom]

/-! ### The abort (R72, R73) -/

/-- A recomputation that leaves the level at STOP and the sequencer as it is touches ALC, LPU and the marks of restarts alone. -/
def StopOnly (s t : State) : Prop :=
  t = { s with
    lpu := t.lpu, alc := t.alc
    tpc := { s.tpc with restartDue := t.tpc.restartDue }, tbc := { s.tbc with restartDue := t.tbc.restartDue } }

theorem StopOnly.trans {t u : State} (h : StopOnly s t) (h' : StopOnly t u) : StopOnly s u := by
  unfold StopOnly at h h' ⊢
  rw [h] at h'
  exact h'

theorem recompute_stopOnly (hreq : s.alc.requested = .stop) (h1 : s.csq.seq ≠ .running) (h2 : s.csq.seq ≠ .held) :
    StopOnly s (recompute s) := by
  obtain ⟨honly, ⟨hstay, -⟩, htold⟩ := recompute_told s
  have heff : (recompute s).alc.effective = .stop := (recompute_effective s).trans (effectiveOf_requested_stop hreq)
  obtain ⟨⟨hstep, hdrive⟩, htransfer, htimer, hout⟩ := hstay fun hl => hl.2 heff
  have hseq := htold.other h1 h2
  generalize recompute s = t at *
  have hout' : t.out = s.out := by rw [hout, hdrive]
  unfold LevelOnly at honly
  rw [hseq, hstep, hout', htransfer, htimer] at honly
  exact honly

theorem postQuiet_stopOnly (k : AlarmKind) (subject : Option Nat) (hreq : s.alc.requested = .stop)
    (h1 : s.csq.seq ≠ .running) (h2 : s.csq.seq ≠ .held) : StopOnly s (postQuiet k subject s) := by
  unfold postQuiet postWith
  simp only []
  split
  · exact rfl
  · unfold postIn
    split
    · exact rfl
    · split
      · simp only [id, ite_self]
        have happended : StopOnly s (appended (s.alc.mapOf k).channel k subject s) := rfl
        refine happended.trans (recompute_stopOnly ?_ h1 h2)
        show latched _ s.alc.requested = .stop
        rw [hreq]
        cases (s.alc.mapOf k).channel <;> rfl
      · exact rfl

section

variable {w : Sweep} {k : AlarmKind} {subject : Option Nat} (hsweep : s.shu.sweep = some w)
  (hmap : s.alc.mapOf k = ⟨.stop, false⟩) (hnew : ¬ s.alc.Holds .stop k subject) (hroom : s.alc.stopCh.entries.length < 8)

include hsweep hmap hnew hroom

/-- R72: the STOP alarm ends the sweep, SWEEP DONE is posted, and the level is recomputed. -/
theorem post_aborts : post k subject s = recompute (postQuiet .sweepDone (some SweepOutcome.aborted.code)
    (closeSweep (abortedResult w) (appended .stop k subject s))) := by
  have hs : (appended .stop k subject s).shu.sweep = some w := hsweep
  rw [post_appends_stop hmap hnew hroom, abortSweep, hs]

theorem post_aborts_stopOnly :
    StopOnly (closeSweep (abortedResult w) (appended .stop k subject s)) (post k subject s) := by
  rw [post_aborts hsweep hmap hnew hroom]
  have hseq := closeSweep_seq (abortedResult w) (appended .stop k subject s)
  have hreq : (closeSweep (abortedResult w) (appended .stop k subject s)).alc.requested = .stop := by
    rw [(closeSweep_only _ _)]
    rfl
  generalize closeSweep (abortedResult w) (appended .stop k subject s) = u at hseq hreq ⊢
  have hposted : StopOnly u (postQuiet .sweepDone (some SweepOutcome.aborted.code) u) :=
    postQuiet_stopOnly _ _ hreq (by rw [hseq]; decide) (by rw [hseq]; decide)
  have hcsq : (postQuiet .sweepDone (some SweepOutcome.aborted.code) u).csq = u.csq := (congrArg State.csq hposted).trans rfl
  exact hposted.trans (recompute_stopOnly (requestedStop_kept.postQuiet _ _ hreq) (by rw [hcsq, hseq]; decide)
    (by rw [hcsq, hseq]; decide))

end

end Sys2Proof.Machine
end

section
/-! PROOF. A sweep ends DONE, OVER or ABORTED (R51, R69 to R73). -/

namespace Sys2Proof.Machine

variable {s : State} {w : Sweep}

/-! ### A complete sweep -/

/-- R73: SWEEP DONE finds room in its channel. -/
theorem doneNotice_of_flags (o : SweepOutcome) (r : SweepResult) (hmap : s.alc.mapOf .sweepDone = ⟨.note, false⟩)
    (hroom : s.alc.noteCh.entries.length < 8) :
    (post .sweepDone (some o.code) (closeSweep r (applyFlags w s))).alc.Holds .note .sweepDone (some o.code) := by
  refine closePosted_holds r ?_ ?_ <;> rw [applyFlags_eq]
  · exact hmap
  · exact hroom

theorem doneNotice_of_substitution (o : SweepOutcome) (r : SweepResult) (failing : List Nat) (chosen : List (Nat × Nat))
    (hmap : s.alc.mapOf .sweepDone = ⟨.note, false⟩) (hjam : (s.alc.mapOf .stationJam).channel ≠ .note)
    (hroom : s.alc.noteCh.entries.length < 8) :
    (post .sweepDone (some o.code) (closeSweep r (applySubstitution failing chosen s))).alc.Holds .note .sweepDone (some o.code) := by
  refine closePosted_holds r ?_ ?_ <;> rw [applySubstitution_eq]
  · show (jamAll failing s).alc.mapOf .sweepDone = _
    rw [jamAll_mapOf, hmap]
  · show ((jamAll failing s).alc.channel .note).entries.length < 8
    rw [jamAll_channel_ne (Ne.symm hjam)]
    exact hroom

theorem jamNotice_of_substitution (k : AlarmKind) (subject : Option Nat) (r : SweepResult) {failing : List Nat}
    (chosen : List (Nat × Nat)) (hmap : s.alc.mapOf .stationJam = ⟨.warn, false⟩)
    (hroom : s.alc.warnCh.entries.length + failing.length ≤ 8) {f : Nat} (hf : f ∈ failing)
    (hj : (recordAt s.shu f).jammed = false) :
    (post k subject (closeSweep r (applySubstitution failing chosen s))).alc.Holds .warn .stationJam (some f) := by
  refine closePosted_alc (holds_kept .warn .stationJam (some f)) k subject r ?_
  rw [applySubstitution_eq]
  exact jamAll_holds hmap hroom hf hj

/-- R70, R73: what SHU holds after a sweep that installs nothing. -/
theorem flagsClosed_shu (k : AlarmKind) (subject : Option Nat) (r : SweepResult) :
    (post k subject (closeSweep r (applyFlags w s))).shu = { s.shu with
      records := judgedRecords false w.members s.shu.records, sweep := none, result := some r } := by
  rw [closePosted_shu, applyFlags_eq]

/-- R70, R71, R73: what SHU holds after a sweep with the substitutes it installs. -/
theorem substitutedClosed_shu (k : AlarmKind) (subject : Option Nat) (r : SweepResult) (chosen : List (Nat × Nat)) :
    (post k subject (closeSweep r (applySubstitution (failingStations w) chosen (applyFlags w s)))).shu = { s.shu with
      records := judgedRecords true w.members s.shu.records
      subst := keptSubst s.shu (failingStations w) ++ chosen.map (fun x => ⟨x.1, x.2, s.alc.ms, 0⟩)
      sweep := none, result := some r } := by
  rw [closePosted_shu, applySubstitution_eq, jamAll_shu, ← jammedRecords_judgedRecords]
  simp only [applyFlags_eq]
  rfl

theorem substitutedClosed_unusable (k : AlarmKind) (subject : Option Nat) (r : SweepResult) (chosen : List (Nat × Nat)) :
    (post k subject (closeSweep r (applySubstitution (failingStations w) chosen (applyFlags w s)))).csq.unusable =
      s.csq.unusable ++ (failingStations w).filter (usable s.tables s.shu) := by
  rw [closePosted_unusable, applySubstitution_eq, usable_applyFlags]
  simp only [applyFlags_eq]

theorem flagsClosed_unusable (k : AlarmKind) (subject : Option Nat) (r : SweepResult) :
    (post k subject (closeSweep r (applyFlags w s))).csq.unusable = s.csq.unusable := by
  rw [closePosted_unusable, applyFlags_eq]

theorem applyFlags_alc (w : Sweep) (s : State) : (applyFlags w s).alc = s.alc := by rw [applyFlags_eq]

theorem applySweep_ends (w : Sweep) (s : State) :
    (applySweep w s).shu.sweep = none ∧ (applySweep w s).csq.seq = .idle := by
  unfold applySweep
  exact ⟨(congrArg Shu.sweep (closePosted_shu _ _ _ _)).trans rfl, closePosted_seq _ _ _ _⟩

/-! ### The abort -/

theorem StopOnly.of_swept {t : State} {q : Csq} {h : Shu} (hs : StopOnly { s with csq := q, shu := h } t) : t = { s with
    lpu := t.lpu, alc := t.alc, csq := t.csq, shu := t.shu
    tpc := { s.tpc with restartDue := t.tpc.restartDue }, tbc := { s.tbc with restartDue := t.tbc.restartDue } } := by
  have hcsq : t.csq = q := (congrArg State.csq hs).trans rfl
  have hshu : t.shu = h := (congrArg State.shu hs).trans rfl
  rw [hcsq, hshu]
  exact hs

section

variable {k : AlarmKind} {subject : Option Nat} (hsweep : s.shu.sweep = some w)
  (hmap : s.alc.mapOf k = ⟨.stop, false⟩) (hnew : ¬ s.alc.Holds .stop k subject) (hroom : s.alc.stopCh.entries.length < 8)

include hsweep hmap hnew hroom

theorem post_aborts_shu : (post k subject s).shu = { s.shu with sweep := none, result := some (abortedResult w) } :=
  (congrArg State.shu (post_aborts_stopOnly hsweep hmap hnew hroom)).trans (closeSweep_shu _ _)

/-- R72: CSQ is as the end of the sweep leaves it. -/
theorem post_aborts_csq : ∃ u : State, u.csq = { s.csq with seq := .idle } ∧ u.tpc = s.tpc
    ∧ (post k subject s).csq = (removeTests u).csq := by
  have hclosed : (post k subject s).csq = (closeSweep (abortedResult w) (appended .stop k subject s)).csq :=
    (congrArg State.csq (post_aborts_stopOnly hsweep hmap hnew hroom)).trans rfl
  rw [closeSweep] at hclosed
  refine ⟨_, ?_, ?_, hclosed⟩ <;> rfl

theorem post_aborts_only : let t := post k subject s
    t = { s with
      lpu := t.lpu, alc := t.alc, csq := t.csq, shu := t.shu
      tpc := { s.tpc with restartDue := t.tpc.restartDue }, tbc := { s.tbc with restartDue := t.tbc.restartDue } } := by
  have hstop := post_aborts_stopOnly hsweep hmap hnew hroom
  rw [closeSweep_only] at hstop
  exact hstop.of_swept

omit hsweep in
theorem post_aborts_holds : (post k subject s).alc.Holds .stop k subject := by
  rw [post_appends_stop hmap hnew hroom]
  exact (holds_kept .stop k subject).recompute ((holds_kept .stop k subject).abortSweep appended_holds)

theorem post_aborts_notice (hdone : s.alc.mapOf .sweepDone = ⟨.note, false⟩) (hnote : s.alc.noteCh.entries.length < 8) :
    (post k subject s).alc.Holds .note .sweepDone (some SweepOutcome.aborted.code) := by
  rw [post_aborts hsweep hmap hnew hroom]
  refine (holds_kept .note .sweepDone _).recompute (postQuiet_holds ?_ ?_) <;> rw [closeSweep_only]
  · exact hdone
  · exact hnote

end

end Sys2Proof.Machine

open Sys2Proof Sys2Proof.Machine

/-- Settles O36: a complete sweep without and with substitution, a sweep with a pass open, and the abort by a STOP alarm. -/
theorem sweepEnds : Obligations.SweepEnds := by
  unfold Obligations.SweepEnds
  intro w s hsweep
  refine ⟨fun hplain hwaiting hdone => ?_, fun hsubst hwaiting hdone => ?_,
    fun hwaiting => sweepTest_waits hsweep (.inl hwaiting), fun m hm hopen => sweepTest_waits hsweep (.inr ⟨m, hm, hopen⟩),
    fun k subject hmap hnew hroom => ?_⟩
  · rw [sweepTest_complete hsweep hwaiting hdone, applySweep_plain hplain]
    have hshu := flagsClosed_shu (s := s) (w := w) .sweepDone (some SweepOutcome.done.code)
      ⟨.done, w.members.length, failingStations w, 0⟩
    exact ⟨congrArg Shu.sweep hshu, closePosted_seq _ _ _ _, congrArg Shu.result hshu, (congrArg Shu.subst hshu).trans rfl,
      congrArg Shu.records hshu, fun hmap _ hroom => doneNotice_of_flags .done _ hmap hroom⟩
  · intro t bad spare chosen kept
    have ht : t = applySweep w s := sweepTest_complete hsweep hwaiting hdone
    have hchosen : sparesChosen w s = chosen := chooseSpares_eq s.tables s.shu bad bad []
    have hplaces : freePlaces s.shu bad = 8 - kept.length := freePlaces_eq s.shu bad
    rw [ht]
    obtain ⟨hnone, hidle⟩ := applySweep_ends w s
    refine ⟨hnone, hidle, fun hover => ?_, fun hfits => ?_⟩
    · rw [← hplaces, ← hchosen] at hover
      rw [applySweep_over hsubst hover]
      have hshu := flagsClosed_shu (s := s) (w := w) .sweepDone (some SweepOutcome.over.code)
        ⟨.over, w.members.length, bad, 0⟩
      exact ⟨congrArg Shu.result hshu, (congrArg Shu.subst hshu).trans rfl, congrArg Shu.records hshu,
        flagsClosed_unusable _ _ _, fun hmap _ hroom => doneNotice_of_flags .over _ hmap hroom⟩
    · rw [← hplaces, ← hchosen] at hfits
      rw [applySweep_installs hsubst hfits, hchosen]
      have hshu := substitutedClosed_shu (s := s) (w := w) .sweepDone (some SweepOutcome.done.code)
        ⟨.done, w.members.length, bad, chosen.length⟩ chosen
      refine ⟨congrArg Shu.result hshu, congrArg Shu.subst hshu, congrArg Shu.records hshu,
        substitutedClosed_unusable _ _ _ _, fun hmap hjam hroom => ?_, fun hmap hroom f hf hj => ?_⟩
      · refine doneNotice_of_substitution .done _ _ _ ?_ ?_ ?_ <;> rw [applyFlags_alc]
        · exact hmap
        · exact hjam
        · exact hroom
      · refine jamNotice_of_substitution _ _ _ _ ?_ ?_ hf ?_
        · rw [applyFlags_alc, hmap]
        · rw [applyFlags_alc]
          exact hroom
        · rw [recordAt_applyFlags StationRecord.jammed (fun _ _ => rfl), hj]
  · have habsent : ¬ s.alc.Holds .stop k subject := fun ⟨e, he, hsame⟩ => hnew e he hsame
    have hshu := post_aborts_shu hsweep hmap habsent hroom
    obtain ⟨u, hu, htpc, hcsq⟩ := post_aborts_csq hsweep hmap habsent hroom
    obtain ⟨-, hlevel⟩ := post_appends_level hmap habsent hroom
    refine ⟨congrArg Shu.sweep hshu, ?_, hlevel, congrArg Shu.result hshu, (congrArg Shu.records hshu).trans rfl,
      (congrArg Shu.subst hshu).trans rfl, post_aborts_holds hmap habsent hroom,
      post_aborts_notice hsweep hmap habsent hroom, fun hx hlen => ?_, fun hx => ?_, fun hx => ?_,
      post_aborts_only hsweep hmap habsent hroom⟩
    · rw [hcsq]
      exact removeTests_idle (by rw [hu])
    · rw [removeTests_waiting (by rw [hu]) (by rw [hu, ← hx]) (by rw [hu, ← hlen]), htpc, hu] at hcsq
      exact hcsq
    · rw [removeTests_inFlight (by rw [hu, ← hx]), hu] at hcsq
      exact hcsq
    · rw [removeTests_other (by rcases hx with hx | hx <;> simp [hu, hx]) (by rcases hx with hx | hx <;> simp [hu, hx]),
        hu] at hcsq
      exact hcsq

end

section
/-! PROOF. STATION FLAGS for one station and for every fitted one, each station in closed form (R60, R64 to R66). -/

namespace Sys2Proof.Machine

variable {n m : Nat}

/-! ### The records a request changes (R65) -/

theorem recordAt_of_record {h : Shu} {r : StationRecord} (hn : 1 ≤ n) (hr : h.records[n - 1]? = some r) :
    recordAt h n = r := by
  rw [recordAt, if_neg (Nat.one_le_iff_ne_zero.mp hn), List.getD_eq_getElem?_getD, hr]
  rfl

theorem modifyRecord_of_record {rs : List StationRecord} {r : StationRecord} (hn : 1 ≤ n) (hr : rs[n - 1]? = some r)
    (f : StationRecord → StationRecord) : modifyRecord n f rs = rs.set (n - 1) (f r) := by
  rw [modifyRecord, if_neg (Nat.one_le_iff_ne_zero.mp hn), List.modify_eq_set_getElem?, hr]
  rfl

theorem modifyRecord_length (n : Nat) (f : StationRecord → StationRecord) (rs : List StationRecord) :
    (modifyRecord n f rs).length = rs.length := by
  unfold modifyRecord
  split
  · rfl
  · exact List.length_modify _ _ _

/-- The records with those of the stations `ns` changed by `f`, one after another. -/
def modifyRecords (ns : List Nat) (f : StationRecord → StationRecord) (rs : List StationRecord) : List StationRecord :=
  ns.foldl (fun rs n => modifyRecord n f rs) rs

theorem modifyRecords_length (ns : List Nat) (f : StationRecord → StationRecord) (rs : List StationRecord) :
    (modifyRecords ns f rs).length = rs.length := by
  unfold modifyRecords
  induction ns generalizing rs with
  | nil => rfl
  | cons n rest ih => rw [List.foldl_cons, ih, modifyRecord_length]

/-- The station records of SHU replaced. -/
def Shu.withRecords (h : Shu) (rs : List StationRecord) : Shu := { h with records := rs }

theorem recordAt_modifyRecord_ne (hm : m ≠ n) (f : StationRecord → StationRecord) (h : Shu) :
    recordAt (h.withRecords (modifyRecord n f h.records)) m = recordAt h m := by
  unfold recordAt modifyRecord Shu.withRecords
  split
  · rfl
  · split
    · rfl
    · rw [List.getD_eq_getElem?_getD, List.getElem?_modify_ne _ _ (by omega), List.getD_eq_getElem?_getD]

theorem recordAt_modifyRecord_same {h : Shu} (hn : 1 ≤ n) (hlen : n ≤ h.records.length)
    (f : StationRecord → StationRecord) :
    recordAt (h.withRecords (modifyRecord n f h.records)) n = f (recordAt h n) := by
  have hne : n ≠ 0 := Nat.one_le_iff_ne_zero.mp hn
  have hlt : n - 1 < h.records.length := by omega
  simp only [recordAt, modifyRecord, Shu.withRecords, if_neg hne, List.getD_eq_getElem?_getD, List.getElem?_modify_eq,
    List.getElem?_eq_getElem hlt]
  rfl

/-- R65: each station named once is changed once, and no other. -/
theorem recordAt_modifyRecords (ns : List Nat) (hns : ns.Nodup) (f : StationRecord → StationRecord) (h : Shu)
    (hn : 1 ≤ n) (hlen : n ≤ h.records.length) : recordAt (h.withRecords (modifyRecords ns f h.records)) n =
      if n ∈ ns then f (recordAt h n) else recordAt h n := by
  induction ns generalizing h with
  | nil => rfl
  | cons k rest ih =>
    obtain ⟨hk, hrest⟩ := List.nodup_cons.mp hns
    have hstep := ih hrest (h.withRecords (modifyRecord k f h.records)) (hlen.trans_eq (modifyRecord_length _ _ _).symm)
    refine hstep.trans ?_
    by_cases hkn : n = k
    · subst hkn
      rw [if_neg hk, if_pos List.mem_cons_self, recordAt_modifyRecord_same hn hlen]
    · simp only [recordAt_modifyRecord_ne hkn, List.mem_cons, hkn, false_or]

/-! ### One station (R60, R64 to R66) -/

/-- R60, R64: the entry stays beside a station `n` that was, and is now, usable or not. -/
def staysBeside (was now : Bool) (n : Nat) (e : SubstEntry) : Bool :=
  !(was && !now && e.substitute == n) && !(now && e.failed == n)

theorem staysBeside_iff (was now : Bool) (n : Nat) (e : SubstEntry) : staysBeside was now n e = true ↔
    (was = true → now = false → e.substitute ≠ n) ∧ (now = true → e.failed ≠ n) := by
  cases was <;> cases now <;> simp [staysBeside]

/-- R64: a usable station needs no substitute. -/
theorem staysBeside_usable (was : Bool) (n : Nat) : staysBeside was true n = (·.failed != n) := by
  funext e
  simp [staysBeside, bne]

/-- R60: a station that stops being usable is no substitute. -/
theorem staysBeside_stopped (n : Nat) : staysBeside true false n = (·.substitute != n) := by
  funext e
  simp [staysBeside, bne]

theorem staysBeside_unusable (n : Nat) : staysBeside false false n = fun _ => true := by
  funext e
  simp [staysBeside]

/-- R65, R66: the flags of station `n` have changed by `f`. -/
def flagsApplied (n : Nat) (f : StationRecord → StationRecord) (was now : Bool) (s : State) : State := { s with
  shu := { s.shu with
    records := modifyRecord n f s.shu.records
    subst := s.shu.subst.filter (staysBeside was now n) }
  csq := { s.csq with unusable := s.csq.unusable ++ if was && !now then [n] else [] } }

/-- R60, R64: what the change means for the Substitution Table and CSQ, by what the station was and now is. -/
theorem flagsApplied_eq (n : Nat) (f : StationRecord → StationRecord) (was now : Bool) (s : State) :
    flagsApplied n f was now s =
      if now then (setRecord n f s).updShu (fun h => { h with subst := h.subst.filter (·.failed != n) })
      else if was then becomeUnusable n (setRecord n f s)
      else setRecord n f s := by
  rw [setRecord_modifyRecord]
  cases now with
  | true => simp [flagsApplied, staysBeside_usable, State.updShu]
  | false =>
    cases was with
    | true =>
      simp [flagsApplied, staysBeside_stopped, becomeUnusable, noticeUnusable, dropSubstitute, State.updShu, State.updCsq]
    | false => simp [flagsApplied, staysBeside_unusable]

theorem applyStationFlags_eq (clear set : Byte) (n : Nat) (s : State) : applyStationFlags clear set n s =
    flagsApplied n (flagsAfter clear set) (usable s.tables s.shu n)
      (usable s.tables (s.shu.withRecords (modifyRecord n (flagsAfter clear set) s.shu.records)) n) s := by
  have hnow : usable (setRecord n (flagsAfter clear set) s).tables (setRecord n (flagsAfter clear set) s).shu n =
      usable s.tables (s.shu.withRecords (modifyRecord n (flagsAfter clear set) s.shu.records)) n := by
    rw [setRecord_modifyRecord]
    rfl
  rw [flagsApplied_eq, ← hnow, applyStationFlags]
  cases usable (setRecord n (flagsAfter clear set) s).tables (setRecord n (flagsAfter clear set) s).shu n with
  | true => simp
  | false => simp

/-- R27, R65: the station is usable once the flags have changed. -/
def usableAfter (clear set : Byte) (s : State) (n : Nat) : Bool :=
  fitted s.tables n && (flagsAfter clear set (recordAt s.shu n)).sound

theorem applyStationFlags_listed (clear set : Byte) {s : State} (hn : 1 ≤ n) (hlen : n ≤ s.shu.records.length) :
    applyStationFlags clear set n s =
      flagsApplied n (flagsAfter clear set) (usable s.tables s.shu n) (usableAfter clear set s n) s := by
  have hnow : usable s.tables (s.shu.withRecords (modifyRecord n (flagsAfter clear set) s.shu.records)) n =
      usableAfter clear set s n := by
    rw [usable, recordAt_modifyRecord_same hn hlen, usableAfter]
  rw [applyStationFlags_eq, hnow]

theorem applyStationFlags_blind (clear set : Byte) (n : Nat) : LpuBlind (applyStationFlags clear set n) := fun g s => by
  rw [applyStationFlags_eq, applyStationFlags_eq]
  rfl

/-! ### Every station named (R65) -/

/-- R65, R66: the flags of the stations `ns`, which were and are now usable as told. -/
def flagsAppliedAll (ns : List Nat) (f : StationRecord → StationRecord) (was now : Nat → Bool)
    (s : State) : State := { s with
  shu := { s.shu with
    records := modifyRecords ns f s.shu.records
    subst := s.shu.subst.filter (fun e => ns.all (fun n => staysBeside (was n) (now n) n e)) }
  csq := { s.csq with unusable := s.csq.unusable ++ ns.filter (fun n => was n && !now n) } }

theorem flagsAppliedAll_nil (f : StationRecord → StationRecord) (was now : Nat → Bool) (s : State) :
    flagsAppliedAll [] f was now s = s := by
  simp [flagsAppliedAll, modifyRecords]

theorem flagsAppliedAll_cons (n : Nat) (ns : List Nat) (f : StationRecord → StationRecord) (was now : Nat → Bool)
    (s : State) :
    flagsAppliedAll (n :: ns) f was now s = flagsAppliedAll ns f was now (flagsApplied n f (was n) (now n) s) := by
  have hsubst : s.shu.subst.filter (fun e => (n :: ns).all (fun n => staysBeside (was n) (now n) n e)) =
      (s.shu.subst.filter (staysBeside (was n) (now n) n)).filter
        (fun e => ns.all (fun n => staysBeside (was n) (now n) n e)) := by
    rw [List.filter_filter]
    exact List.filter_congr fun e _ => by rw [List.all_cons, Bool.and_comm]
  have hunusable : s.csq.unusable ++ (n :: ns).filter (fun n => was n && !now n) =
      (s.csq.unusable ++ if was n && !now n then [n] else []) ++ ns.filter (fun n => was n && !now n) := by
    rw [List.append_assoc, List.filter_cons]
    split <;> rfl
  unfold flagsAppliedAll
  rw [hsubst, hunusable]
  rfl

/-- R65: the flags of stations named once each; a change of one leaves the others as usable as they are. -/
theorem foldl_applyStationFlags (clear set : Byte) {ns : List Nat} (hns : ns.Nodup) (was now : Nat → Bool) (s : State)
    (hrange : ∀ n ∈ ns, 1 ≤ n ∧ n ≤ s.shu.records.length)
    (hwas : ∀ n ∈ ns, usable s.tables s.shu n = was n) (hnow : ∀ n ∈ ns, usableAfter clear set s n = now n) :
    ns.foldl (fun t n => applyStationFlags clear set n t) s = flagsAppliedAll ns (flagsAfter clear set) was now s := by
  induction ns generalizing s with
  | nil => exact (flagsAppliedAll_nil _ _ _ s).symm
  | cons n rest ih =>
    obtain ⟨hn, hrest⟩ := List.nodup_cons.mp hns
    obtain ⟨hone, hlen⟩ := hrange n List.mem_cons_self
    have hother : ∀ m ∈ rest,
        recordAt (flagsApplied n (flagsAfter clear set) (was n) (now n) s).shu m = recordAt s.shu m :=
      fun m hm => recordAt_modifyRecord_ne (ne_of_mem_of_not_mem hm hn) (flagsAfter clear set) s.shu
    rw [List.foldl_cons, applyStationFlags_listed clear set hone hlen, hwas n List.mem_cons_self, hnow n List.mem_cons_self,
      flagsAppliedAll_cons]
    refine ih hrest _ (fun m hm => ?_) (fun m hm => ?_) (fun m hm => ?_)
    · exact (hrange m (List.mem_cons_of_mem n hm)).imp_right fun h => h.trans_eq (modifyRecord_length _ _ _).symm
    · rw [← hwas m (List.mem_cons_of_mem n hm), usable, hother m hm]
      rfl
    · rw [← hnow m (List.mem_cons_of_mem n hm), usableAfter, hother m hm]
      rfl

/-- R65: what stays of the Substitution Table beside all fitted stations. -/
theorem all_staysBeside {t : Tables} {was now : Nat → Bool} (hwas : ∀ n, was n = true → fitted t n = true)
    (hnow : ∀ n, now n = true → fitted t n = true) {e : SubstEntry} (hf : e.failed ≤ 96) (hs : e.substitute ≤ 96) :
    ((List.range' 1 96).filter (fitted t)).all (fun n => staysBeside (was n) (now n) n e) =
      (!(was e.substitute && !now e.substitute) && !now e.failed) := by
  have hmem : ∀ n, n ≤ 96 → fitted t n = true → n ∈ (List.range' 1 96).filter (fitted t) := by
    intro n hn hfit
    have hne : n ≠ 0 := by
      rintro rfl
      simp [fitted, dropPosition, stationMapAt] at hfit
    rw [List.mem_filter, List.mem_range'_1]
    exact ⟨by omega, hfit⟩
  have hgoal : (!(was e.substitute && !now e.substitute) && !now e.failed) = true ↔
      (was e.substitute = true → now e.substitute = true) ∧ now e.failed = false := by
    cases was e.substitute <;> simp
  rw [Bool.eq_iff_iff, hgoal, List.all_eq_true]
  simp only [staysBeside_iff]
  constructor
  · intro hall
    refine ⟨fun hw => ?_, ?_⟩
    · by_contra hnot
      obtain ⟨hsub, -⟩ := hall e.substitute (hmem _ hs (hwas _ hw))
      exact hsub hw (Bool.eq_false_iff.mpr hnot) rfl
    · by_contra hnot
      have husable : now e.failed = true := Bool.of_not_eq_false hnot
      obtain ⟨-, hfailed⟩ := hall e.failed (hmem _ hf (hnow _ husable))
      exact hfailed husable rfl
  · rintro ⟨hsub, hfailed⟩ n -
    refine ⟨fun hw hn heq => ?_, fun hn heq => ?_⟩
    · subst heq
      rw [hsub hw] at hn
      contradiction
    · subst heq
      rw [hfailed] at hn
      contradiction

/-! ### The act (R65) -/

theorem LpuBlind.foldl {α : Type} {f : State → α → State} (hf : ∀ a, LpuBlind (f · a)) (l : List α) :
    LpuBlind (fun s => l.foldl f s) := by
  induction l with
  | nil => exact LpuBlind.id
  | cons a rest ih => exact ih.comp (hf a)

theorem actStationFlags_blind (station clear set : Byte) : (actStationFlags station clear set).LpuBlind := by
  intro g s
  unfold actStationFlags
  split
  · rfl
  · have hfold := LpuBlind.foldl (applyStationFlags_blind clear set) (stationsNamed s.tables station.toNat) g s
    exact congrArg (·, _, _) hfold

section

variable {station clear set : Byte} {s : State}

theorem exec_stationFlags {tag : Byte} {t : State} {code : ResultCode} {data : List Byte} (hs : Takes s)
    (h : actStationFlags station clear set s = (t, code, data)) :
    exec (.stationFlags tag station clear set) s = .next (answered 0x13 tag code data t) :=
  next_request (actStationFlags_blind station clear set) hs (by decide) h

theorem actStationFlags_beyond (h : 96 < station.toNat) : actStationFlags station clear set s = (s, .badIndex, [0]) :=
  if_pos h

theorem actStationFlags_one (hn : station.toNat = n) (hone : 1 ≤ n) (hlast : n ≤ 96) :
    actStationFlags station clear set s = (applyStationFlags clear set n s, .ok, [(recordAt s.shu n).flags]) := by
  subst hn
  have hne : station.toNat ≠ 0 := Nat.one_le_iff_ne_zero.mp hone
  have hzero : station ≠ 0 := fun h => hne (by rw [h]; rfl)
  simp only [actStationFlags, stationsNamed, if_neg (Nat.not_lt.mpr hlast), if_neg hne, if_neg hzero]
  rfl

theorem actStationFlags_all : actStationFlags 0 clear set s =
    let named := (List.range' 1 96).filter (fitted s.tables)
    (named.foldl (fun t n => applyStationFlags clear set n t) s, .ok,
      [byte named.length] ++ named.flatMap (fun n => [byte n, (recordAt s.shu n).flags])) := rfl

end

end Sys2Proof.Machine

open Sys2Proof Sys2Proof.Machine

/-- Settles O33: a station beyond the last, one station, and every fitted one. -/
theorem stationFlagsRequest : Obligations.StationFlagsRequest := by
  unfold Obligations.StationFlagsRequest
  intro tag station clear set s hs after was now
  refine ⟨fun h => exec_stationFlags hs (actStationFlags_beyond h), fun n r hn hone hlast hr => ?_,
    fun hzero hlen hsubst => ?_⟩
  · have hrecord : recordAt s.shu n = r := recordAt_of_record hone hr
    have hlisted : n ≤ s.shu.records.length := by
      have hlt := (List.getElem?_eq_some_iff.mp hr).1
      omega
    have hset : modifyRecord n (flagsAfter clear set) s.shu.records = s.shu.records.set (n - 1) (after r) :=
      modifyRecord_of_record hone hr _
    rw [exec_stationFlags hs (actStationFlags_one hn hone hlast), applyStationFlags_listed clear set hone hlisted, hrecord,
      flagsApplied, hset]
    rfl
  · intro named
    subst hzero
    have hrange : ∀ n ∈ named, 1 ≤ n ∧ n ≤ s.shu.records.length := fun n hn => by
      have hin := List.mem_range'_1.mp (List.mem_filter.mp hn).1
      omega
    have hnodup : named.Nodup := List.Nodup.filter _ List.nodup_range'
    have hall := foldl_applyStationFlags clear set hnodup was now s hrange (fun _ _ => rfl) (fun _ _ => rfl)
    refine ⟨flagsAppliedAll named (flagsAfter clear set) was now s, ?_, rfl, ?_, fun n hone hlast => ?_, ?_⟩
    · exact exec_stationFlags hs (actStationFlags_all.trans (congrArg (·, _, _) hall))
    · exact (modifyRecords_length _ _ _).trans hlen
    · refine (recordAt_modifyRecords named hnodup (flagsAfter clear set) s.shu hone (by omega)).trans ?_
      have hmem : n ∈ named ↔ fitted s.tables n = true := by
        rw [List.mem_filter, List.mem_range'_1]
        exact ⟨And.right, fun h => ⟨by omega, h⟩⟩
      simp only [hmem]
      rfl
    · refine List.filter_congr fun e he => ?_
      obtain ⟨hf, hsub⟩ := hsubst e he
      exact all_staysBeside (t := s.tables) (fun n h => (Bool.and_eq_true_iff.mp h).1)
        (fun n h => (Bool.and_eq_true_iff.mp h).1) hf hsub

end

section
/-! PROOF. SWEEP payloads, the checks of a SWEEP request in order, its start, and SWEEP RESULT (R67, R69, R73, R164). -/

namespace Sys2Proof.Machine

/-! ### SWEEP payloads (R164) -/

/-- R164: the fields of a payload with these stations, and these bytes after them. -/
def sweepTail (stations : List Nat) : List Byte → Option SweepFields
  | [g, p, v] => some ⟨stations, g.toNat, p.toNat, v.toNat⟩
  | _ => none

theorem sweepTail_wrongLength (stations : List Nat) {tail : List Byte} (h : tail.length ≠ 3) :
    sweepTail stations tail = none := by
  unfold sweepTail
  split
  · exact absurd rfl h
  · rfl

theorem sweepFieldsOf_list (k : Byte) (rest : List Byte) : sweepFieldsOf (0 :: k :: rest) =
    sweepTail ((rest.take k.toNat).map BitVec.toNat) (rest.drop k.toNat) := rfl

theorem sweepFieldsOf_mask (rest : List Byte) :
    sweepFieldsOf (1 :: rest) = sweepTail (maskStations 1 (rest.take 12)) (rest.drop 12) := by
  cases rest <;> rfl

theorem sweepFieldsOf_unknownForm {form : Byte} (h : 1 < form.toNat) (rest : List Byte) :
    sweepFieldsOf (form :: rest) = none := by
  unfold sweepFieldsOf
  split
  next heq =>
    rw [(List.cons.inj heq).1] at h
    exact absurd h (by decide)
  next heq =>
    rw [(List.cons.inj heq).1] at h
    exact absurd h (by decide)
  next => rfl

/-- What follows the stations is of three bytes. -/
theorem drop_length_ne {n : Nat} {rest : List Byte} (h : rest.length ≠ n + 3) : (rest.drop n).length ≠ 3 := by
  rw [List.length_drop]
  omega

/-- R164: the stations of one byte of a mask. -/
theorem mem_maskByte {base n : Nat} {b : Byte} :
    n ∈ ([0, 1, 2, 3, 4, 5, 6, 7].filter (fun i => b.getLsbD i)).map (base + ·) ↔
      base ≤ n ∧ n - base < 8 ∧ b.getLsbD (n - base) = true := by
  have hbits : [0, 1, 2, 3, 4, 5, 6, 7] = List.range 8 := rfl
  simp only [hbits, List.mem_map, List.mem_filter, List.mem_range]
  constructor
  · rintro ⟨i, ⟨hi, hbit⟩, rfl⟩
    rw [Nat.add_sub_cancel_left]
    exact ⟨Nat.le_add_right _ _, hi, hbit⟩
  · rintro ⟨hle, hlt, hbit⟩
    exact ⟨n - base, ⟨hlt, hbit⟩, by omega⟩

/-- R164: station `base` is the least significant bit of a mask's first byte. -/
theorem mem_maskStations (mask : List Byte) (base n : Nat) : n ∈ maskStations base mask ↔
    base ≤ n ∧ ∃ b, mask[(n - base) / 8]? = some b ∧ b.getLsbD ((n - base) % 8) = true := by
  induction mask generalizing base with
  | nil => simp [maskStations]
  | cons b rest ih =>
    rw [maskStations, List.mem_append, mem_maskByte, ih]
    by_cases hfirst : n - base < 8
    · have hdiv : (n - base) / 8 = 0 := Nat.div_eq_of_lt hfirst
      have hlater : ¬ base + 8 ≤ n := by omega
      simp [hdiv, Nat.mod_eq_of_lt hfirst, hfirst, hlater]
    · have hplace : n - base = (n - (base + 8)) + 8 := by omega
      have hdiv : (n - base) / 8 = (n - (base + 8)) / 8 + 1 := by omega
      have hmod : (n - base) % 8 = (n - (base + 8)) % 8 := by omega
      have hle : base + 8 ≤ n ↔ base ≤ n := by omega
      simp [hdiv, hmod, hfirst, hle]

/-! ### The checks of a SWEEP request (R67) -/

def SweepInRange (f : SweepFields) : Prop := ∀ n ∈ f.stations, 1 ≤ n ∧ n ≤ 96

def SweepValues (f : SweepFields) : Prop :=
  f.groupSize ∈ [0, 1, 4, 8] ∧ 1 ≤ f.passes ∧ f.passes ≤ 4 ∧ f.variant ≤ 1 ∧ f.stations ≠ []

/-- R67 check 4: the part is in a state that allows a sweep. -/
def SweepFree (s : State) : Prop := s.mode ≠ .insertOnly ∧ s.csq.seq = .idle ∧ s.csq.window = []
  ∧ ∀ p n, s.tables.constants.sensePos < p → p < s.csq.ring.length → clipAt s.csq p ≠ .test n

theorem sweepInRange_iff (f : SweepFields) :
    f.stations.all (fun n => decide (1 ≤ n ∧ n ≤ Config.stationCount)) = true ↔ SweepInRange f := by
  simp only [List.all_eq_true, decide_eq_true_eq]
  rfl

theorem sweepValues_iff (f : SweepFields) :
    (groupKnown f.groupSize && decide (1 ≤ f.passes ∧ f.passes ≤ 4) && decide (f.variant ≤ 1)
      && !f.stations.isEmpty) = true ↔ SweepValues f := by
  simp [groupKnown, SweepValues, and_assoc, or_assoc]

theorem noTestAboveSense_iff (s : State) : noTestAboveSense s = true ↔
    ∀ p n, s.tables.constants.sensePos < p → p < s.csq.ring.length → clipAt s.csq p ≠ .test n := by
  rw [noTestAboveSense, List.all_eq_true]
  constructor
  · intro h p n hlow hhigh hclip
    have hp := h p (List.mem_range.mpr hhigh)
    simp [hclip, Nat.not_le.mpr hlow] at hp
  · intro h p hp
    by_cases hlow : p ≤ s.tables.constants.sensePos
    · simp [hlow]
    · cases hclip : clipAt s.csq p with
      | test n => exact absurd hclip (h p n (Nat.not_le.mp hlow) (List.mem_range.mp hp))
      | _ => simp

theorem sweepFree_iff (s : State) :
    (s.mode != .insertOnly && s.csq.seq == .idle && s.csq.window.isEmpty && noTestAboveSense s) = true ↔ SweepFree s := by
  simp [SweepFree, noTestAboveSense_iff, and_assoc]

theorem bnot_iff_not {b : Bool} {p : Prop} (h : b = true ↔ p) : (!b) = true ↔ ¬ p := by
  rw [← h, Bool.not_eq_true', Bool.not_eq_true]

open Classical in
/-- R67: the checks in order. -/
theorem checkSweep_eq (f : SweepFields) (s : State) : checkSweep f s =
    if ¬ SweepInRange f then .badIndex
    else if ¬ SweepValues f then .badValue
    else if ¬ SweepFree s then .busy
    else if s.alc.stopCh.entries ≠ [] then .alarmActive
    else if fittedOf s.tables f.stations = [] then .badValue
    else .accepted :=
  if_congr (bnot_iff_not (sweepInRange_iff f)) rfl <|
  if_congr (bnot_iff_not (sweepValues_iff f)) rfl <|
  if_congr (bnot_iff_not (sweepFree_iff s)) rfl <|
  if_congr (bnot_iff_not List.isEmpty_iff) rfl <|
  if_congr List.isEmpty_iff rfl rfl

section

variable {f : SweepFields} {s : State}

theorem checkSweep_badIndex (hrange : ¬ SweepInRange f) : checkSweep f s = .badIndex := by
  rw [checkSweep_eq, if_pos hrange]

variable (hrange : SweepInRange f)

include hrange

theorem checkSweep_badValue (hvalues : ¬ SweepValues f) : checkSweep f s = .badValue := by
  rw [checkSweep_eq, if_neg (not_not.mpr hrange), if_pos hvalues]

variable (hvalues : SweepValues f)

include hvalues

theorem checkSweep_busy (hfree : ¬ SweepFree s) : checkSweep f s = .busy := by
  rw [checkSweep_eq, if_neg (not_not.mpr hrange), if_neg (not_not.mpr hvalues), if_pos hfree]

variable (hfree : SweepFree s)

include hfree

theorem checkSweep_alarmActive (hstop : s.alc.stopCh.entries ≠ []) : checkSweep f s = .alarmActive := by
  rw [checkSweep_eq, if_neg (not_not.mpr hrange), if_neg (not_not.mpr hvalues), if_neg (not_not.mpr hfree), if_pos hstop]

/-- R67: with no STOP alarm, whether a station of the set is fitted decides. -/
theorem checkSweep_clear (hstop : s.alc.stopCh.entries = []) : checkSweep f s =
    if fittedOf s.tables f.stations = [] then .badValue else .accepted := by
  rw [checkSweep_eq, if_neg (not_not.mpr hrange), if_neg (not_not.mpr hvalues), if_neg (not_not.mpr hfree),
    if_neg (not_not.mpr hstop)]

end

/-! ### The acts (R67, R73) -/

section

variable {payload : List Byte} {f : SweepFields} {s : State} {tag : Byte}

theorem actSweep_wrongLength (hf : sweepFieldsOf payload = none) : actSweep payload s = (s, .badLength, []) := by
  simp only [actSweep, hf]

theorem actSweep_refused {c : ResultCode} (hf : sweepFieldsOf payload = some f) (hc : checkSweep f s = c)
    (hne : c ≠ .accepted) : actSweep payload s = (s, c, []) := by
  simp only [actSweep, hf]
  split
  next h => exact absurd (hc.symm.trans h) hne
  next => rw [hc]

theorem actSweep_accepted (hf : sweepFieldsOf payload = some f) (hc : checkSweep f s = .accepted) :
    actSweep payload s = (startSweep f s, .accepted, []) := by
  simp only [actSweep, hf, hc]

theorem actSweep_blind (payload : List Byte) : (actSweep payload).LpuBlind := by
  intro g s
  cases hf : sweepFieldsOf payload with
  | none => rw [actSweep_wrongLength hf, actSweep_wrongLength hf]
  | some f =>
    have hcheck : checkSweep f (s.updLpu g) = checkSweep f s := rfl
    by_cases hc : checkSweep f s = .accepted
    · rw [actSweep_accepted hf hc, actSweep_accepted hf (hcheck.trans hc)]
      rfl
    · rw [actSweep_refused hf rfl hc, actSweep_refused hf hcheck hc]

theorem exec_sweep {t : State} {c : ResultCode} (hs : Takes s) (h : actSweep payload s = (t, c, [])) :
    exec (.sweep tag payload) s = .next (answered 0x30 tag c [] t) :=
  next_request (actSweep_blind payload) hs (by decide) h

theorem exec_sweep_refused {c : ResultCode} (hs : Takes s) (hf : sweepFieldsOf payload = some f)
    (hc : checkSweep f s = c) (hne : c ≠ .accepted) :
    exec (.sweep tag payload) s = .next (answered 0x30 tag c [] s) :=
  exec_sweep hs (actSweep_refused hf hc hne)

/-- R67: the fitted stations of the set, as the set's members. -/
theorem fittedOf_eq (t : Tables) (stations : List Nat) : fittedOf t stations =
    (List.range' 1 96).filter (fun n => decide (n ∈ stations) && fitted t n) := by
  simp only [fittedOf, List.contains_eq_mem, Config.stationCount]

/-- R67: an accepted sweep, its first group taken from the fitted stations. -/
theorem startSweep_eq (f : SweepFields) (s : State) : startSweep f s =
    let group := groupSize s.tables.constants.fireLimit f.groupSize
    let chosen := fittedOf s.tables f.stations
    { s with
      csq := { s.csq with seq := .sweeping }
      shu := { s.shu with
        result := none
        sweep := some { group := group, passes := f.passes, withSubst := f.variant == 1, waiting := chosen.drop group
                        current := chosen.take group, members := (chosen.take group).map newMember } } } := rfl

theorem actSweepResult_none (hrest : s.shu.sweep = none) (hnone : s.shu.result = none) :
    actSweepResult s = (s, .ok, [0, 0, 0, 0]) := by
  simp [actSweepResult, hrest, hnone]

theorem actSweepResult_some {r : SweepResult} (hrest : s.shu.sweep = none) (hsome : s.shu.result = some r) :
    actSweepResult s = (s, .ok,
      [byte r.outcome.code, byte r.tested, byte r.substitutions, byte r.failed.length] ++ r.failed.map byte) := by
  simp [actSweepResult, hrest, hsome]

theorem exec_sweepResult {c : ResultCode} {data : List Byte} (hs : Takes s)
    (h : ∀ g, actSweepResult (s.updLpu g) = (s.updLpu g, c, data)) :
    exec (.sweepResult tag) s = .next (answered 0x31 tag c data s) :=
  next_unchanged hs (by decide) h

end

end Sys2Proof.Machine

open Sys2Proof Sys2Proof.Machine

/-- Settles O34: the payloads by form and length, the checks in order, the first group, the result. -/
theorem sweepRequests : Obligations.SweepRequests := by
  unfold Obligations.SweepRequests
  refine ⟨fun stations g p v hlen => ?_, fun mask g p v hlen => ?_,
    ⟨rfl, rfl, fun form rest h => sweepFieldsOf_unknownForm h rest, fun k rest h => ?_, fun rest h => ?_⟩,
    fun tag payload s hs => ?_⟩
  · refine (sweepFieldsOf_list (byte stations.length) (stations ++ [g, p, v])).trans ?_
    rw [byte_toNat hlen, List.drop_left, List.take_left]
    rfl
  · refine ⟨maskStations 1 mask, (sweepFieldsOf_mask (mask ++ [g, p, v])).trans ?_, mem_maskStations mask 1⟩
    rw [← hlen, List.drop_left, List.take_left]
    rfl
  · rw [sweepFieldsOf_list, sweepTail_wrongLength _ (drop_length_ne h)]
  · rw [sweepFieldsOf_mask, sweepTail_wrongLength _ (drop_length_ne h)]
  · refine ⟨fun hf => exec_sweep hs (actSweep_wrongLength hf), fun f hf => ?_, fun hrun => ?_, fun hrest hnone => ?_,
      fun r hrest hsome => ?_⟩
    · intro inRange values free chosen group
      have hchosen : fittedOf s.tables f.stations = chosen := fittedOf_eq _ _
      refine ⟨fun hr => ?_, fun hr hv => ?_, fun hr hv hfree => ?_, fun hr hv hfree hstop => ?_,
        fun hr hv hfree hstop hnone => ?_, fun hr hv hfree hstop hsome => ?_⟩
      · exact exec_sweep_refused hs hf (checkSweep_badIndex hr) (by decide)
      · exact exec_sweep_refused hs hf (checkSweep_badValue hr hv) (by decide)
      · exact exec_sweep_refused hs hf (checkSweep_busy hr hv hfree) (by decide)
      · exact exec_sweep_refused hs hf (checkSweep_alarmActive hr hv hfree hstop) (by decide)
      · have hcheck : checkSweep f s = .badValue :=
          (checkSweep_clear hr hv hfree hstop).trans (if_pos (hchosen.trans hnone))
        exact exec_sweep_refused hs hf hcheck (by decide)
      · have hcheck : checkSweep f s = .accepted :=
          (checkSweep_clear hr hv hfree hstop).trans (if_neg fun h => hsome (hchosen.symm.trans h))
        rw [exec_sweep hs (actSweep_accepted hf hcheck), startSweep_eq, hchosen]
        rfl
    · exact exec_sweepResult hs fun _ => if_pos hrun
    · exact exec_sweepResult hs fun g => actSweepResult_none hrest hnone
    · exact exec_sweepResult hs fun g => actSweepResult_some hrest hsome

end

section
/-! PROOF. The substitution attempt and the counted miss (R58, R60, R63). -/

namespace Sys2Proof.Machine

variable {f n : Nat} {s : State} {r x : StationRecord}

/-! ### A station's record, read and written (R56) -/

/-- The part with the record `x` of station `n`. -/
def withRecord (n : Nat) (x : StationRecord) (s : State) : State :=
  { s with shu := { s.shu with records := s.shu.records.set (n - 1) x } }

theorem withRecord_record (hr : s.shu.records[n - 1]? = some r) :
    (withRecord n x s).shu.records[n - 1]? = some x :=
  List.getElem?_set_self (List.getElem?_eq_some_iff.mp hr).1

theorem withRecord_withRecord (y : StationRecord) : withRecord n y (withRecord n x s) = withRecord n y s := by
  unfold withRecord
  rw [List.set_set]

theorem setRecord_of_record (hn : 1 ≤ n) (hr : s.shu.records[n - 1]? = some r) (g : StationRecord → StationRecord) :
    setRecord n g s = withRecord n (g r) s := by
  rw [setRecord_modifyRecord, modifyRecord_of_record hn hr, withRecord]

/-! ### The substitution attempt (R63) -/

theorem substFor_isSome (h : Shu) (f : Nat) : (substFor h f).isSome = true ↔ ∃ e ∈ h.subst, e.failed = f := by
  simp [substFor]

/-- R63 step 2: what a spare that qualifies is; a usable station is fitted. -/
theorem spareQualifies_iff (t : Tables) (h : Shu) (f : Nat) : spareQualifies t h f = true ↔
    (stationMapAt t f).spare ≠ 0 ∧ fitted t (stationMapAt t f).spare = true
      ∧ usable t h (stationMapAt t f).spare = true
      ∧ ∀ e ∈ h.subst, e.failed ≠ (stationMapAt t f).spare ∧ e.substitute ≠ (stationMapAt t f).spare := by
  have hfitted : usable t h (stationMapAt t f).spare = true → fitted t (stationMapAt t f).spare = true :=
    fun hu => ((usable_iff _ _ _).mp hu).1
  simp only [spareQualifies, Bool.and_eq_true, bne_iff_ne, Bool.not_eq_true', List.any_eq_false, Bool.or_eq_true,
    beq_iff_eq, not_or]
  exact ⟨fun ⟨⟨hne, hu⟩, hfree⟩ => ⟨hne, hfitted hu, hu, hfree⟩, fun ⟨hne, _, hu, hfree⟩ => ⟨⟨hne, hu⟩, hfree⟩⟩

theorem attemptSubstitution_present (h : ∃ e ∈ s.shu.subst, e.failed = f) : attemptSubstitution f s = s :=
  if_pos ((substFor_isSome _ _).mpr h)

section

variable (hnew : ∀ e ∈ s.shu.subst, e.failed ≠ f)

include hnew

/-- R63 steps 2 to 4, for a station with no entry. -/
theorem attemptSubstitution_absent : attemptSubstitution f s =
    if !spareQualifies s.tables s.shu f then s
    else if s.shu.subst.length < 8 then
      { s with shu := { s.shu with subst := s.shu.subst ++ [⟨f, (stationMapAt s.tables f).spare, s.alc.ms, 0⟩] } }
    else post .substFull (some f) s :=
  if_neg fun h => by
    obtain ⟨e, he, hf⟩ := (substFor_isSome _ _).mp h
    exact hnew e he hf

theorem attemptSubstitution_unqualified (h : spareQualifies s.tables s.shu f = false) : attemptSubstitution f s = s := by
  rw [attemptSubstitution_absent hnew, h]
  rfl

theorem attemptSubstitution_installs (h : spareQualifies s.tables s.shu f = true) (hroom : s.shu.subst.length < 8) :
    attemptSubstitution f s = { s with
      shu := { s.shu with subst := s.shu.subst ++ [⟨f, (stationMapAt s.tables f).spare, s.alc.ms, 0⟩] } } := by
  rw [attemptSubstitution_absent hnew, h]
  exact if_pos hroom

theorem attemptSubstitution_full (h : spareQualifies s.tables s.shu f = true) (hfull : 8 ≤ s.shu.subst.length) :
    attemptSubstitution f s = post .substFull (some f) s := by
  rw [attemptSubstitution_absent hnew, h]
  exact if_neg (Nat.not_lt.mpr hfull)

end

/-! ### The counted miss (R58, R60) -/

/-- R58: the record after a counted miss, before the jam. -/
def missedRecord (r : StationRecord) : StationRecord :=
  { r with consecutive := satInc 7 r.consecutive, total := satInc 65535 r.total }

theorem countedMiss_eq (n : Nat) (s : State) : countedMiss n s =
    let counted := setRecord n missedRecord s
    let record := recordAt counted.shu n
    if record.jammed = false ∧ s.tables.constants.missLimit ≤ record.consecutive then
      stationFailed (usable s.tables s.shu n) n
        (post .stationJam (some n) (setRecord n ({ · with jammed := true }) counted))
    else counted := rfl

/-- R58: a counted miss, by the record of the station that missed. -/
theorem countedMiss_of_record (hn : 1 ≤ n) (hr : s.shu.records[n - 1]? = some r) : countedMiss n s =
    if r.jammed = false ∧ s.tables.constants.missLimit ≤ (missedRecord r).consecutive then
      stationFailed (usable s.tables s.shu n) n
        (post .stationJam (some n) (withRecord n { missedRecord r with jammed := true } s))
    else withRecord n (missedRecord r) s := by
  have hmissed : setRecord n missedRecord s = withRecord n (missedRecord r) s := setRecord_of_record hn hr _
  have hrecord : (withRecord n (missedRecord r) s).shu.records[n - 1]? = some (missedRecord r) := withRecord_record hr
  have hjammed : setRecord n ({ · with jammed := true }) (withRecord n (missedRecord r) s) =
      withRecord n { missedRecord r with jammed := true } s :=
    (setRecord_of_record hn hrecord _).trans (withRecord_withRecord _)
  rw [countedMiss_eq, hmissed]
  simp only [recordAt_of_record hn hrecord, hjammed]
  rfl

end Sys2Proof.Machine

open Sys2Proof Sys2Proof.Machine

/-- Settles O35: the attempt by its three checks, the miss by the limit and by what the station was. -/
theorem missesAndSubstitution : Obligations.MissesAndSubstitution := by
  unfold Obligations.MissesAndSubstitution
  intro f s spare qualifies
  have hqualifies : spareQualifies s.tables s.shu f = true ↔ qualifies := spareQualifies_iff _ _ _
  refine ⟨attemptSubstitution_present, fun hnew => ⟨fun hq => ?_, fun hq hroom => ?_, fun hq hfull => ?_⟩,
    fun r hf hr => ?_⟩
  · exact attemptSubstitution_unqualified hnew (Bool.eq_false_iff.mpr (mt hqualifies.mp hq))
  · exact attemptSubstitution_installs hnew (hqualifies.mpr hq) hroom
  · exact attemptSubstitution_full hnew (hqualifies.mpr hq) hfull
  · intro missed with'
    rw [countedMiss_of_record hf hr]
    refine ⟨fun h => if_neg ?_, fun hjam hlimit => ?_⟩
    · rintro ⟨hjam, hlimit⟩
      exact h.elim (fun hj => by simp [hj] at hjam) (Nat.not_lt.mpr hlimit)
    · intro t
      rw [if_pos ⟨hjam, hlimit⟩]
      exact ⟨fun hu => by rw [hu]; rfl, fun hu => by rw [hu]; rfl⟩

end

section
/-! PROOF. One millisecond, and the changes of the tension sensor and of the limit switches (R81, R135, R138). -/

namespace Sys2Proof.Machine

variable {s : State}

/-! ### The tension sensor (R81) -/

theorem exec_tensionBreak (h : s.tpc.tension = .normal) : exec .tensionBreak s =
    .next (post .tapeBreak none (s.updTpc ({ · with tension := .broken }))) := if_pos h

theorem exec_tensionBreak_again (h : s.tpc.tension = .broken) : exec .tensionBreak s = .next s :=
  if_neg (by rw [h]; decide)

/-! ### The limit switches (R135) -/

theorem exec_limitActive (h : s.tbc.limits = .released) : exec .limitActive s =
    .next (post .tableLimit none (haltTable (s.updTbc ({ · with limits := .active })))) := if_pos h

theorem exec_limitActive_again (h : s.tbc.limits = .active) : exec .limitActive s = .next s :=
  if_neg (by rw [h]; decide)

end Sys2Proof.Machine

open Sys2Proof Sys2Proof.Machine

/-- Settles O32: the tick block by block, each report by the state it finds. -/
theorem timeAndSensors : Obligations.TimeAndSensors := by
  unfold Obligations.TimeAndSensors
  refine ⟨fun s => ?_, fun s => ⟨exec_tensionBreak, exec_tensionBreak_again, rfl, exec_limitActive,
    exec_limitActive_again, rfl⟩⟩
  intro tick gap
  have htick : ∀ t : Timer, tick t = t.tick := fun t => by cases t <;> rfl
  have hgap : ∀ r : Receive, gap r = r.tick := fun r => by cases r <;> rfl
  simp only [htick, hgap]
  rfl

end

section
/-! PROOF. What ends a cycle, a SETUP or a homing early, in closed form (R84, R92, R97, R100, R102, R112, R125, R133). -/

namespace Sys2Proof.Machine

variable {s u v : State} {c : HeadCycle} {e : TapeEntry} {rest : List TapeEntry} {o : RecordOutcome}

/-! ### What the ends read -/

/-- `u` has what an end of the head reads or changes in the blocks it acts on as `s` has it. -/
structure HeadSame (s u : State) : Prop where
  hdc : u.hdc = s.hdc
  csu : u.csu = s.csu
  rrg : u.rrg = s.rrg
  tables : u.tables = s.tables
  tape : u.tpc.tape = s.tpc.tape
  panel : u.tbc.panel = s.tbc.panel
  current : u.tbc.current = s.tbc.current
  images : u.tbc.images = s.tbc.images
  cursor : u.tbc.cursor = s.tbc.cursor
  inPosition : u.tbc.inPosition = s.tbc.inPosition

theorem HeadSame.trans (h : HeadSame s u) (k : HeadSame u v) : HeadSame s v :=
  ⟨k.hdc.trans h.hdc, k.csu.trans h.csu, k.rrg.trans h.rrg, k.tables.trans h.tables, k.tape.trans h.tape,
    k.panel.trans h.panel, k.current.trans h.current, k.images.trans h.images, k.cursor.trans h.cursor,
    k.inPosition.trans h.inPosition⟩

theorem post_headSame (k : AlarmKind) (subject : Option Nat) (s : State) : HeadSame s (post k subject s) := by
  constructor <;> simp

theorem recompute_headSame (s : State) : HeadSame s (recompute s) := by
  constructor <;> simp

theorem HeadSame.knownBad (h : HeadSame s u) (panel : Byte) (n : Nat) :
    knownBad u.mode u.tbc panel n = knownBad s.mode s.tbc panel n := by
  simp only [Machine.knownBad, State.mode, surveyPassed, imageMarked, imageState, h.tables, h.panel, h.current, h.images, h.cursor]

/-! ### SETUP ends with no outcome (R84, R92, R101) -/

theorem retestFront_good (h : ∀ e rest, s.tpc.tape = e :: rest → knownBad s.mode s.tbc e.entry.panel e.entry.image = false) :
    retestFront s = s := by
  unfold retestFront
  split
  next => rfl
  next e rest htape => rw [h e rest htape]; rfl

theorem retestFront_bad (htape : s.tpc.tape = e :: rest)
    (hbad : knownBad s.mode s.tbc e.entry.panel e.entry.image = true) : retestFront s = { s with
      tpc := { s.tpc with tape := { e with discard := true } :: rest }
      tbc := { s.tbc with
        inPosition := if s.tbc.inPosition = .entry e.entry.uid then .none else s.tbc.inPosition } } := by
  simp only [retestFront, discardFront, htape, hbad]
  rfl

/-- R92, R101: HDC after SETUP has failed. -/
def Hdc.setupFailed (h : Hdc) (c : HeadCycle) : Hdc :=
  { h with
    head := .fault, timer := .stopped, cycle := none
    span := if c.spanDue = true then none else h.span
    rotate := if c.rotateDue = true then none else h.rotate }

theorem failSetup_eq (hc : s.hdc.cycle = some c) : failSetup s = retestFront { s with
    hdc := s.hdc.setupFailed c, out := { s.out with spanAxis := .halt, rotateAxis := .halt } } := by
  simp only [failSetup, hc]
  rfl

theorem failSetup_good (h : HeadSame s u) (hc : s.hdc.cycle = some c)
    (hgood : ∀ e rest, s.tpc.tape = e :: rest → knownBad s.mode s.tbc e.entry.panel e.entry.image = false) :
    failSetup u = { u with
      hdc := s.hdc.setupFailed c, out := { u.out with spanAxis := .halt, rotateAxis := .halt } } := by
  rw [failSetup_eq (h.hdc ▸ hc), h.hdc, retestFront_good]
  exact fun e rest htape => (h.knownBad _ _).trans (hgood e rest (h.tape ▸ htape))

theorem failSetup_bad (h : HeadSame s u) (hc : s.hdc.cycle = some c) (htape : s.tpc.tape = e :: rest)
    (hbad : knownBad s.mode s.tbc e.entry.panel e.entry.image = true) : failSetup u = { u with
      hdc := s.hdc.setupFailed c, out := { u.out with spanAxis := .halt, rotateAxis := .halt }
      tpc := { u.tpc with tape := { e with discard := true } :: rest }
      tbc := { u.tbc with
        inPosition := if s.tbc.inPosition = .entry e.entry.uid then .none else s.tbc.inPosition } } := by
  rw [failSetup_eq (h.hdc ▸ hc), h.hdc, retestFront_bad (e := e) (rest := rest)]
  · simp only [h.inPosition]
  · exact h.tape.trans htape
  · exact (h.knownBad _ _).trans hbad

/-! ### Homing fails (R102) -/

/-- R102: HDC after homing has failed. -/
def Hdc.homingFailed (h : Hdc) : Hdc :=
  { h with head := .fault, timer := .stopped, span := none, rotate := none, clear := false }

theorem failHoming_eq (h : HeadSame s u) : failHoming u = { u with
    hdc := s.hdc.homingFailed, out := { u.out with cam := .halt, spanAxis := .halt, rotateAxis := .halt } } := by
  rw [← h.hdc]
  rfl

/-! ### An entry leaves the head with its outcome (R82, R83, R97, R125, R133) -/

theorem leaveFront_cons (htape : s.tpc.tape = e :: rest) : leaveFront s = { s with
    tpc := { s.tpc with tape := rest }
    csq := { s.csq with seq := heldOf s.alc.effective (festoonFull s.tables rest) s.csq.seq }
    tbc := { s.tbc with
      inPosition := if s.tbc.inPosition = .entry e.entry.uid then .none else s.tbc.inPosition } } := by
  simp only [leaveFront, htape]
  rfl

/-- R97 step 3, R100: the outcome counted once. -/
def Hdc.counted (h : Hdc) (o : RecordOutcome) : Hdc :=
  { h with
    inserted := h.inserted + (if o = .inserted then 1 else 0)
    dumped := h.dumped + (if o = .dumped then 1 else 0)
    lost := h.lost + (if o = .lost then 1 else 0)
    aborted := h.aborted + (if o = .aborted then 1 else 0) }

theorem countOutcome_eq (o : RecordOutcome) (s : State) : countOutcome o s = s.updHdc (·.counted o) := by
  cases o <;> simp [countOutcome, Hdc.counted]

/-- R125: the image records after TBC has been told that an entry is finished. -/
def Tbc.told (b : Tbc) (o : RecordOutcome) (e : Entry) : List ImageRecord :=
  if e.panel ≠ b.current then b.images
  else b.images.modify (e.image - 1) (fun r => { r with
    inserted := if o = .inserted then satInc 65535 r.inserted else r.inserted
    faults := if o = .aborted then satInc 255 r.faults else r.faults })

theorem finishNotice_eq (o : RecordOutcome) (e : Entry) (s : State) :
    finishNotice o e s = { s with tbc := { s.tbc with images := s.tbc.told o e } } := by
  unfold finishNotice Tbc.told
  by_cases hcurrent : e.panel = s.tbc.current
  · rw [if_pos hcurrent, if_neg (not_not_intro hcurrent)]
    cases o <;> rfl
  · rw [if_neg hcurrent, if_pos hcurrent]

/-- R97 step 4: the record of an entry's end. -/
def Rrg.ended (g : Rrg) (o : RecordOutcome) (c : HeadCycle) (e : TapeEntry) : Rrg :=
  g.write ⟨o, e.entry.step, e.entry.panel, e.entry.image, e.entry.component, e.captured.station,
    if o = .inserted then signatureOf c else none⟩

theorem finishEntry_eq (o : RecordOutcome) (he : c.entry = some e) (htape : s.tpc.tape = e :: rest) :
    finishEntry o c s = { s with
      hdc := s.hdc.counted o
      tpc := { s.tpc with tape := rest }
      csq := { s.csq with seq := heldOf s.alc.effective (festoonFull s.tables rest) s.csq.seq }
      rrg := s.rrg.ended o c e
      tbc := { s.tbc with
        inPosition := if s.tbc.inPosition = .entry e.entry.uid then .none else s.tbc.inPosition
        images := s.tbc.told o e.entry } } := by
  simp only [finishEntry, he, finishNotice_eq, countOutcome_eq, leaveFront_cons htape]
  rfl

/-! ### A cycle is aborted (R100, R112) -/

/-- HDC in FAULT with no cycle. -/
def Hdc.faulted (h : Hdc) : Hdc := { h with head := .fault, timer := .stopped, cycle := none }

/-- R112: the window is closed without a verdict. -/
def Csu.abandoned (c : Csu) : Csu := { c with window := none, silence := .stopped }

theorem abortCycle_entry (h : HeadSame s u) (he : c.entry = some e) (hk : c.kind ≠ .freeDump)
    (htape : s.tpc.tape = e :: rest) (ho : o = abortOutcome s.hdc.head c.kind) : abortCycle c u = { u with
      hdc := s.hdc.faulted.counted o
      csu := s.csu.abandoned
      out := { u.out with cam := .halt, conversions := false }
      tpc := { u.tpc with tape := rest }
      csq := { u.csq with seq := heldOf u.alc.effective (festoonFull s.tables rest) u.csq.seq }
      rrg := s.rrg.ended o c e
      tbc := { u.tbc with
        inPosition := if s.tbc.inPosition = .entry e.entry.uid then .none else s.tbc.inPosition
        images := s.tbc.told o e.entry } } := by
  have hcycle : endCycleWith o c (shutWindow u) = finishEntry o c (shutWindow u) := by
    unfold endCycleWith
    split
    next hfree => exact absurd hfree hk
    next => rfl
  have hend := hcycle.trans (finishEntry_eq o he (s := shutWindow u) (h.tape.trans htape))
  have htold : u.tbc.told o e.entry = s.tbc.told o e.entry := by simp only [Tbc.told, h.current, h.images]
  rw [abortCycle, h.hdc, ← ho]
  simp only [hend, ← h.hdc, ← h.csu, ← h.rrg, ← h.tables, ← h.inPosition, ← htold]
  rfl

theorem abortCycle_free (h : HeadSame s u) (hk : c.kind = .freeDump) : abortCycle c u = { u with
    hdc := { s.hdc.faulted with skip := false }
    csu := s.csu.abandoned
    out := { u.out with cam := .halt, conversions := false } } := by
  have hend : endCycleWith (abortOutcome u.hdc.head c.kind) c (shutWindow u) =
      (shutWindow u).updHdc ({ · with skip := false }) := by rw [endCycleWith, hk]
  rw [abortCycle, hend, ← h.hdc, ← h.csu]
  simp only [State.updHdc, State.updOut, State.updCsu, shutWindow, Hdc.faulted, Csu.abandoned]

end Sys2Proof.Machine
end

section
/-! PROOF. The early ends of the head: by SPAN FAULT, by HEAD JAM and by the E-stop line (R89, R92, R100 to R102, R143, R145). -/

namespace Sys2Proof.Machine

variable {s u v : State} {c : HeadCycle} {o : RecordOutcome}

/-! ### The alarm of an early end (R142, R143) -/

theorem post_stands {k : AlarmKind} (hmap : s.alc.mapOf k = ⟨.stop, false⟩) (hroom : s.alc.stopCh.entries.length < 8) :
    (∃ a ∈ (post k none s).alc.stopCh.entries, a.kind = k ∧ a.subject = none)
    ∧ ((∀ a ∈ s.alc.stopCh.entries, ¬ (a.kind = k ∧ a.subject = none)) →
      (post k none s).alc.requested = .stop ∧ (post k none s).alc.effective = .stop) := by
  refine ⟨post_holds hmap hroom, fun hnew => post_appends_level hmap ?_ hroom⟩
  rintro ⟨a, ha, hsame⟩
  exact hnew a ha hsame

/-! ### The phases a cycle can be aborted in (R100) -/

/-- R100: the phase, the kind of the cycle, and the outcome its entry ends with. -/
def abortPhases : List (HeadState × CycleKind × RecordOutcome) :=
  [(.cut, .insert, .lost), (.cut, .dump, .lost), (.form, .insert, .lost), (.form, .dump, .lost),
   (.drive, .insert, .aborted), (.clinch, .insert, .aborted), (.eject, .insert, .dumped), (.eject, .dump, .dumped),
   (.retract, .insert, .inserted), (.retract, .dump, .dumped)]

theorem abortPhases_outcome {p : HeadState} {k : CycleKind} (h : (p, k, o) ∈ abortPhases) :
    p.camPhase = true ∧ o = abortOutcome p k := by
  have hall : ∀ x ∈ abortPhases, x.1.camPhase = true ∧ x.2.2 = abortOutcome x.1 x.2.1 := by decide
  exact hall _ h

theorem abortPhases_estop {p : HeadState} {k : CycleKind} (h : (p, k, o) ∈ (.waitTable, .insert, .aborted) :: abortPhases) :
    (p.camPhase || p == .waitTable) = true ∧ o = abortOutcome p k := by
  rcases List.mem_cons.mp h with heq | hmem
  · cases heq
    exact ⟨rfl, rfl⟩
  · obtain ⟨hcam, ho⟩ := abortPhases_outcome hmem
    exact ⟨by rw [hcam]; rfl, ho⟩

/-- R103: the phases of a free dump. -/
theorem freePhases_cam {p : HeadState} (h : p ∈ [HeadState.cut, .form, .eject, .retract]) : p.camPhase = true := by
  have hall : ∀ p ∈ [HeadState.cut, .form, .eject, .retract], p.camPhase = true := by decide
  exact hall p h

/-! ### The timer has run out (R89, R92) -/

theorem exec_spanFault (htimer : s.hdc.timer = .running 0) (hhead : s.hdc.head = .setup) :
    exec .spanFault s = .next (failSetup (post .spanFault none s)) := if_pos ⟨hhead, by rw [htimer]; rfl⟩

theorem exec_phaseTimeout_cam (htimer : s.hdc.timer = .running 0) (hc : s.hdc.cycle = some c)
    (hcam : s.hdc.head.camPhase = true) : exec .phaseTimeout s = .next (abortCycle c (post .headJam none s)) := by
  change execPhaseTimeout s = _
  rw [execPhaseTimeout, if_pos (by rw [htimer]; rfl), hc]
  cases hhead : s.hdc.head <;> simp_all [HeadState.camPhase]

theorem exec_phaseTimeout_homing (htimer : s.hdc.timer = .running 0) (hhead : s.hdc.head = .homing) :
    exec .phaseTimeout s = .next (failHoming (post .headJam none s)) := by
  change execPhaseTimeout s = _
  rw [execPhaseTimeout, if_pos (by rw [htimer]; rfl), hhead]

/-! ### What the E-stop line does to the head (R100 to R102) -/

theorem estopHead_setup (h : u.hdc.head = .setup) : estopHead u = failSetup u := by
  rw [estopHead, h]

theorem estopHead_homing (h : u.hdc.head = .homing) : estopHead u = failHoming u := by
  rw [estopHead, h]

theorem estopHead_cycle (hc : u.hdc.cycle = some c) (h : (u.hdc.head.camPhase || u.hdc.head == .waitTable) = true) :
    estopHead u = abortCycle c u := by
  rw [estopHead, hc]
  cases hhead : u.hdc.head <;> simp_all [HeadState.camPhase]

theorem estopHead_rest (h : u.hdc.head = .idle ∨ u.hdc.head = .fault) : estopHead u = u := by
  unfold estopHead
  rcases h with h | h <;> rw [h] <;> cases u.hdc.cycle <;> rfl

/-! ### The other blocks under the E-stop line (R44, R80, R128, R136) -/

/-- `v` differs from `u` in what the line suspends before the head acts, in the in-position record and in the commands on
the lines. -/
def SuspendedFrom (u v : State) : Prop :=
  v = { u with
    csq := { u.csq with stepTimer := v.csq.stepTimer }
    tpc := { u.tpc with transfer := v.tpc.transfer, timer := v.tpc.timer }
    tbc := { u.tbc with inPosition := v.tbc.inPosition }
    out := v.out }

theorem SuspendedFrom.halted (h : SuspendedFrom u v) : HaltedByEstop u (estopTable v) := by
  have hhalts := estopTable_halts v
  unfold HaltedByEstop at hhalts ⊢
  rw [h] at hhalts ⊢
  exact hhalts

/-- The state in which the chain and the taper have acted on the line, before the head does. -/
def estopSuspended (s : State) : State := estopTransfer (estopStep (estopTold s))

theorem estopSuspended_shape (s : State) : ∃ a x t out, estopSuspended s = { estopTold s with
    csq := { (estopTold s).csq with stepTimer := a }
    tpc := { (estopTold s).tpc with transfer := x, timer := t }, out := out } := by
  obtain ⟨a, out, hstep⟩ := estopStep_shape (estopTold s)
  obtain ⟨x, t, out', htransfer⟩ := estopTransfer_shape (estopStep (estopTold s))
  exact ⟨a, x, t, out', by rw [estopSuspended, htransfer, hstep]⟩

theorem estopSuspended_headSame (s : State) : HeadSame s (estopSuspended s) := by
  have hposted : HeadSame s (post .estop none (s.updAlc ({ · with estop := .asserted }))) :=
    HeadSame.trans (u := s.updAlc _) ⟨rfl, rfl, rfl, rfl, rfl, rfl, rfl, rfl, rfl, rfl⟩ (post_headSame .estop none _)
  have htold : HeadSame s (estopTold s) := hposted.trans (recompute_headSame _)
  obtain ⟨a, x, t, out, hshape⟩ := estopSuspended_shape s
  rw [hshape]
  exact htold.trans ⟨rfl, rfl, rfl, rfl, rfl, rfl, rfl, rfl, rfl, rfl⟩

theorem estopped_eq (s : State) : estopped s = estopTable (estopHead (estopSuspended s)) := rfl

/-- The table's end of the move leaves the head's lines and the conversions. -/
theorem estopTable_out (u : State) : (estopTable u).out =
    { u.out with tableAxes := .halt, handler := (estopTable u).out.handler } := by
  unfold estopTable
  dsimp only []
  split <;> rfl

/-! ### Each early end under the E-stop line (R84, R100 to R102, R112) -/

theorem estopped_entry {e : TapeEntry} {rest : List TapeEntry} (hc : s.hdc.cycle = some c) (he : c.entry = some e)
    (hk : c.kind ≠ .freeDump) (htape : s.tpc.tape = e :: rest)
    (hphase : (s.hdc.head, c.kind, o) ∈ (.waitTable, .insert, .aborted) :: abortPhases) :
    (estopped s).out.cam = .halt ∧ (estopped s).out.conversions = false
    ∧ HaltedByEstop { estopTold s with
        hdc := s.hdc.faulted.counted o
        csu := s.csu.abandoned
        tpc := { (estopTold s).tpc with tape := rest }
        csq := { (estopTold s).csq with
          seq := heldOf (estopTold s).alc.effective (festoonFull s.tables rest) (estopTold s).csq.seq }
        rrg := s.rrg.ended o c e
        tbc := { (estopTold s).tbc with images := s.tbc.told o e.entry } } (estopped s) := by
  obtain ⟨hacts, ho⟩ := abortPhases_estop hphase
  have hsame := estopSuspended_headSame s
  have hend : estopHead (estopSuspended s) = _ :=
    (estopHead_cycle (hsame.hdc ▸ hc) (hsame.hdc ▸ hacts)).trans (abortCycle_entry hsame he hk htape ho)
  obtain ⟨a, x, t, out, hshape⟩ := estopSuspended_shape s
  rw [estopped_eq, hend, estopTable_out, hshape]
  generalize estopTold s = p
  exact ⟨rfl, rfl, SuspendedFrom.halted rfl⟩

theorem estopped_free (hc : s.hdc.cycle = some c) (hk : c.kind = .freeDump)
    (hphase : s.hdc.head ∈ [HeadState.cut, .form, .eject, .retract]) :
    (estopped s).out.cam = .halt ∧ (estopped s).out.conversions = false
    ∧ HaltedByEstop { estopTold s with hdc := { s.hdc.faulted with skip := false }, csu := s.csu.abandoned }
        (estopped s) := by
  have hsame := estopSuspended_headSame s
  have hacts : (s.hdc.head.camPhase || s.hdc.head == .waitTable) = true := by rw [freePhases_cam hphase]; rfl
  have hend : estopHead (estopSuspended s) = _ :=
    (estopHead_cycle (hsame.hdc ▸ hc) (hsame.hdc ▸ hacts)).trans (abortCycle_free hsame hk)
  obtain ⟨a, x, t, out, hshape⟩ := estopSuspended_shape s
  rw [estopped_eq, hend, estopTable_out, hshape]
  generalize estopTold s = p
  exact ⟨rfl, rfl, SuspendedFrom.halted rfl⟩

theorem estopped_setup_good (hhead : s.hdc.head = .setup) (hc : s.hdc.cycle = some c)
    (hgood : ∀ e rest, s.tpc.tape = e :: rest → knownBad s.mode s.tbc e.entry.panel e.entry.image = false) :
    ((estopped s).out.spanAxis = .halt ∧ (estopped s).out.rotateAxis = .halt)
    ∧ HaltedByEstop { estopTold s with hdc := s.hdc.setupFailed c } (estopped s) := by
  have hsame := estopSuspended_headSame s
  have hend : estopHead (estopSuspended s) = _ :=
    (estopHead_setup (hsame.hdc ▸ hhead)).trans (failSetup_good hsame hc hgood)
  obtain ⟨a, x, t, out, hshape⟩ := estopSuspended_shape s
  rw [estopped_eq, hend, estopTable_out, hshape]
  generalize estopTold s = p
  exact ⟨⟨rfl, rfl⟩, SuspendedFrom.halted rfl⟩

theorem estopped_setup_bad {e : TapeEntry} {rest : List TapeEntry} (hhead : s.hdc.head = .setup)
    (hc : s.hdc.cycle = some c) (htape : s.tpc.tape = e :: rest)
    (hbad : knownBad s.mode s.tbc e.entry.panel e.entry.image = true) :
    ((estopped s).out.spanAxis = .halt ∧ (estopped s).out.rotateAxis = .halt)
    ∧ HaltedByEstop { estopTold s with
        hdc := s.hdc.setupFailed c
        tpc := { (estopTold s).tpc with tape := { e with discard := true } :: rest } } (estopped s) := by
  have hsame := estopSuspended_headSame s
  have hend : estopHead (estopSuspended s) = _ :=
    (estopHead_setup (hsame.hdc ▸ hhead)).trans (failSetup_bad hsame hc htape hbad)
  obtain ⟨a, x, t, out, hshape⟩ := estopSuspended_shape s
  rw [estopped_eq, hend, estopTable_out, hshape]
  generalize estopTold s = p
  exact ⟨⟨rfl, rfl⟩, SuspendedFrom.halted rfl⟩

theorem estopped_homing (hhead : s.hdc.head = .homing) :
    (estopped s).out.cam = .halt
    ∧ ((estopped s).out.spanAxis = .halt ∧ (estopped s).out.rotateAxis = .halt)
    ∧ HaltedByEstop { estopTold s with hdc := s.hdc.homingFailed } (estopped s) := by
  have hsame := estopSuspended_headSame s
  have hend : estopHead (estopSuspended s) = _ :=
    (estopHead_homing (hsame.hdc ▸ hhead)).trans (failHoming_eq hsame)
  obtain ⟨a, x, t, out, hshape⟩ := estopSuspended_shape s
  rw [estopped_eq, hend, estopTable_out, hshape]
  generalize estopTold s = p
  exact ⟨rfl, ⟨rfl, rfl⟩, SuspendedFrom.halted rfl⟩

theorem estopped_rest (hhead : s.hdc.head = .idle ∨ s.hdc.head = .fault) :
    HaltedByEstop (estopTold s) (estopped s) := by
  obtain ⟨a, x, t, out, hshape⟩ := estopSuspended_shape s
  rw [estopped_eq, estopHead_rest ((estopSuspended_headSame s).hdc ▸ hhead), hshape]
  generalize estopTold s = p
  exact SuspendedFrom.halted rfl

end Sys2Proof.Machine

open Sys2Proof Sys2Proof.Machine

/-- Settles O50: each early end after the post of its alarm, and after the E-stop line's. -/
theorem headAborts : Obligations.HeadAborts := by
  unfold Obligations.HeadAborts
  intro s stands faulted afterSetup afterHoming counted recorded told abandoned phases
  refine ⟨fun htimer => ⟨post_stands, post_stands, fun c hhead hc => ⟨fun hgood => ?_, fun e rest htape hbad => ?_⟩,
    fun c e rest o hc he hk htape hphase => ?_, fun c hc hk hphase => ?_, fun hhead => ?_⟩, fun hreleased => ?_⟩
  · rw [exec_spanFault htimer hhead, failSetup_good (post_headSame _ _ s) hc hgood]
    rfl
  · rw [exec_spanFault htimer hhead, failSetup_bad (post_headSame _ _ s) hc htape hbad]
    rfl
  · obtain ⟨hcam, ho⟩ := abortPhases_outcome hphase
    rw [exec_phaseTimeout_cam htimer hc hcam, abortCycle_entry (post_headSame _ _ s) he hk htape ho]
    rfl
  · rw [exec_phaseTimeout_cam htimer hc (freePhases_cam hphase), abortCycle_free (post_headSame _ _ s) hk]
    rfl
  · rw [exec_phaseTimeout_homing htimer hhead, failHoming_eq (post_headSame _ _ s)]
    rfl
  · have hexec := exec_estopAsserted hreleased
    intro posted camHalts axesHalt
    have htold : estopTold s = posted := rfl
    clear_value posted
    subst htold
    exact ⟨fun c e rest o hc he hk htape hphase => ⟨_, hexec, estopped_entry hc he hk htape hphase⟩,
      fun c hc hk hphase => ⟨_, hexec, estopped_free hc hk hphase⟩,
      fun c hhead hc => ⟨fun hgood => ⟨_, hexec, estopped_setup_good hhead hc hgood⟩,
        fun e rest htape hbad => ⟨_, hexec, estopped_setup_bad hhead hc htape hbad⟩⟩,
      fun hhead => ⟨_, hexec, estopped_homing hhead⟩, fun hhead => ⟨_, hexec, estopped_rest hhead⟩⟩

end

section
/-! PROOF. The head's cycles and homing start, and the Skip button (R91, R92, R95, R102, R103, R133). -/

namespace Sys2Proof.Machine

variable {s : State} {e : TapeEntry} {rest : List TapeEntry}

/-! ### What a start needs (R91, R95, R103) -/

theorem imageMarked_iff (b : Tbc) (n : Nat) : imageMarked b n = true ↔ imageState b n ≠ .good := bne_iff_ne

theorem imageMarked_of_good {b : Tbc} {n : Nat} (h : imageState b n = .good) : imageMarked b n = false := by
  rw [imageMarked, h]
  rfl

theorem headMayCycle_iff : headMayCycle s = true ↔
    s.hdc.head = .idle ∧ s.alc.effective = .run ∧ s.tpc.verified = true := by
  simp [headMayCycle, and_assoc]

theorem insertMayStart_iff : insertMayStart s e = true ↔
    headMayCycle s = true ∧ s.hdc.skip = false ∧ e.discard = false ∧ e.entry.panel = s.tbc.current
      ∧ s.tbc.panel = .ready ∧ imageState s.tbc e.entry.image = .good := by
  simp [insertMayStart, imageMarked, and_assoc]

/-! ### Cycles start -/

/-- R91, R95, R103: a cycle starts in CUT. -/
def startCut (k : CycleKind) (e : Option TapeEntry) (s : State) : State :=
  enterPhase .cut (s.updHdc ({ · with cycle := some (newCycle k e) }))

theorem exec_insertCycleStart_cut (htape : s.tpc.tape = e :: rest) (hmay : insertMayStart s e = true)
    (hspan : s.hdc.span = some e.captured.span) (hrotate : s.hdc.rotate = some e.entry.orientation) :
    exec .insertCycleStart s = .next (startCut .insert (some e) s) := by
  change execInsertCycleStart s = _
  simp only [execInsertCycleStart, htape]
  rw [if_pos hmay, if_pos ⟨hspan, hrotate⟩]
  rfl

theorem exec_insertCycleStart_setup (htape : s.tpc.tape = e :: rest) (hmay : insertMayStart s e = true)
    (hdiffer : s.hdc.span ≠ some e.captured.span ∨ s.hdc.rotate ≠ some e.entry.orientation) :
    exec .insertCycleStart s = .next (enterSetup e s) := by
  change execInsertCycleStart s = _
  simp only [execInsertCycleStart, htape]
  rw [if_pos hmay, if_neg (not_and_or.mpr hdiffer)]

/-- R92: SETUP with each axis by whether it stands right. -/
theorem enterSetup_eq (e : TapeEntry) (s : State) : enterSetup e s = { s with
    hdc := { s.hdc with
      head := .setup, timer := .running s.tables.constants.axisTimeout
      cycle := some ⟨.insert, some e, false, none, none, decide (s.hdc.span ≠ some e.captured.span),
        decide (s.hdc.rotate ≠ some e.entry.orientation)⟩ }
    out := { s.out with
      spanAxis := if s.hdc.span ≠ some e.captured.span then .target e.captured.span else s.out.spanAxis
      rotateAxis := if s.hdc.rotate ≠ some e.entry.orientation
        then .target (if e.entry.orientation = .deg0 then 0 else 90) else s.out.rotateAxis } } := by
  have hspan : (s.hdc.span != some e.captured.span) = decide (s.hdc.span ≠ some e.captured.span) := by
    simp only [← bne_iff_ne, Bool.decide_eq_true]
  have hrotate : (s.hdc.rotate != some e.entry.orientation) = decide (s.hdc.rotate ≠ some e.entry.orientation) := by
    simp only [← bne_iff_ne, Bool.decide_eq_true]
  simp only [enterSetup, hspan, hrotate, decide_eq_true_eq]
  cases e.entry.orientation <;> rfl

theorem exec_dumpCycleStart (htape : s.tpc.tape = e :: rest) (hmay : headMayCycle s = true)
    (hskip : s.hdc.skip = false) (hdiscard : e.discard = true) :
    exec .dumpCycleStart s = .next (startCut .dump (some e) s) := by
  change execDumpCycleStart s = _
  simp only [execDumpCycleStart, htape, hmay, hskip, hdiscard]
  rfl

/-! ### The Skip button (R103, R133) -/

theorem discardFront_cons (htape : s.tpc.tape = e :: rest) : discardFront s = { s with
    tpc := { s.tpc with tape := { e with discard := true } :: rest }
    tbc := { s.tbc with
      inPosition := if s.tbc.inPosition = .entry e.entry.uid then .none else s.tbc.inPosition } } := by
  simp only [discardFront, htape]
  rfl

theorem exec_skipButton_ignored (h : s.hdc.head ≠ .idle ∨ s.alc.effective = .run ∨ s.mode = .sequenceOnly
    ∨ (s.mode = .sequenceInsert ∧ s.tpc.tape = [])) : exec .skipButton s = .next s := by
  change execSkipButton s = _
  unfold execSkipButton
  split
  next hmay =>
    obtain ⟨hidle, hlevel⟩ := hmay
    rcases h with hhead | hrun | hmode | ⟨hmode, htape⟩
    · exact absurd hidle hhead
    · exact absurd hrun hlevel
    · rw [hmode]
    · simp only [hmode, discardFront, htape]
  next => rfl

/-- R103: with the head IDLE below RUN the button acts as the mode says. -/
theorem exec_skipButton (hidle : s.hdc.head = .idle) (hlevel : s.alc.effective ≠ .run) :
    (s.mode = .insertOnly → exec .skipButton s = .next (s.updHdc ({ · with skip := true })))
    ∧ (s.mode = .sequenceInsert → exec .skipButton s = .next (discardFront s)) := by
  change (_ → execSkipButton s = _) ∧ (_ → execSkipButton s = _)
  rw [execSkipButton, if_pos ⟨hidle, hlevel⟩]
  exact ⟨fun hmode => by rw [hmode], fun hmode => by rw [hmode]⟩

end Sys2Proof.Machine

open Sys2Proof Sys2Proof.Machine

/-- Settles O47: each start by the conditions it asks for, the button by the mode. -/
theorem headStarts : Obligations.HeadStarts := by
  unfold Obligations.HeadStarts
  intro s ready cut
  refine ⟨fun e rest htape hready hskip hdiscard hpanel hpanelReady himage => ?_,
    fun e rest htape hready hskip hdiscard => exec_dumpCycleStart htape (headMayCycle_iff.mpr hready) hskip hdiscard,
    fun hmode hready hskip => if_pos ⟨hmode, headMayCycle_iff.mpr hready, hskip⟩,
    fun hfault hrun => if_pos ⟨hfault, hrun⟩, exec_skipButton_ignored,
    fun hidle hlevel hmode => (exec_skipButton hidle hlevel).1 hmode, fun e rest hidle hlevel hmode htape => ?_⟩
  · have hmay : insertMayStart s e = true :=
      insertMayStart_iff.mpr ⟨headMayCycle_iff.mpr hready, hskip, hdiscard, hpanel, hpanelReady, himage⟩
    refine ⟨fun hspan hrotate => ?_, fun hdiffer => ?_⟩
    · exact exec_insertCycleStart_cut htape hmay (not_not.mp hspan) (not_not.mp hrotate)
    · rw [exec_insertCycleStart_setup htape hmay hdiffer, enterSetup_eq]
  · rw [(exec_skipButton hidle hlevel).2 hmode, discardFront_cons htape]

end

section
/-! PROOF. The head's phases, one event after another, and what CSU is told at a clinch's begin (R89, R92, R94 to R96, R98, R109). -/

namespace Sys2Proof.Machine

variable {s : State} {c : HeadCycle} {e : TapeEntry}

/-! ### An axis reports (R92) -/

theorem exec_axisInPosition (axis : HeadAxis) (hsetup : s.hdc.head = .setup) (hc : s.hdc.cycle = some c)
    (he : c.entry = some e) :
    (c.due axis = true → exec (.axisInPosition axis) s = .next (axisReported axis c e s))
    ∧ (c.due axis = false → exec (.axisInPosition axis) s = .next s) := by
  change (_ → execAxisInPosition axis s = _) ∧ (_ → execAxisInPosition axis s = _)
  simp only [execAxisInPosition, hsetup, hc, he]
  exact ⟨fun hdue => if_pos hdue, fun hnot => if_neg (Bool.eq_false_iff.mp hnot)⟩

/-- The span axis has reported. -/
def spanReported (c : HeadCycle) (e : TapeEntry) (s : State) : State :=
  { s with hdc := { s.hdc with span := some e.captured.span, cycle := some { c with spanDue := false } } }

/-- The rotate axis has reported. -/
def rotateReported (c : HeadCycle) (e : TapeEntry) (s : State) : State :=
  { s with hdc := { s.hdc with rotate := some e.entry.orientation, cycle := some { c with rotateDue := false } } }

theorem axisReported_span (c : HeadCycle) (e : TapeEntry) (s : State) : axisReported .span c e s =
    if c.rotateDue = true then spanReported c e s else enterPhase .cut (spanReported c e s) := by
  simp only [axisReported, Bool.false_or]
  rfl

theorem axisReported_rotate (c : HeadCycle) (e : TapeEntry) (s : State) : axisReported .rotate c e s =
    if c.spanDue = true then rotateReported c e s else enterPhase .cut (rotateReported c e s) := by
  simp only [axisReported, Bool.or_false]
  rfl

/-! ### FORM_DONE and the DRIVE test (R94, R95, R98) -/

theorem exec_formDone_dump (hform : s.hdc.head = .form) (hc : s.hdc.cycle = some c) (hk : c.kind ≠ .insert) :
    exec .formDone s = .next (enterPhase .eject s) := by
  change execFormDone s = _
  simp only [execFormDone, hform, hc]
  split
  next hinsert _ => exact absurd hinsert hk
  next => rfl

theorem exec_formDone_insert (hform : s.hdc.head = .form) (hc : s.hdc.cycle = some c) (hk : c.kind = .insert)
    (he : c.entry = some e) : exec .formDone s = .next (driveTest e s) := by
  change execFormDone s = _
  simp only [execFormDone, hform, hc, hk, he]

/-- R94: the entry's panel is the current one, READY, and the table is in position for the entry. -/
def tableThere (s : State) (e : TapeEntry) : Prop :=
  e.entry.panel = s.tbc.current ∧ s.tbc.panel = .ready ∧ s.tbc.inPosition = .entry e.entry.uid

theorem driveTest_marked (h : imageState s.tbc e.entry.image ≠ .good) : driveTest e s = turnToDump s :=
  if_pos ((imageMarked_iff _ _).mpr h)

theorem driveTest_unmarked (h : imageState s.tbc e.entry.image = .good) :
    (tableThere s e → driveTest e s = enterDrive s) ∧ (¬ tableThere s e → driveTest e s = enterWaitTable s) := by
  rw [driveTest, imageMarked_of_good h]
  exact ⟨fun hthere => if_pos hthere, fun hnot => if_neg hnot⟩

theorem turnToDump_eq (hc : s.hdc.cycle = some c) : turnToDump s =
    enterPhase .eject { s with hdc := { s.hdc with cycle := some { c with kind := .dump } } } := by
  simp only [turnToDump, State.updHdc, hc, Option.map_some]

theorem enterDrive_eq (hc : s.hdc.cycle = some c) : enterDrive s =
    enterPhase .drive { s with hdc := { s.hdc with clear := false, cycle := some { c with driven := true } } } := by
  simp only [enterDrive, State.updHdc, hc, Option.map_some]

/-! ### The clinch (R96, R109, R111) -/

/-- R96: CLINCH with the clinch form sent. -/
def enterClinch (e : TapeEntry) (s : State) : State :=
  (enterPhase .clinch s).updOut ({ · with clinch := some e.captured.form })

theorem exec_driveDone (hdrive : s.hdc.head = .drive) (hc : s.hdc.cycle = some c) (he : c.entry = some e) :
    exec .driveDone s = .next (clinchBegin e (enterClinch e s)) := by
  change execDriveDone s = _
  simp only [execDriveDone, hdrive, hc, he]
  rfl

theorem clinchBegin_unchecked (hc : s.hdc.cycle = some c) (hskip : e.captured.checkSkip = true) :
    clinchBegin e s = { s with hdc := { s.hdc with
      cycle := some { c with verdict := some .unchecked, features := none } } } := by
  rw [clinchBegin, if_pos hskip]
  simp only [handVerdict, State.updHdc, hc, Option.map_some]

/-- R109: a window opens on copies of the entry's profile and of the profile's filter set. -/
theorem clinchBegin_opens {p : Profile} {f : FilterSet} (hcheck : e.captured.checkSkip = false)
    (hp : s.csu.profiles[e.captured.profile]? = some (some p)) (hf : s.csu.filters[p.filterSet]? = some f) :
    clinchBegin e s = { s with
      csu := { s.csu with
        silence := .running 2
        window := some ⟨e.entry.step, e.entry.panel, e.entry.image, e.captured.profile, p, f, []⟩ }
      out := { s.out with conversions := true } } := by
  have hprofile : s.csu.profiles.getD e.captured.profile none = some p := by
    rw [List.getD_eq_getElem?_getD, hp, Option.getD_some]
  have hfilter : s.csu.filters.getD p.filterSet ⟨8192, 0, 0, 0, 0, true⟩ = f := by
    rw [List.getD_eq_getElem?_getD, hf, Option.getD_some]
  simp only [clinchBegin, hcheck, hprofile, State.updCsu, State.updOut, hfilter]
  rfl

theorem exec_clinchDone (hclinch : s.hdc.head = .clinch) :
    exec .clinchDone s = .next (enterPhase .retract (closeIfOpen s)) := if_pos hclinch

theorem closeIfOpen_none (h : s.csu.window = none) : closeIfOpen s = s := by
  rw [closeIfOpen, h]

theorem closeIfOpen_some {w : SampleWindow} (h : s.csu.window = some w) : closeIfOpen s = closeWindow w s := by
  rw [closeIfOpen, h]

end Sys2Proof.Machine

open Sys2Proof Sys2Proof.Machine

/-- Settles O48: each event by the phase it finds, and the DRIVE test by its three outcomes. -/
theorem headPhases : Obligations.HeadPhases := by
  unfold Obligations.HeadPhases
  intro s c e phase withCycle
  refine ⟨fun hsetup hc he => ?_, fun hcut => if_pos hcut, exec_formDone_dump, fun hform hc hk he => ?_,
    fun hdrive hc he => ?_, fun hclinch => ?_, fun heject => if_pos heject, fun hhoming => if_pos hhoming⟩
  · obtain ⟨hspan, hspanIgnored⟩ := exec_axisInPosition .span hsetup hc he
    obtain ⟨hrotate, hrotateIgnored⟩ := exec_axisInPosition .rotate hsetup hc he
    refine ⟨fun hdue => ?_, fun hdue => ?_, hspanIgnored, hrotateIgnored⟩
    · rw [hspan hdue, axisReported_span]
      rfl
    · rw [hrotate hdue, axisReported_rotate]
      rfl
  · rw [exec_formDone_insert hform hc hk he]
    refine ⟨fun hmarked => ?_, fun hgood hthere => ?_, fun hgood hnot => ?_⟩
    · rw [driveTest_marked hmarked, turnToDump_eq hc]
      rfl
    · rw [(driveTest_unmarked (not_not.mp hgood)).1 hthere, enterDrive_eq hc]
      rfl
    · rw [(driveTest_unmarked (not_not.mp hgood)).2 hnot]
      rfl
  · rw [exec_driveDone hdrive hc he]
    refine ⟨fun hskip => ?_, fun p f hcheck hp hf => ?_⟩
    · rw [clinchBegin_unchecked (s := enterClinch e s) hc hskip]
      rfl
    · rw [clinchBegin_opens (s := enterClinch e s) hcheck hp hf]
      rfl
  · rw [exec_clinchDone hclinch]
    refine ⟨fun hnone => ?_, fun w hopen => ?_⟩
    · rw [closeIfOpen_none hnone]
      rfl
    · rw [closeIfOpen_some hopen]

end

section
/-! PROOF. HEAD_UP ends a cycle (R82, R83, R97, R98, R103, R125, R133). -/

namespace Sys2Proof.Machine

variable {s : State} {c : HeadCycle} {e : TapeEntry} {rest : List TapeEntry}

/-! ### An outcome counted, and told to the image's record (R97 step 3, R125) -/

theorem Hdc.counted_inserted (h : Hdc) : h.counted .inserted = { h with inserted := h.inserted + 1 } := by
  simp [Hdc.counted]

theorem Hdc.counted_dumped (h : Hdc) : h.counted .dumped = { h with dumped := h.dumped + 1 } := by
  simp [Hdc.counted]

theorem Tbc.told_dumped (b : Tbc) (e : Entry) : b.told .dumped e = b.images := by
  unfold Tbc.told
  split
  next => rfl
  next => exact List.modify_id _ _

theorem Tbc.told_past {b : Tbc} {e : Entry} (o : RecordOutcome) (h : e.panel ≠ b.current) : b.told o e = b.images :=
  if_pos h

theorem Tbc.told_inserted {b : Tbc} {e : Entry} (h : e.panel = b.current) : b.told .inserted e =
    b.images.modify (e.image - 1) (fun r => { r with inserted := satInc 65535 r.inserted }) := if_neg (not_not_intro h)

/-! ### The event -/

theorem kindOutcome_insert : kindOutcome .insert = .inserted := rfl

theorem kindOutcome_dump : kindOutcome .dump = .dumped := rfl

/-- R97 step 5: HDC after the cycle `c` has ended. -/
def Hdc.cycleEnded (h : Hdc) (c : HeadCycle) : Hdc :=
  { h with clear := h.clear || c.driven, cycle := none, head := .idle, timer := .stopped }

theorem exec_headUp (hretract : s.hdc.head = .retract) (hc : s.hdc.cycle = some c) : exec .headUp s =
    .next (askPin ((endCycleWith (kindOutcome c.kind) c s).updHdc (·.cycleEnded c))) := by
  change execHeadUp s = _
  simp only [execHeadUp, hretract, hc]
  rfl

theorem endCycleWith_entry (o : RecordOutcome) (hk : c.kind ≠ .freeDump) : endCycleWith o c s = finishEntry o c s := by
  unfold endCycleWith
  split
  next hfree => exact absurd hfree hk
  next => rfl

/-- R97: the entry of an insert or a dump cycle leaves with the outcome of its kind. -/
theorem exec_headUp_entry (hretract : s.hdc.head = .retract) (hc : s.hdc.cycle = some c) (hk : c.kind ≠ .freeDump)
    (he : c.entry = some e) (htape : s.tpc.tape = e :: rest) : exec .headUp s = .next (askPin { s with
      hdc := (s.hdc.counted (kindOutcome c.kind)).cycleEnded c
      tpc := { s.tpc with tape := rest }
      csq := { s.csq with seq := heldOf s.alc.effective (festoonFull s.tables rest) s.csq.seq }
      rrg := s.rrg.ended (kindOutcome c.kind) c e
      tbc := { s.tbc with
        inPosition := if s.tbc.inPosition = .entry e.entry.uid then .none else s.tbc.inPosition
        images := s.tbc.told (kindOutcome c.kind) e.entry } }) := by
  rw [exec_headUp hretract hc, endCycleWith_entry _ hk, finishEntry_eq _ he htape]
  rfl

end Sys2Proof.Machine

open Sys2Proof Sys2Proof.Machine

/-- Settles O49: the end of the cycle by its kind, and the image's record by its panel. -/
theorem headUp : Obligations.HeadUp := by
  unfold Obligations.HeadUp
  intro s c hretract hc idle
  refine ⟨fun hfree => ?_, fun e rest he htape => ?_⟩
  · rw [exec_headUp hretract hc, endCycleWith, hfree]
    rfl
  intro left record
  have hup := fun hk => exec_headUp_entry hretract hc hk he htape
  refine ⟨fun hdump => ?_, fun hinsert => ?_⟩
  · rw [hup (by rw [hdump]; nofun), hdump, kindOutcome_dump, Tbc.told_dumped, Hdc.counted_dumped]
    rfl
  · intro g finished
    have hg : signatureOf c = g := by
      unfold signatureOf g
      rcases c.verdict with _ | v
      · rfl
      · cases v <;> cases c.features <;> rfl
    have hrecord : s.rrg.ended .inserted c e = record .inserted g := by rw [← hg]; rfl
    rw [hup (by rw [hinsert]; nofun), hinsert, kindOutcome_insert, hrecord, Hdc.counted_inserted]
    refine ⟨fun hpast => ?_, fun hcurrent => ?_⟩
    · rw [Tbc.told_past _ hpast]
      rfl
    · rw [Tbc.told_inserted hcurrent]
      rfl

end

section
/-! PROOF. The table's moves start, report in position and end out of order (R94, R129, R130, R132 to R134). -/

namespace Sys2Proof.Machine

variable {s : State} {c : HeadCycle} {e : TapeEntry} {p : Pattern} {x y : Int}

/-! ### Moves start (R129, R132) -/

theorem exec_surveyMoveStart {n : Nat} (hp : s.tbc.pattern = some p) (hn : s.tbc.cursor = some n)
    (hmay : s.tbc.panel = .survey ∧ s.tbc.move = none ∧ s.tbc.inPosition ≠ .image n ∧ s.alc.effective ≠ .stop
      ∧ s.alc.estop = .released ∧ s.hdc.clear = true) :
    exec .surveyMoveStart s = .next (startMove (.survey n) (p.markPosition n) s) := by
  change execSurveyMoveStart s = _
  simp only [execSurveyMoveStart, hp, hn]
  exact if_pos hmay

theorem isTarget_iff {b : Tbc} : isTarget b e = true ↔
    e.entry.panel = b.current ∧ e.discard = false ∧ imageState b e.entry.image = .good := by
  simp [isTarget, imageMarked, and_assoc]

/-- R132: the insert target is the first entry that qualifies. -/
theorem insertTarget_first {before after : List TapeEntry} (htape : s.tpc.tape = before ++ e :: after)
    (hbefore : ∀ x ∈ before, isTarget s.tbc x = false) (he : isTarget s.tbc e = true) : insertTarget s = some e := by
  have hnone : before.find? (isTarget s.tbc) = none :=
    List.find?_eq_none.mpr fun x hx => Bool.eq_false_iff.mp (hbefore x hx)
  rw [insertTarget, htape, List.find?_append, hnone, Option.none_or, List.find?_cons_of_pos he]

theorem exec_insertMoveStart (hp : s.tbc.pattern = some p) (htarget : insertTarget s = some e)
    (hmay : s.tbc.panel = .ready ∧ s.tbc.move = none ∧ s.tbc.inPosition ≠ .entry e.entry.uid ∧ s.alc.effective = .run
      ∧ s.alc.estop = .released ∧ s.hdc.clear = true) :
    exec .insertMoveStart s =
      .next (startMove (.insert e.entry.uid) (p.target e.entry.image e.entry.x e.entry.y) s) := by
  change execInsertMoveStart s = _
  simp only [execInsertMoveStart, hp, htarget]
  exact if_pos hmay

/-! ### An image is marked (R130) -/

theorem markImage_eq (n : Nat) (st : ImageState) (s : State) : markImage n st s = { s with
    tbc := { s.tbc with
      images := s.tbc.images.modify (n - 1) (fun r => { r with state := st })
      inPosition := if s.tpc.tape.any (fun e => (e.entry.panel == s.tbc.current && e.entry.image == n)
        && s.tbc.inPosition == .entry e.entry.uid) then .none else s.tbc.inPosition }
    pin := { s.pin with marks := s.pin.marks ++ [⟨s.tbc.current, n⟩] }
    csq := { s.csq with marks := s.csq.marks ++ [⟨s.tbc.current, n⟩] }
    tpc := { s.tpc with marks := s.tpc.marks ++ [⟨s.tbc.current, n⟩] }
    hdc := { s.hdc with marks := s.hdc.marks ++ [⟨s.tbc.current, n⟩] } } := by
  simp only [markImage, withdrawEntries_eq, List.any_filter]
  rfl

/-- R133: a report given for an image names no entry, and stands. -/
theorem markImage_atImage {m : Nat} (n : Nat) (st : ImageState) (h : s.tbc.inPosition = .image m) :
    markImage n st s = { s with
      tbc := { s.tbc with images := s.tbc.images.modify (n - 1) (fun r => { r with state := st }) }
      pin := { s.pin with marks := s.pin.marks ++ [⟨s.tbc.current, n⟩] }
      csq := { s.csq with marks := s.csq.marks ++ [⟨s.tbc.current, n⟩] }
      tpc := { s.tpc with marks := s.tpc.marks ++ [⟨s.tbc.current, n⟩] }
      hdc := { s.hdc with marks := s.hdc.marks ++ [⟨s.tbc.current, n⟩] } } := by
  have hnone : s.tpc.tape.any (fun e => (e.entry.panel == s.tbc.current && e.entry.image == n)
      && s.tbc.inPosition == .entry e.entry.uid) = false := by
    simp [h]
  rw [markImage_eq, hnone]
  rfl

/-! ### In position (R133) -/

/-- R133: the move has ended with the axes in position. -/
def moveEnded (s : State) : State := s.updTbc ({ · with move := none, moveTimer := .stopped })

/-- R129: the axes stand at the mark of image `n`. -/
def atImage (n : Nat) (s : State) : State := (moveEnded s).updTbc ({ · with inPosition := .image n })

theorem exec_inPosition_survey {n : Nat} (b : Bool) (hmove : s.tbc.move = some ⟨.survey n, x, y⟩) :
    exec (.inPosition b) s = .next (readMark b n (atImage n s)) := by
  change execInPosition b s = _
  simp only [execInPosition, hmove]
  rfl

/-! ### A survey image's mark is read (R129, R130) -/

/-- R129: the survey goes on after image `n`, or has passed the last one. -/
theorem surveyNext_eq (n : Nat) (s : State) : surveyNext n s = { s with tbc := { s.tbc with
    cursor := if n < s.tbc.images.length then some (n + 1) else none
    panel := if n < s.tbc.images.length then s.tbc.panel else .ready } } := by
  rw [surveyNext, State.updTbc]
  dsimp only
  split <;> rfl

/-- R130: image `n` is BAD, or stays as it was marked before (log 40). -/
def markedBad (n : Nat) (s : State) : State := if imageMarked s.tbc n = true then s else markImage n .bad s

theorem markedBad_tbc (n : Nat) (s : State) :
    (markedBad n s).tbc.images.length = s.tbc.images.length ∧ (markedBad n s).tbc.panel = s.tbc.panel := by
  unfold markedBad
  split
  · exact ⟨rfl, rfl⟩
  · rw [markImage_eq]
    exact ⟨List.length_modify .., rfl⟩

theorem readMark_absent (n : Nat) (s : State) : readMark false n s = surveyNext n s := rfl

/-- R129: the alarm posted leaves what the survey goes on with. -/
theorem readMark_present (n : Nat) (s : State) :
    let t := post .badImage (some n) (markedBad n s)
    readMark true n s = { t with tbc := { t.tbc with
      cursor := if n < s.tbc.images.length then some (n + 1) else none
      panel := if n < s.tbc.images.length then s.tbc.panel else .ready } } := by
  intro t
  obtain ⟨hlength, hpanel⟩ := markedBad_tbc n s
  have hread : readMark true n s = surveyNext n t := rfl
  have himages : t.tbc.images.length = s.tbc.images.length := by simp only [t, post_frame, hlength]
  have hposted : t.tbc.panel = s.tbc.panel := by simp only [t, post_frame, hpanel]
  rw [hread, surveyNext_eq, himages, hposted]

/-! ### In position for an entry (R94, R133) -/

/-- R133: the entry the axes report for is still wanted. -/
def entryWanted (uid : Nat) (s : State) : Prop :=
  ∃ e ∈ s.tpc.tape, e.entry.uid = uid ∧ e.discard = false ∧ imageState s.tbc e.entry.image = .good

theorem entryWanted_iff (uid : Nat) (s : State) :
    s.tpc.tape.any (fun e => e.entry.uid == uid && !e.discard && !imageMarked s.tbc e.entry.image) = true
      ↔ entryWanted uid s := by
  simp [entryWanted, imageMarked, and_assoc]

theorem exec_inPosition_insert {uid : Nat} (b : Bool) (hmove : s.tbc.move = some ⟨.insert uid, x, y⟩) :
    (entryWanted uid s → exec (.inPosition b) s = .next (reportInPosition uid (moveEnded s)))
    ∧ (¬ entryWanted uid s → exec (.inPosition b) s = .next (moveEnded s)) := by
  change (_ → execInPosition b s = _) ∧ (_ → execInPosition b s = _)
  simp only [execInPosition, hmove, ← entryWanted_iff]
  exact ⟨fun hwanted => if_pos hwanted, fun hnot => if_neg hnot⟩

theorem reportInPosition_elsewhere (uid : Nat) (h : s.hdc.head ≠ .waitTable) :
    reportInPosition uid s = s.updTbc ({ · with inPosition := .entry uid }) := by
  unfold reportInPosition
  split
  next hwait _ => exact absurd hwait h
  next => rfl

/-- R94: in WAIT_TABLE the report for the cycle's entry makes the DRIVE test. -/
theorem reportInPosition_waiting (hwait : s.hdc.head = .waitTable) (hc : s.hdc.cycle = some c)
    (he : c.entry = some e) : reportInPosition e.entry.uid s =
      driveTest e (s.updTbc ({ · with inPosition := .entry e.entry.uid })) := by
  simp only [reportInPosition, hwait, hc, Option.bind_some, he, if_true]

/-- R94: the table is there for an entry of an unmarked image of the current READY panel. -/
theorem reportInPosition_drives (hwait : s.hdc.head = .waitTable) (hc : s.hdc.cycle = some c) (he : c.entry = some e)
    (hgood : imageState s.tbc e.entry.image = .good) (hcurrent : e.entry.panel = s.tbc.current)
    (hready : s.tbc.panel = .ready) : reportInPosition e.entry.uid s = enterPhase .drive { s with
      tbc := { s.tbc with inPosition := .entry e.entry.uid }
      hdc := { s.hdc with clear := false, cycle := some { c with driven := true } } } := by
  have hdrive := (driveTest_unmarked (s := s.updTbc ({ · with inPosition := .entry e.entry.uid })) (e := e) hgood).1
    ⟨hcurrent, hready, rfl⟩
  exact (reportInPosition_waiting hwait hc he).trans (hdrive.trans (enterDrive_eq (s := s.updTbc _) hc))

end Sys2Proof.Machine

open Sys2Proof Sys2Proof.Machine

/-- Settles O54: the starts, the report at a survey image and for an entry, and the two ends with TABLE FOLLOW. -/
theorem tableMoves : Obligations.TableMoves := by
  unfold Obligations.TableMoves
  intro s p moves halted
  refine ⟨fun n hp hn hpanel hmove hplace hlevel hestop hclear =>
      exec_surveyMoveStart hp hn ⟨hpanel, hmove, hplace, hlevel, hestop, hclear⟩,
    fun before e after hp htape hbefore hcurrent hdiscard hgood hpanel hmove hplace hlevel hestop hclear => ?_,
    fun k x y hmove => ?_, rfl, fun hmove htimer => if_pos ⟨hmove, by rw [htimer]; rfl⟩⟩
  · have htarget : insertTarget s = some e := by
      refine insertTarget_first htape (fun x hx => ?_) (isTarget_iff.mpr ⟨hcurrent, hdiscard, hgood⟩)
      refine Bool.eq_false_iff.mpr fun h => ?_
      obtain ⟨hpanel, hkept, himage⟩ := isTarget_iff.mp h
      rcases hbefore x hx with hother | hgone | hmarked
      · exact hother hpanel
      · rw [hkept] at hgone
        contradiction
      · exact hmarked himage
    exact exec_insertMoveStart hp htarget ⟨hpanel, hmove, hplace, hlevel, hestop, hclear⟩
  · intro arrived next panelAfter
    refine ⟨fun n hk => ?_, fun uid b hk => ?_⟩
    · subst hk
      refine ⟨?_, fun _ => ?_⟩
      · rw [exec_inPosition_survey false hmove, readMark_absent, surveyNext_eq]
        rfl
      · intro read note marked t
        have hmarked : markedBad n (atImage n s) = marked := by
          by_cases hgood : imageState s.tbc n = .good
          · have hunmarked : imageMarked (atImage n s).tbc n = false := imageMarked_of_good hgood
            rw [markedBad, hunmarked, markImage_atImage (m := n) n .bad rfl]
            exact (if_pos hgood).symm
          · have hbad : imageMarked (atImage n s).tbc n = true := (imageMarked_iff _ _).mpr hgood
            exact (if_pos hbad).trans (if_neg hgood).symm
        rw [exec_inPosition_survey true hmove, readMark_present, hmarked]
        rfl
    · subst hk
      obtain ⟨hreport, hdrop⟩ := exec_inPosition_insert b hmove
      refine ⟨hdrop, fun hwanted hhead => ?_, fun c e hwanted hhead hc he huid hgood hcurrent hready => ?_⟩
      · rw [hreport hwanted, reportInPosition_elsewhere uid (s := moveEnded s) hhead]
        rfl
      · subst huid
        rw [hreport hwanted, reportInPosition_drives (s := moveEnded s) hhead hc he hgood hcurrent hready]
        rfl

end

section
/-! PROOF. The arithmetic of a signature: rounding, saturation, the filter, the features and the tests (R113 to R117). -/

namespace Sys2Proof.Machine

/-! ### Rounding and saturation (R114) -/

theorem round13_bounds (v : Int) : 8192 * round13 v ≤ v + 4096 ∧ v + 4096 < 8192 * round13 v + 8192 := by
  unfold round13
  omega

theorem saturate16_eq (v : Int) : saturate16 v = max (-32768) (min 32767 v) := by
  unfold saturate16
  split
  · omega
  · split <;> omega

theorem baselineOf_bounds (samples : List Nat) : 4 * baselineOf samples ≤ (samples.take 4).sum
    ∧ ((samples.take 4).sum : Int) < 4 * baselineOf samples + 4 := by
  unfold baselineOf
  omega

/-! ### The filter (R115) -/

/-- R115: the state values of the filter from the two before the first input on, the older one first. -/
def filterState (f : FilterSet) (w1 w2 : Int) : List Int → Nat → Int
  | _, 0 => w2
  | [], _ + 1 => w1
  | x :: rest, n + 1 => filterState f (saturate16 (round13 (8192 * x - f.a1 * w1 - f.a2 * w2))) w1 rest n

theorem filterState_zero (f : FilterSet) (w1 w2 : Int) (xs : List Int) : filterState f w1 w2 xs 0 = w2 := by
  cases xs <;> rfl

theorem filterState_one (f : FilterSet) (w1 w2 : Int) (xs : List Int) : filterState f w1 w2 xs 1 = w1 := by
  cases xs with
  | nil => rfl
  | cons x rest => exact filterState_zero f _ w1 rest

theorem filterFrom_length (f : FilterSet) (w1 w2 : Int) (xs : List Int) :
    (filterFrom f w1 w2 xs).length = xs.length := by
  induction xs generalizing w1 w2 with
  | nil => rfl
  | cons x rest ih => exact congrArg (· + 1) (ih _ _)

/-- R115: each state value comes of the input and the two before it, and each output of it and the same two. -/
theorem filterFrom_recursion (f : FilterSet) (w1 w2 : Int) {xs : List Int} {n : Nat} {x : Int} (hx : xs[n]? = some x) :
    let w := filterState f w1 w2 xs
    w (n + 2) = saturate16 (round13 (8192 * x - f.a1 * w (n + 1) - f.a2 * w n))
    ∧ (filterFrom f w1 w2 xs)[n]? =
      some (saturate16 (round13 (f.b0 * w (n + 2) + f.b1 * w (n + 1) + f.b2 * w n))) := by
  induction xs generalizing w1 w2 n with
  | nil => simp at hx
  | cons y rest ih =>
    cases n with
    | zero =>
      obtain rfl : y = x := by simpa using hx
      simp [filterState, filterState_zero, filterState_one, filterFrom]
    | succ n => exact ih _ _ (by simpa using hx)

theorem filtered_bypass {f : FilterSet} (h : f.bypass = true) (xs : List Int) : filtered f xs = xs := if_pos h

theorem filtered_active {f : FilterSet} (h : f.bypass = false) (xs : List Int) : filtered f xs = filterFrom f 0 0 xs :=
  if_neg (by simp [h])

theorem filtered_length (f : FilterSet) (xs : List Int) : (filtered f xs).length = xs.length := by
  unfold filtered
  split
  · rfl
  · exact filterFrom_length f 0 0 xs

/-! ### The features (R116) -/

theorem le_peakOf {ys : List Int} {y : Int} (h : y ∈ ys) : y ≤ peakOf ys := by
  induction ys with
  | nil => exact absurd h List.not_mem_nil
  | cons z rest ih =>
    cases rest with
    | nil => exact (List.mem_singleton.mp h).le
    | cons z' rest =>
      rcases List.mem_cons.mp h with rfl | hrest
      · exact le_max_left _ _
      · exact (ih hrest).trans (le_max_right _ _)

theorem peakOf_mem {ys : List Int} (h : ys ≠ []) : peakOf ys ∈ ys := by
  induction ys with
  | nil => exact absurd rfl h
  | cons z rest ih =>
    cases rest with
    | nil => exact List.mem_singleton.mpr rfl
    | cons z' rest =>
      rcases max_choice z (peakOf (z' :: rest)) with hmax | hmax
      · exact List.mem_cons.mpr (.inl hmax)
      · have hrest : peakOf (z :: z' :: rest) = peakOf (z' :: rest) := hmax
        exact List.mem_cons_of_mem z (hrest ▸ ih (List.cons_ne_nil _ _))

/-- R116: the index found is the first at which the value stands. -/
theorem findIdx_first {ys : List Int} {a : Int} (h : a ∈ ys) : ys[ys.findIdx (· == a)]? = some a
    ∧ ∀ i, i < ys.findIdx (· == a) → ys[i]? ≠ some a := by
  have hlt : ys.findIdx (· == a) < ys.length := List.findIdx_lt_length_of_exists ⟨a, h, beq_self_eq_true a⟩
  refine ⟨?_, fun i hi hget => ?_⟩
  · rw [List.getElem?_eq_getElem hlt, eq_of_beq (List.findIdx_getElem (w := hlt))]
  · obtain ⟨hbound, rfl⟩ := List.getElem?_eq_some_iff.mp hget
    simpa using List.not_of_lt_findIdx hi

theorem areaOf_eq (ys : List Int) : (areaOf ys : Int) = (ys.filter (fun y => decide (0 < y))).sum := by
  induction ys with
  | nil => rfl
  | cons y rest ih =>
    have hcons : areaOf (y :: rest) = y.toNat + areaOf rest := List.sum_cons
    rw [hcons, Nat.cast_add, ih, List.filter_cons]
    split
    next h => rw [List.sum_cons, Int.toNat_of_nonneg (of_decide_eq_true h).le]
    next h => rw [Int.toNat_of_nonpos (by simpa using h), Nat.cast_zero, zero_add]

theorem releaseOf_eq_none_iff (level : Int) (ys : List Int) :
    releaseOf level ys = none ↔ ys.countP (fun y => decide (level ≤ y)) = 0 := by
  simp only [releaseOf, List.getLast?_eq_none_iff, List.filter_eq_nil_iff, List.countP_eq_zero, List.mem_range,
    List.forall_mem_iff_getElem]
  refine forall₂_congr fun i hi => ?_
  rw [List.getD_eq_getElem _ _ hi]

/-- R116: at the release index the contact level is reached, and at no index after it. -/
theorem releaseOf_eq_some {level : Int} {ys : List Int} {n : Nat} (h : releaseOf level ys = some n) :
    (∃ y, ys[n]? = some y ∧ level ≤ y) ∧ ∀ i y, n < i → ys[i]? = some y → y < level := by
  obtain ⟨before, hsplit⟩ := List.getLast?_eq_some_iff.mp h
  have hmem : ∀ i, i ∈ before ++ [n] ↔ i < ys.length ∧ level ≤ ys.getD i 0 := by
    intro i
    rw [← hsplit, List.mem_filter, List.mem_range, decide_eq_true_iff]
  have hsorted : (before ++ [n]).Pairwise (· < ·) := hsplit ▸ List.pairwise_lt_range.filter _
  obtain ⟨hn, hlevel⟩ := (hmem n).mp (by simp)
  rw [List.getD_eq_getElem _ _ hn] at hlevel
  refine ⟨⟨ys[n], List.getElem?_eq_getElem hn, hlevel⟩, fun i y hi hget => ?_⟩
  obtain ⟨hbound, rfl⟩ := List.getElem?_eq_some_iff.mp hget
  refine lt_of_not_ge fun hge => ?_
  have hheld : i ∈ before ++ [n] := (hmem i).mpr ⟨hbound, by rwa [List.getD_eq_getElem _ _ hbound]⟩
  rcases List.mem_append.mp hheld with hbefore | hlast
  · obtain ⟨-, -, hlast⟩ := List.pairwise_append.mp hsorted
    exact absurd (hlast i hbefore n (List.mem_singleton.mpr rfl)) (Nat.lt_asymm hi)
  · exact absurd (List.mem_singleton.mp hlast) (Nat.ne_of_gt hi)

/-! ### The values of a window (R113, R115) -/

/-- R113, R115: the filtered samples of a window, less the baseline. -/
def windowValues (w : SampleWindow) : List Int :=
  filtered w.filter ((w.samples.drop 4).map (fun (c : Nat) => (c : Int) - baselineOf w.samples))

theorem windowValues_ne_nil {w : SampleWindow} (h : 5 ≤ w.samples.length) : windowValues w ≠ [] := by
  refine List.ne_nil_of_length_pos ?_
  rw [windowValues, filtered_length, List.length_map, List.length_drop]
  omega

theorem measure_eq (w : SampleWindow) : measure w = {
    baseline := baselineOf w.samples, saturated := w.samples.any (· == 4095), peak := peakOf (windowValues w)
    peakIndex := (windowValues w).findIdx (· == peakOf (windowValues w)), area := areaOf (windowValues w)
    contact := (windowValues w).countP (fun y => decide ((w.profile.contactLevel : Int) ≤ y))
    release := releaseOf w.profile.contactLevel (windowValues w) } := rfl

end Sys2Proof.Machine

open Sys2Proof Sys2Proof.Machine

/-- Settles O51: the filter by its states, the features by what each is of the window's values. -/
theorem signatureArithmetic : Obligations.SignatureArithmetic := by
  unfold Obligations.SignatureArithmetic
  refine ⟨round13_bounds, saturate16_eq, fun f xs h => filtered_bypass h xs, fun f xs h => ?_, fun w hw => ?_,
    fun p m => rfl⟩
  · rw [filtered_active h]
    exact ⟨filterFrom_length f 0 0 xs, filterState f 0 0 xs, filterState_zero f 0 0 xs, filterState_one f 0 0 xs,
      fun n x hx => filterFrom_recursion f 0 0 hx⟩
  · have hpeak := peakOf_mem (windowValues_ne_nil hw)
    obtain ⟨hbase, hbaseLt⟩ := baselineOf_bounds w.samples
    obtain ⟨hat, hfirst⟩ := findIdx_first hpeak
    rw [measure_eq]
    exact ⟨hbase, hbaseLt, by simp, hat, fun y => le_peakOf, hfirst, areaOf_eq _, List.countP_eq_length_filter,
      releaseOf_eq_none_iff _ _, fun n => releaseOf_eq_some⟩
end

section
/-! PROOF. Samples, and the close of a window: its verdict, the wear, the fault count and the alarms (R110, R111, R117 to
R121, R130, R144). -/

namespace Sys2Proof.Machine

variable {s u : State} {w : SampleWindow} {c : ChannelId} {k : AlarmKind} {subject : Option Nat}

/-! ### What a post leaves as it is, and the room it takes (R142, R147) -/

/-- R147: what a recomputation of the level commands is of the chain and the transfer; conversions go on as they were. -/
theorem recompute_conversions (s : State) : (recompute s).out.conversions = s.out.conversions := by
  obtain ⟨-, ⟨hstays, hleaves, -⟩, -⟩ := recompute_told s
  by_cases hl : s.alc.effective = .stop ∧ (recompute s).alc.effective ≠ .stop
  · obtain ⟨-, -, hresumed, hkept⟩ := hleaves hl
    by_cases hp : s.tpc.transfer.map Transfer.phase = some .suspended
    · obtain ⟨⟨op, phase⟩, htransfer, rfl⟩ := Option.map_eq_some_iff.mp hp
      obtain ⟨-, -, hout⟩ := hresumed op htransfer
      exact (congrArg Outputs.conversions hout).trans rfl
    · obtain ⟨-, -, hout⟩ := hkept hp
      exact (congrArg Outputs.conversions hout).trans rfl
  · obtain ⟨-, -, -, hout⟩ := hstays hl
    exact (congrArg Outputs.conversions hout).trans rfl

/-- `u` has the tables, the head's cycle and the state of the conversions as `s` has them. -/
structure Handed (s u : State) : Prop where
  tables : u.tables = s.tables
  cycle : u.hdc.cycle = s.hdc.cycle
  conversions : u.out.conversions = s.out.conversions

theorem Handed.refl (s : State) : Handed s s := ⟨rfl, rfl, rfl⟩

theorem Handed.trans {v : State} (h : Handed s u) (k : Handed u v) : Handed s v :=
  ⟨k.tables.trans h.tables, k.cycle.trans h.cycle, k.conversions.trans h.conversions⟩

theorem handed_postKept (s : State) : PostKept (Handed s) where
  updAlc := fun ⟨h1, h2, h3⟩ _ => ⟨h1, h2, h3⟩
  updLpu := fun _ ⟨h1, h2, h3⟩ => ⟨h1, h2, h3⟩
  closeSweep := fun _ h => h.trans (by rw [closeSweep_only]; exact ⟨rfl, rfl, rfl⟩)
  recompute := fun h => h.trans ⟨by simp, by simp, recompute_conversions _⟩

/-- `u` has the panel, its number and the image table as `s` has them. -/
structure SameImages (s u : State) : Prop where
  panel : u.tbc.panel = s.tbc.panel
  current : u.tbc.current = s.tbc.current
  images : u.tbc.images = s.tbc.images

theorem SameImages.imageState (h : SameImages s u) (n : Nat) : imageState u.tbc n = imageState s.tbc n := by
  simp only [Machine.imageState, h.images]

theorem SameImages.trans {v : State} (h : SameImages s u) (k : SameImages u v) : SameImages s v :=
  ⟨k.panel.trans h.panel, k.current.trans h.current, k.images.trans h.images⟩

theorem post_sameImages (k : AlarmKind) (subject : Option Nat) (s : State) : SameImages s (post k subject s) := by
  constructor <;> simp

/-- R72: the end of a sweep posts one alarm. -/
theorem abortSweep_length_le (d : ChannelId) (s : State) :
    ((abortSweep s).alc.channel d).entries.length ≤ (s.alc.channel d).entries.length + 1 := by
  unfold abortSweep
  split
  · exact Nat.le_succ _
  · have halc : ∀ r, (closeSweep r s).alc = s.alc := fun r => by simp
    exact postQuiet_length_le.trans (by rw [halc])

theorem append_length_le (a : Alc) (c d : ChannelId) (e : AlarmEntry) :
    ((a.append c e).channel d).entries.length ≤ (a.channel d).entries.length + 1 := by
  rw [append_channel]
  split
  next h => simp [h]
  · exact Nat.le_succ _

/-- R142, R72: a post makes at most its own entry and the one for a sweep that it ends. -/
theorem post_length_le (d : ChannelId) :
    ((post k subject s).alc.channel d).entries.length ≤ (s.alc.channel d).entries.length + 2 := by
  have happended : ∀ c e f, (((s.updAlc (·.append c e)).updLpu f).alc.channel d).entries.length
      ≤ (s.alc.channel d).entries.length + 1 := fun c e _ => append_length_le s.alc c d e
  have hset : ∀ c ch, ch.entries.length = (s.alc.channel c).entries.length →
      ((s.alc.setChannel c ch).channel d).entries.length ≤ (s.alc.channel d).entries.length + 2 := by
    intro c ch hlen
    rw [setChannel_channel]
    split
    next h => rw [hlen, h]; omega
    · omega
  unfold post postWith postIn
  dsimp only
  split
  · exact hset _ _ rfl
  · split
    · exact hset _ _ (List.length_map _)
    · split
      · rw [recompute_channel]
        split
        · exact (abortSweep_length_le d _).trans (Nat.succ_le_succ (happended _ _ _))
        · exact (happended _ _ _).trans (Nat.le_succ _)
      · exact hset _ _ rfl

/-! ### A window closes (R111, R117, R121) -/

/-- R116: what is measured of a window; nothing of fewer than five samples. -/
def measuredOf (w : SampleWindow) : Option Measurement := if w.samples.length < 5 then none else some (measure w)

/-- R117: the verdict of a closed window. -/
def verdictOf (w : SampleWindow) : Verdict := if w.samples.length < 5 then .sensor else judge w.profile (measure w)

/-- R117: the features handed over with the verdict. -/
def featuresOf (w : SampleWindow) : Option Features := if w.samples.length < 5 then none
  else some ⟨(measure w).peak, (measure w).peakIndex, (measure w).area, (measure w).contact⟩

/-- R111, R117, R121: the window is closed, its verdict handed to the cycle and its signature kept. -/
def shutSigned (w : SampleWindow) (s : State) : State := { s with
  csu := { s.csu with
    window := none, silence := .stopped
    last := some ⟨w.step, w.panel, w.image, w.profileNo, verdictOf w, w.samples.length, measuredOf w⟩ }
  hdc := { s.hdc with
    cycle := s.hdc.cycle.map ({ · with verdict := some (verdictOf w), features := featuresOf w }) }
  out := { s.out with conversions := false } }

/-- R118: the wear update, which SENSOR and EMPTY do not make. -/
def worn (w : SampleWindow) (s : State) : State :=
  if verdictOf w = .sensor ∨ verdictOf w = .empty then shutSigned w s
  else wearUpdate w (measure w).peak (shutSigned w s)

/-- R117: the tests give no verdict but those of the list, of which SENSOR and UNCHECKED are not. -/
theorem judge_ne (p : Profile) (m : Measurement) : judge p m ≠ .sensor ∧ judge p m ≠ .unchecked := by
  unfold judge
  (repeat' split) <;> decide

theorem verdictOf_ne_unchecked (w : SampleWindow) : verdictOf w ≠ .unchecked := by
  unfold verdictOf
  split
  · decide
  · exact (judge_ne _ _).2

theorem wears_iff {v : Verdict} (h : v ≠ .sensor ∧ v ≠ .unchecked) : v.wears = true ↔ ¬ (v = .sensor ∨ v = .empty) := by
  revert h
  cases v <;> decide

/-- R111, R117, R118, R121: a window that closes is signed, wears the cutter, and its verdict is handled. -/
theorem closeWindow_handles (w : SampleWindow) (s : State) :
    closeWindow w s = handleVerdict (verdictOf w) w (worn w s) := by
  unfold closeWindow worn shutSigned verdictOf measuredOf featuresOf
  by_cases hfew : w.samples.length < 5
  · simp only [if_pos hfew, true_or, if_true]
    rfl
  · simp only [if_neg hfew, wears_iff (judge_ne w.profile (measure w)), ite_not]
    rfl

/-! ### Wear (R118) -/

/-- R118: the wear table after the verdict. -/
def wornTable (w : SampleWindow) (s : State) : List Nat :=
  if verdictOf w = .sensor ∨ verdictOf w = .empty then s.csu.wear
  else s.csu.wear.set w.profileNo (wearNext (s.csu.wear.getD w.profileNo 0) (measure w).peak)

theorem wearUpdate_csu (peak : Int) : (wearUpdate w peak u).csu =
    { u.csu with wear := u.csu.wear.set w.profileNo (wearNext (u.csu.wear.getD w.profileNo 0) peak) } := by
  unfold wearUpdate
  dsimp only
  split
  · simp
  · rfl

theorem worn_csu : (worn w s).csu = { (shutSigned w s).csu with wear := wornTable w s } := by
  unfold worn wornTable
  split
  · rfl
  · exact wearUpdate_csu _

/-- What posts keep, and what reads nothing of CSU, the wear update keeps. -/
theorem worn_inv {P : State → Prop} (hpost : ∀ k x t, P t → P (post k x t)) (hcsu : ∀ f t, P t → P (t.updCsu f))
    (h : P (shutSigned w s)) : P (worn w s) := by
  unfold worn wearUpdate
  dsimp only
  split
  · exact h
  · split
    · exact hpost _ _ _ (hcsu _ _ h)
    · exact hcsu _ _ h

/-- R118: CUTTER WEAR is not posted up to the wear level. -/
theorem worn_unalarmed
    (h : wearNext (s.csu.wear.getD w.profileNo 0) (measure w).peak / 16 ≤ w.profile.wearLevel) :
    worn w s = (shutSigned w s).updCsu ({ · with wear := wornTable w s }) := by
  unfold worn wornTable
  split
  · rfl
  · exact if_neg (Nat.not_lt.mpr h)

/-! ### A verdict is handled (R119, R120, R144) -/

/-- R119: a fault is counted, and SENSOR SILENT posted for SENSOR. -/
def faultCounted (v : Verdict) (u : State) : State :=
  if v = .sensor then post .sensorSilent none (u.updCsu (fun c => { c with faults := c.faults + 1 }))
  else u.updCsu (fun c => { c with faults := c.faults + 1 })

theorem closeWindow_good (h : verdictOf w = .good) :
    closeWindow w s = (worn w s).updCsu ({ · with faults := 0 }) := by
  rw [closeWindow_handles, h]
  rfl

theorem closeWindow_fault (h : verdictOf w ≠ .good) :
    closeWindow w s = repeatTest w.profileNo (actPolicy w (faultCounted (verdictOf w) (worn w s))) := by
  rw [closeWindow_handles]
  have hchecked := verdictOf_ne_unchecked w
  generalize verdictOf w = v at h hchecked
  cases v with
  | good => exact absurd rfl h
  | unchecked => exact absurd rfl hchecked
  | _ => rfl

theorem faultCounted_of_faults {n : Nat} (h : u.csu.faults = n) (v : Verdict) : faultCounted v u =
    if v = .sensor then post .sensorSilent none (u.updCsu ({ · with faults := n + 1 }))
    else u.updCsu ({ · with faults := n + 1 }) := by
  subst h
  rfl

theorem faultCounted_csu (v : Verdict) : (faultCounted v u).csu = { u.csu with faults := u.csu.faults + 1 } := by
  unfold faultCounted
  split
  · simp
  · rfl

theorem faultCounted_inv {P : State → Prop} (hpost : ∀ k x t, P t → P (post k x t)) (hcsu : ∀ f t, P t → P (t.updCsu f))
    (v : Verdict) (h : P u) : P (faultCounted v u) := by
  unfold faultCounted
  split
  · exact hpost _ _ _ (hcsu _ _ h)
  · exact hcsu _ _ h

theorem repeatTest_below (n : Nat) (h : u.csu.faults < u.tables.constants.repeatLimit) : repeatTest n u = u :=
  if_neg (Nat.not_le.mpr h)

theorem repeatTest_reached (n : Nat) (h : u.tables.constants.repeatLimit ≤ u.csu.faults) :
    repeatTest n u = post .clinchRepeat (some n) (u.updCsu ({ · with faults := 0 })) := if_pos h

theorem repeatTest_inv {P : State → Prop} (hpost : ∀ k x t, P t → P (post k x t)) (hcsu : ∀ f t, P t → P (t.updCsu f))
    (n : Nat) (h : P u) : P (repeatTest n u) := by
  unfold repeatTest
  split
  · exact hpost _ _ _ (hcsu _ _ h)
  · exact h

/-! ### The policy acts (R119, R130, R144) -/

theorem rejectImage_handed (panel : Byte) (n : Nat) (u : State) : Handed u (rejectImage panel n u) := by
  unfold rejectImage
  split
  · refine (handed_postKept u).post _ _ ?_
    split
    · exact .refl u
    · rw [markImage_eq]
      exact ⟨rfl, rfl, rfl⟩
  · exact .refl u

theorem actPolicy_handed (w : SampleWindow) (u : State) : Handed u (actPolicy w u) := by
  unfold actPolicy
  split
  · exact (handed_postKept u).postClinchFault _ _ (.refl u)
  · exact (handed_postKept u).postClinchFault _ _ (.refl u)
  · exact rejectImage_handed _ _ u

theorem actPolicy_csu (w : SampleWindow) (u : State) : (actPolicy w u).csu = u.csu := by
  unfold actPolicy
  split <;> simp

theorem actPolicy_stop (h : w.profile.policy = .stop) : actPolicy w u = postClinchFault .stop w.step.toNat u := by
  rw [actPolicy, h]

theorem actPolicy_hold (h : w.profile.policy = .hold) : actPolicy w u = postClinchFault .hold w.step.toNat u := by
  rw [actPolicy, h]

theorem actPolicy_mark (h : w.profile.policy = .mark) : actPolicy w u = rejectImage w.panel w.image u := by
  rw [actPolicy, h]

/-- R119: the window's image is one of the panel on the table, which is READY or in SURVEY. -/
abbrev imageNamed (w : SampleWindow) (s : State) : Prop :=
  w.panel = s.tbc.current ∧ (s.tbc.panel = .ready ∨ s.tbc.panel = .survey) ∧ 1 ≤ w.image
    ∧ w.image ≤ s.tbc.images.length

/-- R130: a reject request, read from a state with the same panel and images. -/
theorem rejectImage_named (h : SameImages s u) (hnamed : imageNamed w s) : rejectImage w.panel w.image u =
    post .badImage (some w.image) (if imageState s.tbc w.image = .good then markImage w.image .rejected u else u) := by
  have hmarked : imageMarked u.tbc w.image = !decide (imageState s.tbc w.image = .good) := by
    rw [imageMarked, h.imageState]
    cases imageState s.tbc w.image <;> rfl
  rw [rejectImage, h.current, h.panel, h.images, if_pos hnamed, hmarked]
  by_cases hgood : imageState s.tbc w.image = .good <;> simp [hgood]

theorem rejectImage_unnamed (h : SameImages s u) (hnamed : ¬ imageNamed w s) : rejectImage w.panel w.image u = u := by
  rw [rejectImage, h.current, h.panel, h.images, if_neg hnamed]

/-- R119, R144: what the policy does, read from a state with the same panel and images. -/
theorem actPolicy_eq (h : SameImages s u) : actPolicy w u = match w.profile.policy with
    | .stop => postClinchFault .stop w.step.toNat u
    | .hold => postClinchFault .hold w.step.toNat u
    | .mark => if ¬ imageNamed w s then u
        else post .badImage (some w.image)
          (if imageState s.tbc w.image = .good then markImage w.image .rejected u else u) := by
  cases hpolicy : w.profile.policy with
  | stop => exact actPolicy_stop hpolicy
  | hold => exact actPolicy_hold hpolicy
  | mark =>
    rw [actPolicy_mark hpolicy]
    by_cases hnamed : imageNamed w s
    · exact (rejectImage_named h hnamed).trans (if_neg (not_not_intro hnamed)).symm
    · exact (rejectImage_unnamed h hnamed).trans (if_pos hnamed).symm

/-- R144: with room in its channel CLINCH FAULT stands there. -/
theorem postClinchFault_holds (step : Nat) (hroom : (u.alc.channel c).entries.length < 8) :
    (postClinchFault c step u).alc.Holds c .clinchFault (some step) :=
  postIn_holds (fun _ => (holds_kept c .clinchFault (some step)).abortSweep) hroom

theorem imageState_markImage {n : Nat} (st : ImageState) (hn : 1 ≤ n) (hle : n ≤ u.tbc.images.length) :
    imageState (markImage n st u).tbc n = st := by
  rw [markImage_eq, imageState, if_neg (by omega)]
  dsimp only
  rw [List.getElem?_modify_eq, List.getElem?_eq_getElem (by omega)]
  rfl

/-! ### What a closed window leaves (R111, R118 to R120) -/

/-- What posts keep, and what reads nothing of CSU, holds when the policy acts. -/
theorem faultCounted_worn_inv {P : State → Prop} (hpost : ∀ k x t, P t → P (post k x t))
    (hcsu : ∀ f t, P t → P (t.updCsu f)) (h : P (shutSigned w s)) : P (faultCounted (verdictOf w) (worn w s)) :=
  faultCounted_inv hpost hcsu _ (worn_inv hpost hcsu h)

theorem closeWindow_handed (w : SampleWindow) (s : State) : Handed (shutSigned w s) (closeWindow w s) := by
  have hpost : ∀ k x t, Handed (shutSigned w s) t → Handed (shutSigned w s) (post k x t) :=
    fun k x _ => (handed_postKept _).post k x
  have hcsu : ∀ (f : Csu → Csu) t, Handed (shutSigned w s) t → Handed (shutSigned w s) (t.updCsu f) :=
    fun _ _ ⟨h1, h2, h3⟩ => ⟨h1, h2, h3⟩
  by_cases hgood : verdictOf w = .good
  · rw [closeWindow_good hgood]
    exact hcsu _ _ (worn_inv hpost hcsu (.refl _))
  · rw [closeWindow_fault hgood]
    exact repeatTest_inv hpost hcsu _
      ((faultCounted_worn_inv hpost hcsu (.refl _)).trans (actPolicy_handed w _))

/-- R119: CSU and the constants when the repeat limit is tested. -/
theorem acted_csu : (actPolicy w (faultCounted (verdictOf w) (worn w s))).csu =
    { (shutSigned w s).csu with wear := wornTable w s, faults := s.csu.faults + 1 } := by
  rw [actPolicy_csu, faultCounted_csu, worn_csu]
  rfl

theorem acted_tables : (actPolicy w (faultCounted (verdictOf w) (worn w s))).tables = s.tables :=
  (actPolicy_handed w _).tables.trans
    (faultCounted_worn_inv (P := fun t => t.tables = s.tables) (fun _ _ _ h => by simpa using h) (fun _ _ h => h) rfl)

theorem closeWindow_below (h : verdictOf w ≠ .good) (hlimit : s.csu.faults + 1 < s.tables.constants.repeatLimit) :
    closeWindow w s = actPolicy w (faultCounted (verdictOf w) (worn w s)) := by
  rw [closeWindow_fault h]
  exact repeatTest_below _ (by rw [acted_csu, acted_tables]; exact hlimit)

theorem closeWindow_reached (h : verdictOf w ≠ .good) (hlimit : s.tables.constants.repeatLimit ≤ s.csu.faults + 1) :
    closeWindow w s = post .clinchRepeat (some w.profileNo)
      ((actPolicy w (faultCounted (verdictOf w) (worn w s))).updCsu ({ · with faults := 0 })) := by
  rw [closeWindow_fault h]
  exact repeatTest_reached _ (by rw [acted_csu, acted_tables]; exact hlimit)

/-- R118 to R120: the fault count after a closed window. -/
def faultsLeft (w : SampleWindow) (s : State) : Nat :=
  if verdictOf w = .good then 0
  else if s.tables.constants.repeatLimit ≤ s.csu.faults + 1 then 0 else s.csu.faults + 1

theorem closeWindow_csu (w : SampleWindow) (s : State) : (closeWindow w s).csu =
    { (shutSigned w s).csu with wear := wornTable w s, faults := faultsLeft w s } := by
  unfold faultsLeft
  by_cases hgood : verdictOf w = .good
  · rw [closeWindow_good hgood, updCsu_csu, worn_csu, if_pos hgood]
  · rw [if_neg hgood]
    split
    next hlimit => rw [closeWindow_reached hgood hlimit, (post_headSame _ _ _).csu, updCsu_csu, acted_csu]
    next hlimit => rw [closeWindow_below hgood (Nat.not_le.mp hlimit), acted_csu]

/-- R118, R142: before the policy acts at most two entries have joined a channel. -/
theorem faultCounted_worn_length_le (d : ChannelId) :
    ((faultCounted (verdictOf w) (worn w s)).alc.channel d).entries.length ≤ (s.alc.channel d).entries.length + 2 := by
  unfold faultCounted worn wearUpdate
  dsimp only
  split
  next hsensor =>
    rw [if_pos (.inl hsensor)]
    exact post_length_le d
  · split
    · exact Nat.le_add_right _ 2
    · split
      · exact post_length_le d
      · exact Nat.le_add_right _ 2

theorem faultCounted_worn_sameImages (w : SampleWindow) (s : State) :
    SameImages s (faultCounted (verdictOf w) (worn w s)) :=
  faultCounted_worn_inv (fun _ _ _ h => h.trans (post_sameImages _ _ _)) (fun _ _ ⟨h1, h2, h3⟩ => ⟨h1, h2, h3⟩)
    ⟨rfl, rfl, rfl⟩

/-- R119, R144: CLINCH FAULT stands after a fault whose policy is to post it. -/
theorem closeWindow_clinchFault (h : verdictOf w ≠ .good)
    (hpolicy : ∀ u, actPolicy w u = postClinchFault c w.step.toNat u) (hroom : (s.alc.channel c).entries.length < 6) :
    (closeWindow w s).alc.Holds c .clinchFault (some w.step.toNat) := by
  rw [closeWindow_fault h, hpolicy]
  refine repeatTest_inv (P := fun t => t.alc.Holds c .clinchFault (some w.step.toNat))
    (fun _ _ _ => (holds_kept c _ _).post _ _) (fun _ _ h => h) _ (postClinchFault_holds _ ?_)
  have := faultCounted_worn_length_le (w := w) (s := s) c
  omega

/-- R119, R130: a GOOD image of the READY panel is REJECTED after a fault whose policy is to mark. -/
theorem closeWindow_rejects (h : verdictOf w ≠ .good) (hpolicy : w.profile.policy = .mark) (hnamed : imageNamed w s)
    (hgood : imageState s.tbc w.image = .good) : imageState (closeWindow w s).tbc w.image = .rejected := by
  have hsame := faultCounted_worn_sameImages w s
  obtain ⟨-, -, hn, hle⟩ := id hnamed
  rw [closeWindow_fault h, actPolicy_mark hpolicy, rejectImage_named hsame hnamed, if_pos hgood]
  have hpost : ∀ k x t, imageState t.tbc w.image = .rejected → imageState (post k x t).tbc w.image = .rejected :=
    fun k x t ht => ((post_sameImages k x t).imageState _).trans ht
  exact repeatTest_inv (P := fun t => imageState t.tbc w.image = .rejected) hpost (fun _ _ h => h) _
    (hpost _ _ _ (imageState_markImage _ hn (hsame.images ▸ hle)))

/-! ### Samples and silence (R110, R111) -/

theorem Timer.expired_iff (t : Timer) : t.expired = true ↔ t = .running 0 := by
  unfold Timer.expired
  split
  · simp
  next h => simpa using h

/-- R110: the sample joins the window and stops the silence timer. -/
def sampleJoined (code : BitVec 12) (w : SampleWindow) (s : State) : State := { s with
  csu := { s.csu with window := some { w with samples := w.samples ++ [code.toNat] }, silence := .stopped } }

theorem exec_forceSample_closed (code : BitVec 12) (h : s.csu.window = none) : exec (.forceSample code) s = .next s := by
  change execForceSample code s = _
  rw [execForceSample, h]

theorem exec_forceSample_open (code : BitVec 12) (h : s.csu.window = some w) :
    let w1 := { w with samples := w.samples ++ [code.toNat] }
    exec (.forceSample code) s = .next (if 4 + w.profile.windowLength ≤ w1.samples.length
      then closeWindow w1 (sampleJoined code w s) else sampleJoined code w s) := by
  change execForceSample code s = _
  rw [execForceSample, h]
  rfl

theorem exec_silenceTimeout_closed (h : s.csu.window = none) : exec .silenceTimeout s = .next s := by
  change execSilenceTimeout s = _
  rw [execSilenceTimeout, h]

theorem exec_silenceTimeout_open (h : s.csu.window = some w) (hsilent : s.csu.silence = .running 0) :
    exec .silenceTimeout s = .next (closeWindow w s) := by
  change execSilenceTimeout s = _
  rw [execSilenceTimeout, h, hsilent]
  rfl

end Sys2Proof.Machine

open Sys2Proof Sys2Proof.Machine

/-- Settles O52: the samples and the silence first, then the closed window by what it leaves of CSU, of the cycle, of the
alarms and of the images. -/
theorem samplesAndVerdicts : Obligations.SamplesAndVerdicts := by
  unfold Obligations.SamplesAndVerdicts
  intro s code
  refine ⟨fun hclosed => ⟨exec_forceSample_closed code hclosed, exec_silenceTimeout_closed hclosed⟩, fun w hopen => ?_⟩
  have hsample := exec_forceSample_open code hopen
  have hcsu := closeWindow_csu w s
  obtain ⟨-, hcycle, hconversions⟩ := closeWindow_handed w s
  intro w1 joined m acc verdict signature t
  rw [hcycle]
  refine ⟨fun hwaits => hsample.trans (congrArg _ (if_neg (Nat.not_le.mpr hwaits))),
    fun hfull => hsample.trans (congrArg _ (if_pos hfull)), exec_silenceTimeout_open hopen,
    fun hruns => silenceTimeout_waits (Bool.eq_false_iff.mpr (mt (Timer.expired_iff _).mp hruns)),
    congrArg Csu.window hcsu, congrArg Csu.silence hcsu, hconversions, congrArg Csu.last hcsu,
    fun c hc => congrArg (Option.map _) hc, ?_, ?_, ?_, ?_, ?_⟩
  · refine ⟨congrArg Csu.wear hcsu, fun hgood => ⟨(congrArg Csu.faults hcsu).trans (if_pos hgood), fun hlevel => ?_⟩,
      fun hfault => (congrArg Csu.faults hcsu).trans (if_neg hfault)⟩
    exact (closeWindow_good hgood).trans (congrArg (State.updCsu · ({ · with faults := 0 })) (worn_unalarmed hlevel))
  · intro shut acc1 wearing worn' counted sensed named acted
    have hsame := faultCounted_worn_sameImages w s
    have hgood := closeWindow_good (w := w) (s := s)
    have hbelow := closeWindow_below (w := w) (s := s)
    have hreached := closeWindow_reached (w := w) (s := s)
    have hworn : worn w s = worn' := rfl
    have hsensed : faultCounted (verdictOf w) worn' = sensed :=
      faultCounted_of_faults (congrArg Csu.faults worn_csu) _
    rw [hworn] at hgood
    rw [hworn, hsensed] at hsame hbelow hreached
    have hacted : actPolicy w sensed = acted := actPolicy_eq hsame
    rw [hacted] at hbelow hreached
    exact ⟨hgood, hbelow, hreached⟩
  · exact fun hfault hpolicy => closeWindow_clinchFault (c := .stop) hfault fun _ => actPolicy_stop hpolicy
  · exact fun hfault hpolicy => closeWindow_clinchFault (c := .hold) hfault fun _ => actPolicy_hold hpolicy
  · exact fun hfault hpolicy hpanel hready hn hle =>
      closeWindow_rejects hfault hpolicy ⟨hpanel, .inl hready, hn, hle⟩
end

section
/-! PROOF. A panel load and an unload start; the handler's reports, its timeout and its restarts (R14, R125, R126,
R128, R131). -/

namespace Sys2Proof.Machine

variable {s : State} {op : HandlerOp} {phase : HandlerPhase} {p : Pattern}

/-! ### An operation of the handler (R128) -/

/-- R128: with the line released an operation commanded runs with the full timeout. -/
theorem commandHandler_running (op : HandlerOp) (h : s.alc.estop = .released) : commandHandler op s = { s with
    tbc := { s.tbc with
      handler := some ⟨op, .running⟩, handlerTimer := .running s.tables.constants.moveTimeout, restartDue := false }
    out := { s.out with handler := handlerLine op } } :=
  if_neg (by rw [h]; decide)

theorem handlerLine_eq (op : HandlerOp) : handlerLine op = if op = .load then .load else .release := by
  cases op <;> rfl

theorem exec_clamped_load (h : s.tbc.handler = some ⟨.load, phase⟩) (hp : s.tbc.pattern = some p) :
    exec .clamped s = .next (endHandler (if p.badMark.isSome then .survey else .ready) s) := by
  change execClamped s = _
  simp only [execClamped, h, hp, Option.bind_some]

theorem exec_clamped_release (h : s.tbc.handler = some ⟨.release, phase⟩) : exec .clamped s = .next s := by
  change execClamped s = _
  simp only [execClamped, h]

theorem exec_released_load (h : s.tbc.handler = some ⟨.load, phase⟩) : exec .released s = .next s := by
  change execReleased s = _
  simp only [execReleased, h]

theorem exec_released_release (h : s.tbc.handler = some ⟨.release, phase⟩) :
    exec .released s = .next (endHandler .empty s) := by
  change execReleased s = _
  simp only [execReleased, h]

/-- R128: the operation is stalled. -/
def handlerStalled (op : HandlerOp) (s : State) : State := { s with
  tbc := { s.tbc with handler := some ⟨op, .stalled⟩, handlerTimer := .stopped, restartDue := false }
  out := { s.out with handler := .stop } }

theorem exec_handlerTimeout (h : s.tbc.handler = some ⟨op, .running⟩) (htimer : s.tbc.handlerTimer = .running 0) :
    exec .handlerTimeout s = .next (post .handlerFault none (handlerStalled op s)) := by
  change execHandlerTimeout s = _
  simp only [execHandlerTimeout, h, htimer]
  rfl

section

variable (hlevel : s.alc.effective ≠ .stop) (hestop : s.alc.estop = .released)
include hlevel hestop

/-- R128: a SUSPENDED operation goes on with the time it has left. -/
theorem exec_handlerRestart_suspended {n : Nat} (h : s.tbc.handler = some ⟨op, .suspended⟩)
    (htimer : s.tbc.handlerTimer = .suspended n) : exec .handlerRestart s = .next { s with
      tbc := { s.tbc with handler := some ⟨op, .running⟩, handlerTimer := .running n }
      out := { s.out with handler := .goOn } } := by
  change execHandlerRestart s = _
  rw [execHandlerRestart, if_pos ⟨hlevel, hestop⟩, h]
  simp only [State.updTbc, State.updOut, htimer]
  rfl

/-- R128, log 17: a STALLED operation is commanded anew. -/
theorem exec_handlerRestart_stalled (h : s.tbc.handler = some ⟨op, .stalled⟩) (hdue : s.tbc.restartDue = true) :
    exec .handlerRestart s = .next (commandHandler op s) := by
  change execHandlerRestart s = _
  rw [execHandlerRestart, if_pos ⟨hlevel, hestop⟩, h]
  exact if_pos hdue

end

/-! ### Loads and unloads start (R126, R131) -/

theorem holdsMaterial_iff : holdsMaterial s = true ↔ s.csq.window ≠ [] ∨ s.tpc.tape ≠ [] ∨ s.pin.queue ≠ [] := by
  simp only [holdsMaterial, Bool.or_eq_true, Bool.not_eq_true', List.isEmpty_eq_false_iff, or_assoc]

theorem loadMayStart_iff : loadMayStart s = true ↔ s.tbc.panel = .empty ∧ s.tbc.handler = none
    ∧ s.tbc.pattern.isSome = true ∧ s.mode ≠ .sequenceOnly
    ∧ (s.tbc.loadWanted = true ∨ s.csq.window ≠ [] ∨ s.tpc.tape ≠ [] ∨ s.pin.queue ≠ [])
    ∧ s.alc.effective ≠ .stop ∧ s.alc.estop = .released ∧ s.hdc.clear = true := by
  simp only [loadMayStart, Bool.and_eq_true, Bool.or_eq_true, beq_iff_eq, bne_iff_ne, Option.isNone_iff_eq_none,
    holdsMaterial_iff, and_assoc]

theorem panelComplete_iff : panelComplete s = true ↔ s.tbc.panel = .ready ∧ s.pin.takePanel = s.tbc.current + 1
    ∧ (∀ w ∈ s.csq.window, w.entry.panel ≠ s.tbc.current) ∧ ∀ e ∈ s.tpc.tape, e.entry.panel ≠ s.tbc.current := by
  simp only [panelComplete, Bool.and_eq_true, beq_iff_eq, bne_iff_ne, List.all_eq_true, and_assoc]

theorem unloadMayStart_iff : unloadMayStart s = true ↔ panelComplete s = true ∧ s.tbc.handler = none
    ∧ s.alc.effective ≠ .stop ∧ s.alc.estop = .released ∧ s.hdc.clear = true := by
  simp only [unloadMayStart, Bool.and_eq_true, beq_iff_eq, bne_iff_ne, Option.isNone_iff_eq_none, and_assoc]

/-- R125, R126: the next panel comes, with the image table of the pattern. -/
def panelComes (p : Pattern) (s : State) : State := s.updTbc (fun b => { b with
  panel := .loading, current := b.current + 1, images := newImages p, cursor := some 1, loadWanted := false })

theorem exec_loadStart (h : loadMayStart s = true) (hp : s.tbc.pattern = some p) :
    exec .loadStart s = .next (retakeAsk (commandHandler .load (panelComes p s))) := by
  change execLoadStart s = _
  rw [execLoadStart, if_pos h]
  simp only [State.updTbc, panelComes, hp]
  rfl

theorem exec_unloadStart (h : unloadMayStart s = true) : exec .unloadStart s =
    .next (commandHandler .release (s.updTbc ({ · with panel := .unloading, inPosition := .none }))) :=
  if_pos h

end Sys2Proof.Machine

open Sys2Proof Sys2Proof.Machine

/-- Settles O53: each start under its conditions as a command of the handler, then the reports by the operation that
stands. -/
theorem panelsAndHandler : Obligations.PanelsAndHandler := by
  unfold Obligations.PanelsAndHandler
  intro s op phase ended line full
  refine ⟨fun p hp hpanel hhandler hmode hwanted hlevel hestop hclear => ?_,
    fun hpanel htake hwindow htape hhandler hlevel hestop hclear => ?_, fun hload => ⟨fun p d hp hd => ?_,
      fun p hp hd => ?_, exec_released_load hload⟩, fun hrelease => ⟨exec_released_release hrelease,
      exec_clamped_release hrelease⟩, exec_handlerTimeout, fun hlevel hestop =>
      ⟨fun n => exec_handlerRestart_suspended hlevel hestop, fun hstalled hdue => ?_⟩⟩
  · have hmay := loadMayStart_iff.mpr
      ⟨hpanel, hhandler, by rw [hp]; rfl, hmode, hwanted, hlevel, hestop, hclear⟩
    rw [exec_loadStart hmay hp, commandHandler_running (s := panelComes p s) .load hestop]
    rfl
  · have hmay := unloadMayStart_iff.mpr
      ⟨panelComplete_iff.mpr ⟨hpanel, htake, hwindow, htape⟩, hhandler, hlevel, hestop, hclear⟩
    rw [exec_unloadStart hmay, commandHandler_running (s := s.updTbc _) .release hestop]
    rfl
  · rw [exec_clamped_load hload hp, hd]
    rfl
  · rw [exec_clamped_load hload hp, hd]
    rfl
  · rw [exec_handlerRestart_stalled hlevel hestop hstalled hdue, commandHandler_running op hestop, handlerLine_eq]

end

section
/-! PROOF. The status record, RECORD READ, writes of the Record Ring, and PANEL LOAD (R16, R127, R162, R167, R169, R170). -/

namespace Sys2Proof.Machine

variable {s : State} {tag : Byte}

/-! ### STATUS (R167) -/

theorem be32_length (n : Nat) : (be32 n).length = 4 := rfl

theorem errorBytes_length (e : ErrorCounts) : (errorBytes e).length = 6 := rfl

theorem statusRecord_length (s : State) : (statusRecord s).length = 83 := by
  unfold statusRecord
  simp only [List.length_append, List.length_cons, List.length_nil, be16_length, be32_length, errorBytes_length]

/-- R167: the answer's own place in the queue shows in no field of the record. -/
theorem statusRecord_pushOwn (w : OwnFrame) (s : State) : statusRecord (s.updLpu (·.pushOwn w)) = statusRecord s := by
  unfold statusRecord State.mode
  simp only [updLpu_lpu, updLpu_alc, updLpu_csq, updLpu_hdc, updLpu_tbc, updLpu_tpc, updLpu_pin, updLpu_rrg,
    updLpu_tables, pushOwn_frame]

theorem exec_status (hs : Takes s) : exec (.status tag) s = .next (answered 0x42 tag .ok (statusRecord s) s) := by
  have hact : actStatus (s.updLpu (·.pushOwn (answerPlace tag))) =
      (s.updLpu (·.pushOwn (answerPlace tag)), .ok, statusRecord s) := by
    rw [actStatus, statusRecord_pushOwn]
  change execStatus tag s = _
  rw [execStatus, request_answered 0x42 tag actStatus s s .ok _ hs (.inl (by decide)) rfl hact]

/-! ### RECORD READ (R169, R170) -/

/-- R169: the bytes sent for a record are as many as it takes in the ring. -/
theorem ringBytesOf_length (r : RingRecord) : (ringBytesOf r).length = r.size := by
  unfold ringBytesOf RingRecord.size
  cases r.signature <;> rfl

/-- R170: the records that fit are as many of the oldest as the room lets. -/
theorem recordsThatFit_spec (room : Nat) (rs : List RingRecord) :
    ringSize (rs.take (recordsThatFit room rs)) ≤ room
      ∧ (recordsThatFit room rs < rs.length → room < ringSize (rs.take (recordsThatFit room rs + 1))) := by
  induction rs generalizing room with
  | nil => exact ⟨Nat.zero_le _, fun h => absurd h (Nat.lt_irrefl 0)⟩
  | cons r rs ih =>
    unfold recordsThatFit
    split
    next hfits =>
      obtain ⟨hin, hmore⟩ := ih (room - r.size)
      simp only [List.take_succ_cons, ringSize_cons, List.length_cons, Nat.add_lt_add_iff_right]
      exact ⟨by omega, fun h => by have := hmore h; omega⟩
    next hfull =>
      rw [List.take_zero, List.take_succ_cons, List.take_zero, ringSize_cons]
      exact ⟨Nat.zero_le _, fun _ => Nat.lt_of_lt_of_le (Nat.not_le.mp hfull) (Nat.le_add_right _ _)⟩

theorem exec_recordReadStart (hs : Takes s) : exec (.recordReadStart tag) s =
    .next (answered 0x43 tag .ok (readRing s).2.2 (readRing s).1) :=
  next_request (act := actRecordReadStart) (fun _ _ => rfl) hs (by decide) rfl

theorem exec_recordReadNext (hs : Takes s) : exec (.recordReadNext tag) s =
    .next (answered 0x44 tag .ok (readRing (releaseTransit s)).2.2 (readRing (releaseTransit s)).1) :=
  next_request (act := actRecordReadNext) (fun _ _ => rfl) hs (by decide) rfl

/-! ### Writes of the ring (R169) -/

/-- R169: a record goes only where those that stand leave no room. -/
theorem ringRoom_least (size : Nat) (rs : List RingRecord) :
    ∀ m < (ringRoom size rs).2, 8192 < ringSize (rs.drop m) + size := by
  induction rs with
  | nil => exact fun m h => absurd h (Nat.not_lt_zero m)
  | cons r rs ih =>
    unfold ringRoom
    split
    next hfull =>
      intro m hm
      cases m with
      | zero => exact hfull
      | succ m => exact ih m (Nat.lt_of_succ_lt_succ hm)
    next => exact fun m h => absurd h (Nat.not_lt_zero m)

theorem ringSize_singleton (r : RingRecord) : ringSize [r] = r.size := Nat.add_zero _

/-! ### PANEL LOAD (R127) -/

theorem actPanelLoad_wanted (h : s.tbc.panel = .empty ∧ s.tbc.pattern.isSome = true ∧ s.mode ≠ .sequenceOnly) :
    actPanelLoad s = (s.updTbc ({ · with loadWanted := true }), .ok, []) := if_pos h

theorem actPanelLoad_busy (h : ¬ (s.tbc.panel = .empty ∧ s.tbc.pattern.isSome = true ∧ s.mode ≠ .sequenceOnly)) :
    actPanelLoad s = (s, .busy, []) := if_neg h

theorem actPanelLoad_blind : actPanelLoad.LpuBlind := fun g s => by
  by_cases h : s.tbc.panel = .empty ∧ s.tbc.pattern.isSome = true ∧ s.mode ≠ .sequenceOnly
  · rw [actPanelLoad_wanted h, actPanelLoad_wanted (s := s.updLpu g) h]
    rfl
  · rw [actPanelLoad_busy h, actPanelLoad_busy (s := s.updLpu g) h]

end Sys2Proof.Machine

open Sys2Proof Sys2Proof.Machine

/-- Settles O38: each request by what its act does; a write of the ring by the room it makes. -/
theorem statusRecordsAndPanelLoad : Obligations.StatusRecordsAndPanelLoad := by
  unfold Obligations.StatusRecordsAndPanelLoad
  refine ⟨fun tag s hs => ⟨statusRecord_length s, exec_status hs⟩, fun tag s hs => ?_, fun r => ringBytesOf_length r,
    fun s => by rw [flushQueue_eq]; rfl, fun g r => ?_⟩
  · intro reads
    have hpanel := fun {t : State} {code : ResultCode} {data : List Byte} =>
      next_request (tag := tag) (kind := 0x24) (t := t) (code := code) (data := data) actPanelLoad_blind hs (by decide)
    have hfit := fun rs : List RingRecord => recordsThatFit_spec 232 rs
    refine ⟨⟨_, recordsThatFit_le 232 _, (hfit _).1, (hfit _).2, exec_recordReadStart hs⟩,
      ⟨_, recordsThatFit_le 232 _, (hfit _).1, (hfit _).2, exec_recordReadNext hs⟩,
      fun hempty hloaded hmode => hpanel (actPanelLoad_wanted ⟨hempty, hloaded, hmode⟩), fun hbusy => ?_⟩
    refine hpanel (actPanelLoad_busy ?_)
    rintro ⟨hempty, hloaded, hmode⟩
    rcases hbusy with hpanel | hnone | honly
    · exact hpanel hempty
    · rw [hnone] at hloaded
      contradiction
    · exact hmode honly
  · obtain ⟨htail, hle, hroom⟩ := ringRoom_spec r.size r.size_le g.records
    refine ⟨(ringRoom r.size g.records).2, hle, ?_, ?_, fun m hm => ?_⟩
    · rw [← htail]
      rfl
    · rw [← htail, ringSize_append, ringSize_singleton]
      exact hroom
    · rw [ringSize_append, ringSize_singleton]
      exact ringRoom_least r.size g.records m hm

end

section
/-! PROOF. The bytes of a panel pattern entry: the fields written are the fields read (R123, R166). -/

namespace Sys2Proof.Machine

/-! ### Signed fields and pairs of them -/

/-- Both fields of a pair fit four signed bytes. -/
def PairFits (d : Int × Int) : Prop :=
  -2147483648 ≤ d.1 ∧ d.1 < 2147483648 ∧ -2147483648 ≤ d.2 ∧ d.2 < 2147483648

theorem u32_be32 {n : Nat} (h : n < 4294967296) :
    u32 (byte (n / 16777216)) (byte (n / 65536)) (byte (n / 256)) (byte n) = n := by
  simp only [u32, u16, byte, BitVec.toNat_ofNat]
  omega

theorem s32_be32 {v : Int} (h : -2147483648 ≤ v ∧ v < 2147483648) :
    s32 (byte ((v % 4294967296).toNat / 16777216)) (byte ((v % 4294967296).toNat / 65536))
      (byte ((v % 4294967296).toNat / 256)) (byte (v % 4294967296).toNat) = v := by
  rw [s32, u32_be32 (by omega)]
  split <;> omega

theorem pairBytes_length (d : Int × Int) : (pairBytes d).length = 8 := rfl

theorem pairOf_pairBytes {d : Int × Int} (h : PairFits d) : pairOf (pairBytes d) = d := by
  obtain ⟨h1, h1', h2, h2'⟩ := h
  exact Prod.ext (s32_be32 ⟨h1, h1'⟩) (s32_be32 ⟨h2, h2'⟩)

/-! ### The fields as carried -/

/-- The first thirty bytes of a pattern entry, up to its selector count. -/
def patternHead (r : RawPattern) : List Byte :=
  be16 r.originX ++ be16 r.originY ++ [byte r.count] ++ pairBytes r.pitchA ++ pairBytes r.pitchB ++ pairBytes r.pitchC
    ++ [byte r.selectors.length]

/-- R166: the bytes of a pattern entry. -/
def rawPatternBytes (r : RawPattern) : List Byte :=
  patternHead r ++ r.selectors ++ [byte r.markPresent] ++ pairBytes r.mark

/-- Every field of a pattern entry fits its bytes. -/
def RawPattern.Fits (r : RawPattern) : Prop :=
  r.originX < 65536 ∧ r.originY < 65536 ∧ r.count < 256 ∧ PairFits r.pitchA ∧ PairFits r.pitchB ∧ PairFits r.pitchC
    ∧ r.selectors.length < 256 ∧ r.markPresent < 256 ∧ PairFits r.mark

/-- Behind the head stand the selectors, the mark-present byte and the mark offset. -/
theorem rawPatternBytes_drop (r : RawPattern) :
    (rawPatternBytes r).drop 30 = r.selectors ++ ([byte r.markPresent] ++ pairBytes r.mark) := by
  rw [rawPatternBytes, List.append_assoc, List.append_assoc]
  exact List.drop_left' rfl

theorem rawPatternOf_bytes {r : RawPattern} (h : r.Fits) : rawPatternOf (rawPatternBytes r) = r := by
  obtain ⟨hx, hy, hcount, hA, hB, hC, hlen, hpresent, hmark⟩ := h
  have hk : ((rawPatternBytes r).getD 29 0).toNat = r.selectors.length := byte_toNat hlen
  have hselectors : ((rawPatternBytes r).drop 30).take r.selectors.length = r.selectors := by
    rw [rawPatternBytes_drop, List.take_left' rfl]
  have hbehind : (rawPatternBytes r).drop (30 + r.selectors.length) = [byte r.markPresent] ++ pairBytes r.mark := by
    rw [← List.drop_drop, rawPatternBytes_drop, List.drop_left' rfl]
  have hbyte : (rawPatternBytes r).getD (30 + r.selectors.length) 0 = byte r.markPresent := by
    rw [List.getD_eq_getElem?_getD, ← List.head?_drop, hbehind]
    rfl
  have hpair : ((rawPatternBytes r).drop (31 + r.selectors.length)).take 8 = pairBytes r.mark := by
    rw [Nat.add_right_comm 30 1, ← List.drop_drop, hbehind]
    rfl
  unfold rawPatternOf
  simp only [hk, hselectors, hbyte, hpair, pairOf_pairBytes hmark, byte_toNat hpresent]
  have hX : u16 ((rawPatternBytes r).getD 0 0) ((rawPatternBytes r).getD 1 0) = r.originX := u16_be16 hx
  have hY : u16 ((rawPatternBytes r).getD 2 0) ((rawPatternBytes r).getD 3 0) = r.originY := u16_be16 hy
  have hN : ((rawPatternBytes r).getD 4 0).toNat = r.count := byte_toNat hcount
  have hpitchA : pairOf (((rawPatternBytes r).drop 5).take 8) = r.pitchA := pairOf_pairBytes hA
  have hpitchB : pairOf (((rawPatternBytes r).drop 13).take 8) = r.pitchB := pairOf_pairBytes hB
  have hpitchC : pairOf (((rawPatternBytes r).drop 21).take 8) = r.pitchC := pairOf_pairBytes hC
  rw [hX, hY, hN, hpitchA, hpitchB, hpitchC]

/-! ### The fields of a pattern (R123) -/

/-- The fields that carry a pattern. -/
def Pattern.raw (p : Pattern) : RawPattern :=
  { originX := p.originX.toNat, originY := p.originY.toNat, count := p.count, pitchA := p.pitchA, pitchB := p.pitchB,
    pitchC := p.pitchC, selectors := p.selectors.map (fun x => byte x.code),
    markPresent := if p.badMark.isSome then 1 else 0, mark := p.badMark.getD (0, 0) }

/-- R123: a pitch or bad-mark offset no longer than travel. -/
def OffsetRight (d : Int × Int) : Prop := -45000 ≤ d.1 ∧ d.1 ≤ 45000 ∧ -36000 ≤ d.2 ∧ d.2 ≤ 36000

/-- R123: every field of a pattern in its range. -/
def Pattern.Right (p : Pattern) : Prop :=
  (0 ≤ p.originX ∧ p.originX ≤ 45000) ∧ (0 ≤ p.originY ∧ p.originY ≤ 36000) ∧ (1 ≤ p.count ∧ p.count ≤ 16)
    ∧ OffsetRight p.pitchA ∧ OffsetRight p.pitchB ∧ OffsetRight p.pitchC
    ∧ (1 ≤ p.selectors.length ∧ p.selectors.length ≤ 8) ∧ ∀ m, p.badMark = some m → OffsetRight m

variable {p : Pattern}

theorem be16s_toNat {v : Int} (h : 0 ≤ v ∧ v ≤ 45000) : be16s v = be16 v.toNat := by
  rw [be16s, Int.emod_eq_of_lt h.1 (by omega)]

theorem patternOut_eq (h : p.Right) : patternOut (some p) = rawPatternBytes p.raw := by
  obtain ⟨hx, ⟨hy, hy'⟩, -⟩ := h
  have hflag : flagByte p.badMark.isSome = byte (if p.badMark.isSome then 1 else 0) := by
    cases p.badMark <;> rfl
  simp only [patternOut, rawPatternBytes, patternHead, Pattern.raw, be16s_toNat hx, be16s_toNat ⟨hy, by omega⟩, hflag,
    List.length_map]

theorem OffsetRight.fits {d : Int × Int} (h : OffsetRight d) : PairFits d := by
  obtain ⟨h1, h1', h2, h2'⟩ := h
  exact ⟨by omega, by omega, by omega, by omega⟩

theorem Pattern.Right.mark (h : p.Right) : OffsetRight (p.badMark.getD (0, 0)) := by
  obtain ⟨-, -, -, -, -, -, -, hmark⟩ := h
  cases hm : p.badMark with
  | none => exact ⟨by decide, by decide, by decide, by decide⟩
  | some m => exact hmark m hm

theorem Pattern.Right.fits (h : p.Right) : p.raw.Fits := by
  have hmark := h.mark
  obtain ⟨hx, hy, hcount, hA, hB, hC, hlen, -⟩ := h
  refine ⟨?_, ?_, ?_, hA.fits, hB.fits, hC.fits, ?_, ?_, hmark.fits⟩
  · show p.originX.toNat < 65536
    omega
  · show p.originY.toNat < 65536
    omega
  · show p.count < 256
    omega
  · show (p.selectors.map _).length < 256
    rw [List.length_map]
    omega
  · show (if p.badMark.isSome then 1 else 0) < 256
    split <;> decide

theorem Selector.ofCode_byte (x : Selector) : (Selector.ofCode (byte x.code).toNat).getD .a = x := by cases x <;> rfl

theorem Selector.byte_code_le (x : Selector) : (byte x.code).toNat ≤ 2 := by cases x <;> decide

/-- The pattern that its own fields carry. -/
theorem patternOfRaw_raw (h : p.Right) : patternOfRaw p.raw = p := by
  obtain ⟨⟨hx, -⟩, ⟨hy, -⟩, -⟩ := h
  have hselectors : (p.selectors.map fun x => byte x.code).map (fun b => (Selector.ofCode b.toNat).getD .a)
      = p.selectors := by
    rw [List.map_map]
    exact (List.map_congr_left fun x _ => Selector.ofCode_byte x).trans (List.map_id _)
  have hmark : (if (if p.badMark.isSome then 1 else 0) = 1 then some (p.badMark.getD (0, 0)) else none) = p.badMark := by
    cases p.badMark <;> rfl
  simp only [patternOfRaw, Pattern.raw, Int.toNat_of_nonneg hx, Int.toNat_of_nonneg hy, hselectors]
  exact congrArg (fun m => { p with badMark := m }) hmark

end Sys2Proof.Machine
end

section
/-! PROOF. PANEL PATTERN loads: the places, the images on the table, and the load; the offsets of images (R18, R123,
R124). -/

namespace Sys2Proof.Machine

/-! ### Places (R123) -/

/-- R123: a place of a pattern entry in its range. -/
def PatternPlaceRight (r : RawPattern) (place : Nat) : Prop := (patternPlaces r)[place - 1]? = some true

theorem pitchInRange_iff {d : Int × Int} : pitchInRange d = true ↔ OffsetRight d := decide_eq_true_iff

variable {r : RawPattern}

theorem patternPlaceRight_origin : PatternPlaceRight r 1 ↔ r.originX ≤ 45000 ∧ r.originY ≤ 36000 := by
  refine Option.some_inj.trans (decide_eq_true_iff.trans ?_)
  exact and_congr Int.ofNat_le Int.ofNat_le

theorem patternPlaceRight_count : PatternPlaceRight r 2 ↔ 1 ≤ r.count ∧ r.count ≤ 16 :=
  Option.some_inj.trans decide_eq_true_iff

theorem patternPlaceRight_pitchA : PatternPlaceRight r 3 ↔ OffsetRight r.pitchA :=
  Option.some_inj.trans pitchInRange_iff

theorem patternPlaceRight_pitchB : PatternPlaceRight r 4 ↔ OffsetRight r.pitchB :=
  Option.some_inj.trans pitchInRange_iff

theorem patternPlaceRight_pitchC : PatternPlaceRight r 5 ↔ OffsetRight r.pitchC :=
  Option.some_inj.trans pitchInRange_iff

theorem patternPlaceRight_selectors : PatternPlaceRight r 6 ↔
    1 ≤ r.selectors.length ∧ r.selectors.length ≤ 8 ∧ ∀ x ∈ r.selectors, x.toNat ≤ 2 := by
  refine Option.some_inj.trans ?_
  simp only [Bool.and_eq_true, decide_eq_true_eq, List.all_eq_true, and_assoc]

theorem patternPlaceRight_mark : PatternPlaceRight r 7 ↔
    r.markPresent = 0 ∨ (r.markPresent = 1 ∧ OffsetRight r.mark) := by
  refine Option.some_inj.trans ?_
  simp only [Bool.and_eq_true, Bool.or_eq_true, decide_eq_true_eq, beq_iff_eq, pitchInRange_iff]
  constructor
  · rintro ⟨hle, hzero | hmark⟩
    · exact .inl hzero
    · exact (Nat.le_one_iff_eq_zero_or_eq_one.mp hle).imp_right (⟨·, hmark⟩)
  · rintro (hzero | ⟨hone, hmark⟩)
    · exact ⟨by omega, .inl hzero⟩
    · exact ⟨by omega, .inr hmark⟩

/-- R18 check 5: the first place out of its range. -/
theorem patternFault_some {k : Nat} (h1 : 1 ≤ k) (h7 : k ≤ 7) (hwrong : ¬ PatternPlaceRight r k)
    (hright : ∀ j, 1 ≤ j → j < k → PatternPlaceRight r j) :
    firstFault 1 (fun _ ok => !ok) (patternPlaces r) = some k := by
  obtain ⟨i, rfl⟩ := Nat.exists_eq_add_of_le h1
  have hi : i < (patternPlaces r).length := by
    show i < 7
    omega
  have hget := List.getElem?_eq_getElem hi
  refine firstFault_eq_some hget ?_ fun j w hj hw => ?_
  · rw [PatternPlaceRight, Nat.add_sub_cancel_left, hget, Option.some_inj] at hwrong
    rw [Bool.not_eq_true', ← Bool.not_eq_true]
    exact hwrong
  · have hplace := hright (1 + j) (Nat.le_add_right _ _) (Nat.add_lt_add_left hj 1)
    rw [PatternPlaceRight, Nat.add_sub_cancel_left, hw, Option.some_inj] at hplace
    rw [hplace]
    rfl

variable {p : Pattern}

theorem Pattern.Right.places (h : p.Right) (k : Nat) (h1 : 1 ≤ k) (h7 : k ≤ 7) : PatternPlaceRight p.raw k := by
  have hmarkRight := h.mark
  obtain ⟨⟨hx, hx'⟩, ⟨hy, hy'⟩, hcount, hA, hB, hC, hlen, -⟩ := h
  have horigin : p.originX.toNat ≤ 45000 ∧ p.originY.toNat ≤ 36000 := by omega
  have hselectors : 1 ≤ p.raw.selectors.length ∧ p.raw.selectors.length ≤ 8 ∧ ∀ x ∈ p.raw.selectors, x.toNat ≤ 2 := by
    simp only [Pattern.raw, List.length_map, List.forall_mem_map]
    exact ⟨hlen.1, hlen.2, fun x _ => x.byte_code_le⟩
  have hmark : p.raw.markPresent = 0 ∨ (p.raw.markPresent = 1 ∧ OffsetRight p.raw.mark) := by
    by_cases hm : p.badMark.isSome
    · exact .inr ⟨if_pos hm, hmarkRight⟩
    · exact .inl (if_neg hm)
  interval_cases k
  exacts [patternPlaceRight_origin.mpr horigin, patternPlaceRight_count.mpr hcount, patternPlaceRight_pitchA.mpr hA,
    patternPlaceRight_pitchB.mpr hB, patternPlaceRight_pitchC.mpr hC, patternPlaceRight_selectors.mpr hselectors,
    patternPlaceRight_mark.mpr hmark]

theorem patternFault_none (h : p.Right) : firstFault 1 (fun _ ok => !ok) (patternPlaces p.raw) = none := by
  refine firstFault_eq_none fun i ok hok => ?_
  have hi : i < 7 := (List.getElem?_eq_some_iff.mp hok).1
  have hplace := h.places (i + 1) (Nat.succ_pos i) hi
  rw [PatternPlaceRight, Nat.add_sub_cancel, hok, Option.some_inj] at hplace
  rw [hplace]
  rfl

/-! ### Images on the table (R123) -/

theorem inTravel_iff {q : Int × Int} : inTravel q = true ↔ 0 ≤ q.1 ∧ q.1 ≤ 45000 ∧ 0 ≤ q.2 ∧ q.2 ≤ 36000 :=
  decide_eq_true_iff

/-- R123: the origin of an image, and with a bad-mark offset its mark position, lie within travel. -/
def Pattern.ImageOnTable (p : Pattern) (n : Nat) : Prop :=
  inTravel (p.imageOrigin n) = true ∧ (p.badMark.isSome = true → inTravel (p.markPosition n) = true)

/-- R123: the check of one image. -/
theorem imageOffTable_check (p : Pattern) (n : Nat) :
    (!(inTravel (p.imageOrigin n) && (p.badMark.isNone || inTravel (p.markPosition n)))) = true
      ↔ ¬ p.ImageOnTable n := by
  rw [Bool.not_eq_true', ← Bool.not_eq_true, not_iff_not, Bool.and_eq_true, Bool.or_eq_true, Pattern.ImageOnTable]
  refine and_congr_right fun _ => ?_
  cases p.badMark <;> simp

theorem imageOffTable_some {n : Nat} (h1 : 1 ≤ n) (hn : n ≤ p.count) (hoff : ¬ p.ImageOnTable n)
    (hon : ∀ m, 1 ≤ m → m < n → p.ImageOnTable m) : imageOffTable p = some n := by
  refine List.find?_range'_eq_some.mpr ⟨(imageOffTable_check p n).mpr hoff, List.mem_range'_1.mpr (by omega),
    fun m h1 hm => ?_⟩
  rw [Bool.not_eq_true', ← Bool.not_eq_true, imageOffTable_check, not_not]
  exact hon m h1 hm

theorem imageOffTable_none (hon : ∀ n, 1 ≤ n → n ≤ p.count → p.ImageOnTable n) : imageOffTable p = none := by
  refine List.find?_range'_eq_none.mpr fun n h1 hn => ?_
  rw [Bool.not_eq_true', ← Bool.not_eq_true, imageOffTable_check, not_not]
  exact hon n h1 (by omega)

/-- R124: the offset of an image is that of the one before, and the pitch its selector names. -/
theorem offset_step {n : Nat} {x : Selector} (h2 : 2 ≤ n) (hx : p.selectors[(n - 2) % p.selectors.length]? = some x) :
    p.offset n = ((p.offset (n - 1)).1 + (p.pitch x).1, (p.offset (n - 1)).2 + (p.pitch x).2) := by
  obtain ⟨m, rfl⟩ := Nat.exists_eq_add_of_le' h2
  rw [Nat.add_sub_cancel] at hx
  rw [Pattern.offset, List.getD_eq_getElem?_getD, hx]
  rfl

/-! ### The load (R18) -/

/-- R123: the panel is EMPTY and no placement is in the machine. -/
def PatternMayLoad (s : State) : Prop :=
  s.tbc.panel = .empty ∧ (∀ r ∈ s.pin.queue, r = .boundary) ∧ s.csq.window = [] ∧ s.tpc.tape = []

theorem noPlacements_iff {s : State} : noPlacements s = true ↔
    (∀ r ∈ s.pin.queue, r = .boundary) ∧ s.csq.window = [] ∧ s.tpc.tape = [] := by
  simp only [noPlacements, placementCount, Bool.and_eq_true, beq_iff_eq, List.length_eq_zero_iff,
    List.filter_eq_nil_iff, bne_iff_ne, not_not, List.isEmpty_iff, and_assoc]

theorem patternMayLoad_iff {s : State} : (s.tbc.panel = .empty ∧ noPlacements s = true) ↔ PatternMayLoad s :=
  and_congr_right fun _ => noPlacements_iff

/-- R18 check 1: one entry, as long as its selector count says. -/
theorem loadLengthRight_pattern {body : List Byte} {k : Byte} (hk : body[29]? = some k)
    (hlen : body.length = 39 + k.toNat) : loadLengthRight .panelPattern (1 : Byte).toNat body = true :=
  decide_eq_true (patternBytes_eq_length.mpr ⟨[body], rfl, body.flatten_singleton.symm,
    List.forall_mem_singleton.mpr ⟨k, hk, hlen⟩⟩)

theorem rawPatternBytes_right (h : r.selectors.length < 256) :
    loadLengthRight .panelPattern (1 : Byte).toNat (rawPatternBytes r) = true := by
  refine loadLengthRight_pattern (k := byte r.selectors.length) rfl ?_
  rw [byte_toNat h]
  simp only [rawPatternBytes, List.length_append, pairBytes_length, List.length_singleton]
  show 30 + r.selectors.length + 1 + 8 = _
  omega

section

variable {tag : Byte} {s : State} (hs : Takes s)
include hs

/-- A load of one entry, from its checks. -/
theorem exec_loadPattern {body : List Byte} {raw : RawPattern} {t : State} {code : ResultCode} {data : List Byte}
    (hraw : rawPatternOf body = raw)
    (h : loadTable .panelPattern 1 body ⟨true, if s.tbc.panel = .empty ∧ noPlacements s then .ok else .busy,
      firstFault 1 (fun _ ok => !ok) (patternPlaces raw), (imageOffTable (patternOfRaw raw)).map (ResultCode.offTable, ·)⟩
      (·.updTbc ({ · with pattern := some (patternOfRaw raw) })) s = (t, code, data)) :
    exec (.tableLoadPanelPattern tag 0 1 body) s = .next (answered 0x11 tag code data t) := by
  subst hraw
  exact next_request (loadPanelPattern_blind 0 1 body) hs (by decide) h

theorem exec_loadPattern_busy {body : List Byte} {k : Byte} (hk : body[29]? = some k)
    (hlen : body.length = 39 + k.toNat) (hbusy : ¬ PatternMayLoad s) :
    exec (.tableLoadPanelPattern tag 0 1 body) s = .next (answered 0x11 tag .busy [0, 0, 0] s) :=
  exec_loadPattern hs rfl (loadTable_refused (loadLengthRight_pattern hk hlen) rfl
    (if_neg (hbusy ∘ patternMayLoad_iff.mp)) (by decide))

theorem exec_loadPattern_fault {k : Nat} (hr : r.Fits) (hfree : PatternMayLoad s) (h1 : 1 ≤ k) (h7 : k ≤ 7)
    (hwrong : ¬ PatternPlaceRight r k) (hright : ∀ j, 1 ≤ j → j < k → PatternPlaceRight r j) :
    exec (.tableLoadPanelPattern tag 0 1 (rawPatternBytes r)) s =
      .next (answered 0x11 tag .badValue ([0] ++ be16 k) s) := by
  have hbody := rawPatternOf_bytes hr
  obtain ⟨-, -, -, -, -, -, hlen, -⟩ := hr
  exact exec_loadPattern hs hbody (loadTable_fault (rawPatternBytes_right hlen) rfl
    (if_pos (patternMayLoad_iff.mpr hfree)) (patternFault_some h1 h7 hwrong hright))

/-- A load of a pattern in range, from check 6 on. -/
theorem exec_loadPattern_inRange (hp : p.Right) (hfree : PatternMayLoad s) :
    (∀ n, imageOffTable p = some n → exec (.tableLoadPanelPattern tag 0 1 (patternOut (some p))) s =
      .next (answered 0x11 tag .offTable ([0] ++ be16 n) s))
    ∧ (imageOffTable p = none → exec (.tableLoadPanelPattern tag 0 1 (patternOut (some p))) s =
      .next (answered 0x11 tag .ok [1, 0, 0] { s with tbc := { s.tbc with pattern := some p } })) := by
  have hfits := hp.fits
  have hload := fun {t : State} {code : ResultCode} {data : List Byte} => exec_loadPattern (tag := tag) (t := t)
    (code := code) (data := data) hs (rawPatternOf_bytes hfits)
  obtain ⟨-, -, -, -, -, -, hlen, -⟩ := hfits
  rw [patternOfRaw_raw hp] at hload
  rw [patternOut_eq hp]
  have hok : (if s.tbc.panel = .empty ∧ noPlacements s then ResultCode.ok else .busy) = .ok :=
    if_pos (patternMayLoad_iff.mpr hfree)
  refine ⟨fun n hn => hload (loadTable_cross (rawPatternBytes_right hlen) rfl hok (patternFault_none hp) ?_),
    fun hnone => hload (loadTable_written (rawPatternBytes_right hlen) rfl hok (patternFault_none hp) ?_)⟩
  · exact congrArg (Option.map (ResultCode.offTable, ·)) hn
  · exact congrArg (Option.map (ResultCode.offTable, ·)) hnone

end

end Sys2Proof.Machine

open Sys2Proof Sys2Proof.Machine

/-- Settles O24: the machine's state, then the places of the fields as carried, then the images of the pattern they carry. -/
theorem patternLoads : Obligations.PatternLoads := by
  unfold Obligations.PatternLoads
  refine ⟨fun tag s hs => ?_, fun p => ⟨rfl, fun n h2 x hx => offset_step h2 hx⟩⟩
  intro inRange onTable load refused free
  refine ⟨fun k body hk hlen hbusy => exec_loadPattern_busy hs hk hlen hbusy, fun r => ?_, ?_⟩
  · intro fits right body hx hy hcount hA hB hC hlen hpresent hmark k hfree h1 h7 hwrong hright
    have hplace : ∀ j, 1 ≤ j → j ≤ 7 → (PatternPlaceRight r j ↔ right j) := by
      intro j h1 h7
      interval_cases j
      exacts [patternPlaceRight_origin, patternPlaceRight_count, patternPlaceRight_pitchA, patternPlaceRight_pitchB,
        patternPlaceRight_pitchC, patternPlaceRight_selectors, patternPlaceRight_mark]
    exact exec_loadPattern_fault hs ⟨hx, hy, hcount, hA, hB, hC, hlen, hpresent, hmark⟩ hfree h1 h7
      (hwrong ∘ (hplace k h1 h7).mp) fun j h1 hj => (hplace j h1 (by omega)).mpr (hright j h1 hj)
  · intro p hx hx' hy hy' hcount hcount' hA hB hC hlen hlen' hmark hfree right
    obtain ⟨hoff, hwritten⟩ := exec_loadPattern_inRange (tag := tag) (p := p) hs
      ⟨⟨hx, hx'⟩, ⟨hy, hy'⟩, ⟨hcount, hcount'⟩, hA, hB, hC, ⟨hlen, hlen'⟩, hmark⟩ hfree
    have hon : ∀ n, p.ImageOnTable n ↔ right n := fun n =>
      and_congr inTravel_iff (imp_congr_right fun _ => inTravel_iff)
    exact ⟨fun n h1 hn hwrong hbefore => hoff n (imageOffTable_some h1 hn (hwrong ∘ (hon n).mp)
        fun m h1 hm => (hon m).mpr (hbefore m h1 hm)),
      fun hall => hwritten (imageOffTable_none fun n h1 hn => (hon n).mpr (hall n h1 hn))⟩

end

section
/-! PROOF. The levels, the lamps and the channels of ALC through the operations that more than one command uses (R141 to
R148). -/

namespace Sys2Proof.Machine

/-! ### The channels (R141, R142) -/

/-- R141, R142: a channel holds at most 8 entries, each of channel `c`, no two of one kind and subject. -/
def Channel.Right (c : ChannelId) (ch : Channel) : Prop :=
  ch.entries.length ≤ 8 ∧ (∀ e ∈ ch.entries, e.channel = c) ∧ (ch.entries.map (fun e => (e.kind, e.subject))).Nodup

theorem channelInv_iff (s : State) : ChannelInv s ↔ ∀ c, (s.alc.channel c).Right c := Iff.rfl

namespace Channel.Right

variable {c : ChannelId} {ch new : Channel}

theorem nil (h : ch.entries = []) : ch.Right c := by
  simp [Channel.Right, h]

/-- Entries that leave, and counts that change, leave a channel right. -/
theorem sublist (h : ch.Right c) (hs : new.entries.Sublist ch.entries) : new.Right c := by
  obtain ⟨hlen, hchannel, hnodup⟩ := h
  exact ⟨hs.length_le.trans hlen, fun e he => hchannel e (hs.subset he), hnodup.sublist (hs.map _)⟩

/-- R142 step 3: a fold changes no entry's kind, subject or channel. -/
theorem fold (h : ch.Right c) (now : Word32) (k : AlarmKind) (subject : Option Nat) :
    Channel.Right c { ch with entries := ch.entries.map (foldEntry now k subject) } := by
  obtain ⟨hlen, hchannel, hnodup⟩ := h
  refine ⟨(List.length_map _).trans_le hlen, ?_, ?_⟩
  · rintro e' he'
    obtain ⟨e, he, rfl⟩ := List.mem_map.mp he'
    rw [← hchannel e he]
    unfold foldEntry
    split <;> rfl
  · rw [List.map_map]
    simpa only [Function.comp_def, foldEntry_same] using hnodup

/-- R142 step 4: an entry joins a channel that has room and holds none of its kind and subject. -/
theorem append (h : ch.Right c) {e : AlarmEntry} (hroom : ch.entries.length < 8) (hc : e.channel = c)
    (hnew : ¬ ∃ x ∈ ch.entries, x.kind = e.kind ∧ x.subject = e.subject) :
    Channel.Right c { ch with entries := ch.entries ++ [e] } := by
  obtain ⟨-, hchannel, hnodup⟩ := h
  refine ⟨by rw [List.length_append]; exact hroom, ?_, ?_⟩
  · intro x hx
    rcases List.mem_append.mp hx with hx | hx
    · exact hchannel x hx
    · rw [List.mem_singleton.mp hx, hc]
  · rw [List.map_append, List.map_singleton, ← List.concat_eq_append, List.nodup_concat]
    refine ⟨fun hin => ?_, hnodup⟩
    obtain ⟨x, hx, heq⟩ := List.mem_map.mp hin
    exact hnew ⟨x, hx, Prod.mk.inj heq⟩

end Channel.Right

variable {o s t : State}

/-- With the same channels in ALC the invariant stands. -/
theorem ChannelInv.of_channels (h : ChannelInv s) (hc : ∀ c, t.alc.channel c = s.alc.channel c) : ChannelInv t := by
  intro c
  rw [hc]
  exact h c

/-- One channel changes and stays right. -/
theorem ChannelInv.setChannel (h : ChannelInv s) {c : ChannelId} {ch : Alc → Channel}
    (hc : (s.alc.channel c).Right c → (ch s.alc).Right c) : ChannelInv (s.updAlc (fun a => a.setChannel c (ch a))) := by
  intro d
  show ((s.alc.setChannel c (ch s.alc)).channel d).Right d
  rw [setChannel_channel]
  split
  next hd => exact hd ▸ hc (h c)
  · exact h d

theorem recompute_channels (h : ChannelInv s) : ChannelInv (recompute s) := h.of_channels (recompute_channel s)

theorem appended_channels {c : ChannelId} {k : AlarmKind} {subject : Option Nat} (h : ChannelInv s)
    (hnew : ¬ s.alc.Holds c k subject) (hroom : (s.alc.channel c).entries.length < 8) :
    ChannelInv (appended c k subject s) := by
  intro d
  show ((s.alc.append c (newEntry s.alc c k subject)).channel d).Right d
  rw [append_channel]
  split
  next hd =>
    subst hd
    exact Channel.Right.append (e := newEntry s.alc d k subject) (h d) hroom rfl hnew
  · exact h d

/-! ### Posts (R142 to R144, R72) -/

/-- R142 step 5: a post to a full channel that does not fold. -/
theorem postIn_overflows (onStop : State → State) {c : ChannelId} {k : AlarmKind} {subject : Option Nat}
    (h : ¬ s.alc.Holds c k subject) (hfull : 8 ≤ (s.alc.channel c).entries.length) :
    postIn onStop c k subject s = s.updAlc (·.overflowed c) := by
  rw [postIn, if_neg (mt (any_sameAs_iff ..).mp h), if_neg (Nat.not_lt.mpr hfull)]

theorem postIn_channels {onStop : State → State} (hstop : ∀ t, ChannelInv t → ChannelInv (onStop t)) (c : ChannelId)
    (k : AlarmKind) (subject : Option Nat) (h : ChannelInv s) : ChannelInv (postIn onStop c k subject s) := by
  by_cases hheld : s.alc.Holds c k subject
  · rw [postIn_folds _ hheld]
    exact h.setChannel fun hc => hc.fold _ _ _
  · by_cases hroom : (s.alc.channel c).entries.length < 8
    · rw [postIn_appends _ hheld hroom]
      have happended := appended_channels h hheld hroom
      refine recompute_channels ?_
      split
      · exact hstop _ happended
      · exact happended
    · rw [postIn_overflows _ hheld (Nat.le_of_not_lt hroom)]
      exact h.setChannel fun hc => hc.sublist (List.Sublist.refl _)

theorem postWith_channels {onStop : State → State} (hstop : ∀ t, ChannelInv t → ChannelInv (onStop t)) (k : AlarmKind)
    (subject : Option Nat) (h : ChannelInv s) : ChannelInv (postWith onStop k subject s) := by
  unfold postWith
  simp only []
  split
  · exact h.setChannel fun hc => hc.sublist (List.Sublist.refl _)
  · exact postIn_channels hstop _ k subject h

theorem postQuiet_channels (k : AlarmKind) (subject : Option Nat) (h : ChannelInv s) :
    ChannelInv (postQuiet k subject s) := postWith_channels (fun _ => id) k subject h

theorem abortSweep_channels (h : ChannelInv s) : ChannelInv (abortSweep s) := by
  unfold abortSweep
  split
  · exact h
  · exact postQuiet_channels _ _ (h.of_channels (by simp))

/-! ### What a change keeps of both invariants -/

/-- `t`, reached from `o`, has the levels and lamps that its inputs give if `o` had, and right channels if `o` had. -/
structure AlarmsKept (o t : State) : Prop where
  levels : LevelInv o → LevelInv t
  channels : ChannelInv o → ChannelInv t

namespace AlarmsKept

theorem refl (s : State) : AlarmsKept s s := ⟨id, id⟩

/-- Both invariants speak of ALC alone. -/
theorem of_alc (h : AlarmsKept o s) (ha : t.alc = s.alc) : AlarmsKept o t :=
  ⟨fun hl => (h.levels hl).of_alc ha, fun hc => (h.channels hc).of_channels fun c => by rw [ha]⟩

theorem of_view (h : AlarmsKept o s) (hv : estopView t = estopView s) : AlarmsKept o t :=
  h.of_alc (congrArg EstopView.alc hv)

/-- R147, R148: a recomputation gives the levels and lamps, whatever they were. -/
theorem recompute (h : ChannelInv o → ChannelInv s) : AlarmsKept o (recompute s) :=
  ⟨fun _ => recompute_levels s, fun ho => recompute_channels (h ho)⟩

/-- A change of ALC that leaves channels, levels and lamps. -/
theorem updAlc (h : AlarmsKept o s) {f : Alc → Alc} (hc : ∀ c, (f s.alc).channel c = s.alc.channel c)
    (hr : (f s.alc).requested = s.alc.requested) (hline : (f s.alc).estop = s.alc.estop)
    (he : (f s.alc).effective = s.alc.effective)
    (hlamps : (f s.alc).red = s.alc.red ∧ (f s.alc).amber = s.alc.amber ∧ (f s.alc).green = s.alc.green) :
    AlarmsKept o (s.updAlc f) :=
  ⟨fun hl => (h.levels hl).updAlc (fun c => by rw [hc]) hr hline he hlamps, fun ho => (h.channels ho).of_channels hc⟩

/-- A change of ALC that leaves the channels, and the level it gives. -/
theorem told (h : AlarmsKept o s) {f : Alc → Alc} (hc : ∀ c, (f s.alc).channel c = s.alc.channel c) :
    AlarmsKept o (Machine.recompute (s.updAlc f)) :=
  .recompute fun ho => (h.channels ho).of_channels hc

theorem post (h : AlarmsKept o s) (k : AlarmKind) (subject : Option Nat) : AlarmsKept o (post k subject s) :=
  ⟨fun hl => postWith_level k subject (h.levels hl),
    fun ho => postWith_channels (fun _ => abortSweep_channels) k subject (h.channels ho)⟩

theorem postQuiet (h : AlarmsKept o s) (k : AlarmKind) (subject : Option Nat) : AlarmsKept o (postQuiet k subject s) :=
  ⟨fun hl => postWith_level k subject (h.levels hl), fun ho => postQuiet_channels k subject (h.channels ho)⟩

theorem postClinchFault (h : AlarmsKept o s) (c : ChannelId) (step : Nat) : AlarmsKept o (postClinchFault c step s) :=
  ⟨fun hl => postIn_level c _ _ (h.levels hl),
    fun ho => postIn_channels (fun _ => abortSweep_channels) c _ _ (h.channels ho)⟩

end AlarmsKept

end Sys2Proof.Machine
end

section
/-! PROOF. The commands of the stations, the chain and the taper keep LevelInv and ChannelInv
(Sys2Proof/Machine/Health, Taping, Chain). -/

namespace Sys2Proof.Machine

variable {o s : State}

/-! ### Station records, the Substitution Table, the sweep -/

theorem rejectImage_alarms (panel : Byte) (n : Nat) (h : AlarmsKept o s) : AlarmsKept o (rejectImage panel n s) := by
  unfold rejectImage
  split
  · refine AlarmsKept.post ?_ _ _
    split
    · exact h
    · exact h.of_view (by simp)
  · exact h

theorem attemptSubstitution_alarms (f : Nat) (h : AlarmsKept o s) : AlarmsKept o (attemptSubstitution f s) := by
  unfold attemptSubstitution
  split
  · exact h
  · split
    · exact h
    · split
      · exact h.of_alc rfl
      · exact h.post _ _

theorem stationFailed_alarms (was : Bool) (n : Nat) (h : AlarmsKept o s) : AlarmsKept o (stationFailed was n s) := by
  unfold stationFailed
  refine attemptSubstitution_alarms n ?_
  split
  · exact h.of_alc rfl
  · exact h

theorem countedMiss_alarms (n : Nat) (h : AlarmsKept o s) : AlarmsKept o (countedMiss n s) := by
  unfold countedMiss
  simp only []
  split
  · exact stationFailed_alarms _ n ((h.of_view (by simp)).post _ _)
  · exact h.of_view (by simp)

theorem emptyReply_alarms (n : Nat) (h : AlarmsKept o s) : AlarmsKept o (emptyReply n s) := by
  unfold emptyReply
  split
  · exact h.post _ _
  · exact stationFailed_alarms _ n ((h.of_view (by simp)).post _ _)

theorem lowReply_alarms (n : Nat) (h : AlarmsKept o s) : AlarmsKept o (lowReply n s) :=
  (h.of_view (by simp)).post _ _

theorem countFire_alarms (n : Nat) (h : AlarmsKept o s) : AlarmsKept o (countFire n s) :=
  h.of_view (estopView_setRecord n _ s)

theorem reportFire_alarms (n : Nat) (r : Reply) (h : AlarmsKept o s) : AlarmsKept o (reportFire n r s) := by
  have hcounted := countFire_alarms n h
  cases r
  case dropped => exact hcounted
  case droppedLow => exact lowReply_alarms n hcounted
  case empty => exact emptyReply_alarms n hcounted
  all_goals exact countedMiss_alarms n hcounted

theorem reportTest_alarms (judged : Bool) (n : Nat) (r : Reply) (h : AlarmsKept o s) :
    AlarmsKept o (reportTest judged n r s) := by
  have hcounted := countFire_alarms n h
  unfold reportTest
  extract_lets s1 s2
  have hreported : AlarmsKept o s2 := by
    cases r
    case droppedLow => exact lowReply_alarms n hcounted
    case empty => exact emptyReply_alarms n hcounted
    all_goals exact hcounted
  split
  · exact hreported.of_view (by simp)
  · exact hreported

theorem reportSlot_alarms (slot : Nat × SlotCommand × Reply) (h : AlarmsKept o s) : AlarmsKept o (reportSlot s slot) := by
  unfold reportSlot
  split
  · exact h
  · exact reportFire_alarms _ _ h
  · exact reportTest_alarms _ _ _ h

theorem jamFailing_alarms (n : Nat) (h : AlarmsKept o s) : AlarmsKept o (jamFailing n s) := by
  have hset : AlarmsKept o (setRecord n ({ · with jammed := true }) s) := h.of_view (by simp)
  unfold jamFailing
  simp only []
  split
  · exact hset
  · exact hset.postQuiet _ _

theorem applySubstitution_alarms (failing : List Nat) (chosen : List (Nat × Nat)) (h : AlarmsKept o s) :
    AlarmsKept o (applySubstitution failing chosen s) := by
  unfold applySubstitution
  have hjammed := foldl_inv (f := fun t f => jamFailing f t) (fun t f => jamFailing_alarms f) failing h
  have hdropped := foldl_inv (f := fun t f => dropSubstitute f t) (P := AlarmsKept o) (fun _ _ ht => ht.of_alc rfl)
    failing hjammed
  exact foldl_inv (f := fun t f => noticeUnusable f t) (fun _ _ ht => ht.of_alc rfl) _ (hdropped.of_alc rfl)

theorem applySweep_alarms (w : Sweep) (h : AlarmsKept o s) : AlarmsKept o (applySweep w s) := by
  have hflags : AlarmsKept o (applyFlags w s) := h.of_view (by simp)
  unfold applySweep
  extract_lets failing chosen tooMany outcome install s1 s2
  have hinstalled : AlarmsKept o s2 := by
    simp only [s2]
    split
    · exact applySubstitution_alarms _ _ hflags
    · exact hflags
  exact (hinstalled.of_view (by simp)).post _ _

theorem sweepTest_alarms (h : AlarmsKept o s) : AlarmsKept o (sweepTest s) := by
  unfold sweepTest
  split
  · exact h
  · split
    · exact applySweep_alarms _ h
    · exact h

/-! ### Transfer actions -/

@[simp] theorem commandTransfer_alc (op : TransferOp) (s : State) : (commandTransfer op s).alc = s.alc := by
  unfold commandTransfer
  simp only []
  split <;> simp

@[simp] theorem startTransfer_alc (c : ClipState) (s : State) : (startTransfer c s).alc = s.alc := by
  unfold startTransfer startTaping
  split
  · split <;> simp
  all_goals simp

@[simp] theorem commandWaiting_alc (s : State) : (commandWaiting s).alc = s.alc := by
  unfold commandWaiting
  split <;> simp

/-! ### The chain -/

/-- A command's answer: a next state reached from `o` with the alarms kept. -/
def AnswersAlarms (o : State) : Result → Prop
  | .next t => AlarmsKept o t
  | .fault _ => True
  | .refused _ => True

theorem missCascade_alarms (missed : List Nat) (h : AlarmsKept o s) : AlarmsKept o (missCascade missed s) := by
  unfold missCascade
  simp only []
  split
  · exact h
  · exact foldl_inv (P := AlarmsKept o) (fun _ _ ht => ht.post _ _) _
      (AlarmsKept.of_view (s := countTries missed s) (h.of_alc rfl) (by simp))

theorem clipSense_alarms (present : Bool) (h : AlarmsKept o s) : AlarmsKept o (clipSense present s) := by
  have hset : ∀ p c, AlarmsKept o (setClip p c s) := fun p c => h.of_alc rfl
  unfold clipSense
  extract_lets p missed
  split
  · exact h.of_view (estopView_setRecord _ _ s)
  · exact missCascade_alarms _ (countedMiss_alarms _ (hset p _))
  · exact (hset p _).post _ _
  · exact h
  · exact hset p _
  · exact hset p _
  · exact sweepTest_alarms (h.of_alc rfl)
  · exact sweepTest_alarms (h.of_alc rfl)
  · exact h
  · exact h

theorem assignCandidate_alarms (w : WindowEntry) (h : AlarmsKept o s) : AlarmsKept o (assignCandidate w s) := by
  unfold assignCandidate
  simp only []
  split
  · exact h.post _ _
  · split
    · exact h.of_alc rfl
    · exact h

theorem assignEntering_alarms (h : AlarmsKept o s) : AlarmsKept o (assignEntering s) := by
  unfold assignEntering
  have hvalid := h.of_view (estopView_dropInvalid (s.csq.window.filter (fun w => w.status == .unassigned)) s)
  split
  case h_1 s1 w hd =>
    rw [hd] at hvalid
    exact assignCandidate_alarms w hvalid
  case h_2 s1 hd =>
    rw [hd] at hvalid
    split
    case h_1 s2 ht => exact hvalid.of_view (estopView_take ht)
    case h_2 s2 e ht => exact assignCandidate_alarms _ ((hvalid.of_view (estopView_take ht)).of_alc rfl)

theorem assignStep_alarms (h : AlarmsKept o s) : AlarmsKept o (assignStep s) := by
  unfold assignStep
  split
  · exact assignEntering_alarms h
  · exact h

theorem chainStepStart_alarms (h : AlarmsKept o s) : AnswersAlarms o (execChainStepStart s) := by
  unfold execChainStepStart
  split <;> exact h.of_alc rfl

theorem chainStepTimeout_alarms (h : AlarmsKept o s) : AnswersAlarms o (execChainStepTimeout s) := by
  unfold execChainStepTimeout
  split
  · have hended : AlarmsKept o (stepTimedOut s) := h.of_alc rfl
    exact (hended.post _ _).of_view (estopView_idleTest _)
  · exact h

theorem chainIndexEvent_alarms (present : Bool) (h : AlarmsKept o s) : AnswersAlarms o (execChainIndexEvent present s) := by
  unfold execChainIndexEvent
  split
  · extract_lets s1 s2
    have hmoved : AlarmsKept o s1 := h.of_alc rfl
    have hsensed : AlarmsKept o s2 := (clipSense_alarms present hmoved).of_view (estopView_purgeTest _)
    have hhanded : AlarmsKept o (handOver s2) := hsensed.of_alc (startTransfer_alc _ _)
    exact (assignStep_alarms hhanded).of_view (by simp)
  · exact h

theorem exchangeSend_alarms (h : AlarmsKept o s) : AnswersAlarms o (execExchangeSend s) := by
  unfold execExchangeSend
  split <;> exact h.of_alc rfl

/-- R52, R53: what is done with the replies, whatever the slots. -/
theorem exchangeWork_alarms (slots : List (Nat × SlotCommand × Reply)) (h : AlarmsKept o s) :
    AnswersAlarms o (match slots.foldl applyReply (s, []) with
      | (s2, missed) => .next (settleTest (sweepTest (slots.foldl reportSlot (missCascade missed s2))))) := by
  have hreplies := h.of_view (estopView_applyReplies slots (s, []))
  rcases hacc : slots.foldl applyReply (s, []) with ⟨s2, missed⟩
  rw [hacc] at hreplies
  have hreported := foldl_inv (f := reportSlot) (fun _ slot ht => reportSlot_alarms slot ht) slots
    (missCascade_alarms missed hreplies)
  exact (sweepTest_alarms hreported).of_view (estopView_settleTest _)

theorem exchangeComplete_alarms (replies : List ReplySlot) (h : AlarmsKept o s) :
    AnswersAlarms o (execExchangeComplete replies s) := by
  unfold execExchangeComplete
  split
  · extract_lets rs slots s1
    have h1 : AlarmsKept o s1 := h.of_alc rfl
    clear_value slots s1
    exact exchangeWork_alarms slots h1
  · exact h

theorem unusableStationCascade_alarms (h : AlarmsKept o s) : AnswersAlarms o (execUnusableStationCascade s) := by
  unfold execUnusableStationCascade
  split
  · exact h
  · extract_lets s1
    have h1 : AlarmsKept o s1 := h.of_alc rfl
    split
    · exact h1
    · exact h1.of_view (by simp)

theorem markingNoticeCsq_alarms (h : AlarmsKept o s) : AnswersAlarms o (execMarkingNoticeCsq s) := by
  unfold execMarkingNoticeCsq
  split
  · exact h
  · extract_lets s1 hit
    have h1 : AlarmsKept o s1 := h.of_alc rfl
    have hmarked := foldl_inv (f := fun t w => markEntry w t) (P := AlarmsKept o)
      (fun t w ht => ht.of_view (estopView_markEntry w t)) hit h1
    exact hmarked.of_view (estopView_idleTest _)

/-! ### The taper -/

theorem tapedEvent_alarms (h : AlarmsKept o s) : AnswersAlarms o (execTapedEvent s) := by
  unfold execTapedEvent
  split
  case h_4 => exact h
  all_goals exact AlarmsKept.of_view (s := endTransfer s) (h.of_alc rfl) (by simp)

theorem dumpEvent_alarms (h : AlarmsKept o s) : AnswersAlarms o (execDumpEvent s) := by
  unfold execDumpEvent
  split
  · extract_lets s1
    exact AlarmsKept.of_view (s := s1) (h.of_alc rfl) (by simp)
  · exact h

theorem taperTimeout_alarms (h : AlarmsKept o s) : AnswersAlarms o (execTaperTimeout s) := by
  unfold execTaperTimeout
  split
  · split
    · exact (h.of_alc (by simp)).post _ _
    · exact h
  · exact h

theorem taperRestart_alarms (h : AlarmsKept o s) : AnswersAlarms o (execTaperRestart s) := by
  unfold execTaperRestart
  split
  · split
    · exact h.of_alc (by simp)
    · exact h
  · exact h

theorem tensionBreak_alarms (h : AlarmsKept o s) : AnswersAlarms o (execTensionBreak s) := by
  unfold execTensionBreak
  split
  · refine AlarmsKept.post ?_ _ _
    exact h.of_alc rfl
  · exact h

theorem markingNoticeTpc_alarms (h : AlarmsKept o s) : AnswersAlarms o (execMarkingNoticeTpc s) := by
  unfold execMarkingNoticeTpc
  split
  · exact h
  · extract_lets hit s1
    exact foldl_inv (f := fun t (e : TapeEntry) => withdraw e.entry.uid t) (P := AlarmsKept o)
      (fun _ _ ht => ht.of_alc rfl) _ (h.of_alc rfl)

end Sys2Proof.Machine
end

section
/-! PROOF. The commands of the head, the clinch signature and the table keep LevelInv and ChannelInv
(Sys2Proof/Machine/Head, Clinch, Table). -/

namespace Sys2Proof.Machine

variable {o s : State}

/-! ### The head -/

@[simp] theorem driveTest_alc (e : TapeEntry) (s : State) : (driveTest e s).alc = s.alc := by
  unfold driveTest
  split
  · rfl
  · split <;> rfl

@[simp] theorem failSetup_alc (s : State) : (failSetup s).alc = s.alc := congrArg EstopView.alc (failSetup_view s)

@[simp] theorem abortCycle_alc (c : HeadCycle) (s : State) : (abortCycle c s).alc = s.alc :=
  congrArg EstopView.alc (abortCycle_view c s)

@[simp] theorem estopHead_alc (s : State) : (estopHead s).alc = s.alc := by
  unfold estopHead
  split
  · exact failSetup_alc s
  · rfl
  · split
    · exact abortCycle_alc _ s
    · rfl
  · rfl

theorem insertCycleStart_alarms (h : AlarmsKept o s) : AnswersAlarms o (execInsertCycleStart s) := by
  unfold execInsertCycleStart
  split
  · exact h
  · split
    · split <;> exact h.of_alc rfl
    · exact h

theorem dumpCycleStart_alarms (h : AlarmsKept o s) : AnswersAlarms o (execDumpCycleStart s) := by
  unfold execDumpCycleStart
  split
  · exact h
  · split <;> exact h.of_alc rfl

theorem freeDumpCycleStart_alarms (h : AlarmsKept o s) : AnswersAlarms o (execFreeDumpCycleStart s) := by
  unfold execFreeDumpCycleStart
  split <;> exact h.of_alc rfl

theorem homingStart_alarms (h : AlarmsKept o s) : AnswersAlarms o (execHomingStart s) := by
  unfold execHomingStart
  split <;> exact h.of_alc rfl

theorem axisReported_alc (axis : HeadAxis) (c : HeadCycle) (e : TapeEntry) (s : State) :
    (axisReported axis c e s).alc = s.alc := by
  unfold axisReported
  extract_lets c1 s1
  split <;> rfl

theorem axisInPosition_alarms (axis : HeadAxis) (h : AlarmsKept o s) : AnswersAlarms o (execAxisInPosition axis s) := by
  unfold execAxisInPosition
  split
  · split
    · split
      · exact h.of_alc (axisReported_alc ..)
      · exact h
    · exact h
  · exact h

theorem spanFault_alarms (h : AlarmsKept o s) : AnswersAlarms o (execSpanFault s) := by
  unfold execSpanFault
  split
  · exact (h.post _ _).of_alc (failSetup_alc _)
  · exact h

theorem cutDone_alarms (h : AlarmsKept o s) : AnswersAlarms o (execCutDone s) := by
  unfold execCutDone
  split <;> exact h.of_alc rfl

theorem ejectDone_alarms (h : AlarmsKept o s) : AnswersAlarms o (execEjectDone s) := by
  unfold execEjectDone
  split <;> exact h.of_alc rfl

theorem formDone_alarms (h : AlarmsKept o s) : AnswersAlarms o (execFormDone s) := by
  unfold execFormDone
  split
  · split
    · exact h.of_alc (driveTest_alc _ s)
    · exact h.of_alc rfl
  · exact h

theorem driveDone_alarms (h : AlarmsKept o s) : AnswersAlarms o (execDriveDone s) := by
  unfold execDriveDone
  split
  · split
    · refine AlarmsKept.of_view ?_ (estopView_clinchBegin _ _)
      exact h.of_alc rfl
    · exact h
  · exact h

theorem markingNoticeHdc_alarms (h : AlarmsKept o s) : AnswersAlarms o (execMarkingNoticeHdc s) := by
  unfold execMarkingNoticeHdc
  split
  · exact h
  · simp only []
    split
    · split <;> exact h.of_alc rfl
    · exact h.of_alc rfl

theorem headUp_alarms (h : AlarmsKept o s) : AnswersAlarms o (execHeadUp s) := by
  unfold execHeadUp
  split
  case h_1 c _ _ =>
    have hended : AlarmsKept o (endCycleWith (kindOutcome c.kind) c s) := h.of_view (by simp)
    refine AlarmsKept.of_view ?_ (estopView_askPin _)
    exact hended.of_alc rfl
  case h_2 => exact h

theorem phaseTimeout_alarms (h : AlarmsKept o s) : AnswersAlarms o (execPhaseTimeout s) := by
  have hjam := h.post .headJam none
  unfold execPhaseTimeout
  split
  · split
    · exact hjam.of_alc rfl
    · split
      · exact hjam.of_alc (abortCycle_alc _ _)
      · exact h
    · exact h
  · exact h

theorem homeDone_alarms (h : AlarmsKept o s) : AnswersAlarms o (execHomeDone s) := by
  unfold execHomeDone
  split
  · refine AlarmsKept.of_view ?_ (estopView_askPin _)
    exact h.of_alc rfl
  · exact h

theorem skipButton_alarms (h : AlarmsKept o s) : AnswersAlarms o (execSkipButton s) := by
  unfold execSkipButton
  split
  · split
    · exact h.of_view (estopView_discardFront s)
    · exact h.of_alc rfl
    · exact h
  · exact h

/-! ### The clinch signature -/

theorem closeWindow_alarms (w : SampleWindow) (h : AlarmsKept o s) : AlarmsKept o (closeWindow w s) :=
  closeWindow_inv (fun _ _ h => h.of_alc rfl) (fun _ h => h.of_alc rfl) (fun _ _ _ h => h.of_view (by simp))
    (fun _ _ _ h => h.post _ _) (fun _ _ _ h => h.postClinchFault _ _) (fun _ _ _ h => rejectImage_alarms _ _ h) w h

theorem forceSample_alarms (code : BitVec 12) (h : AlarmsKept o s) : AnswersAlarms o (execForceSample code s) := by
  unfold execForceSample
  split
  · exact h
  · extract_lets w1 s1
    have h1 : AlarmsKept o s1 := h.of_alc rfl
    show AlarmsKept o _
    split
    · exact closeWindow_alarms w1 h1
    · exact h1

theorem silenceTimeout_alarms (h : AlarmsKept o s) : AnswersAlarms o (execSilenceTimeout s) := by
  unfold execSilenceTimeout
  split
  · exact h
  · show AlarmsKept o _
    split
    · exact closeWindow_alarms _ h
    · exact h

theorem clinchDone_alarms (h : AlarmsKept o s) : AnswersAlarms o (execClinchDone s) := by
  unfold execClinchDone
  split
  · have hclosed : AlarmsKept o (closeIfOpen s) := by
      unfold closeIfOpen
      split
      · exact h
      · exact closeWindow_alarms _ h
    exact hclosed.of_alc rfl
  · exact h

/-! ### The handler and the panel -/

@[simp] theorem commandHandler_alc (op : HandlerOp) (s : State) : (commandHandler op s).alc = s.alc := by
  unfold commandHandler
  simp only []
  split <;> rfl

theorem handlerTimeout_alarms (h : AlarmsKept o s) : AnswersAlarms o (execHandlerTimeout s) := by
  unfold execHandlerTimeout
  split
  · split
    · refine AlarmsKept.post ?_ _ _
      exact h.of_alc rfl
    · exact h
  · exact h

theorem handlerRestart_alarms (h : AlarmsKept o s) : AnswersAlarms o (execHandlerRestart s) := by
  unfold execHandlerRestart
  split
  · split
    · exact h.of_alc rfl
    · split
      · exact h.of_alc (commandHandler_alc _ s)
      · exact h
    · exact h
  · exact h

theorem clamped_alarms (h : AlarmsKept o s) : AnswersAlarms o (execClamped s) := by
  unfold execClamped
  split <;> exact h.of_alc rfl

theorem released_alarms (h : AlarmsKept o s) : AnswersAlarms o (execReleased s) := by
  unfold execReleased
  split <;> exact h.of_alc rfl

theorem loadStart_alarms (h : AlarmsKept o s) : AnswersAlarms o (execLoadStart s) := by
  unfold execLoadStart
  split
  · refine AlarmsKept.of_view ?_ (estopView_retakeAsk _)
    exact h.of_alc (by simp)
  · exact h

theorem unloadStart_alarms (h : AlarmsKept o s) : AnswersAlarms o (execUnloadStart s) := by
  unfold execUnloadStart
  split
  · exact h.of_alc (by simp)
  · exact h

/-! ### Moves -/

theorem surveyMoveStart_alarms (h : AlarmsKept o s) : AnswersAlarms o (execSurveyMoveStart s) := by
  unfold execSurveyMoveStart
  split
  · split <;> exact h.of_alc rfl
  · exact h

theorem insertMoveStart_alarms (h : AlarmsKept o s) : AnswersAlarms o (execInsertMoveStart s) := by
  unfold execInsertMoveStart
  split
  · split <;> exact h.of_alc rfl
  · exact h

theorem readMark_alarms (present : Bool) (n : Nat) (h : AlarmsKept o s) : AlarmsKept o (readMark present n s) := by
  unfold readMark
  refine AlarmsKept.of_view ?_ (estopView_surveyNext n _)
  split
  · refine AlarmsKept.post ?_ _ _
    split
    · exact h
    · exact h.of_view (estopView_markImage _ _ s)
  · exact h

theorem reportInPosition_alc (uid : Nat) (s : State) : (reportInPosition uid s).alc = s.alc := by
  unfold reportInPosition
  simp only []
  split
  · split <;> simp
  · rfl

theorem inPosition_alarms (present : Bool) (h : AlarmsKept o s) : AnswersAlarms o (execInPosition present s) := by
  unfold execInPosition
  split
  · exact h
  · extract_lets s1
    have h1 : AlarmsKept o s1 := h.of_alc rfl
    split
    · exact readMark_alarms _ _ (h1.of_alc rfl)
    · split
      · exact h1.of_alc (reportInPosition_alc _ _)
      · exact h1

theorem followingError_alarms (h : AlarmsKept o s) : AnswersAlarms o (execFollowingError s) := by
  refine AlarmsKept.post ?_ _ _
  exact h.of_alc rfl

theorem moveTimeout_alarms (h : AlarmsKept o s) : AnswersAlarms o (execMoveTimeout s) := by
  unfold execMoveTimeout
  split
  · exact followingError_alarms h
  · exact h

theorem limitActive_alarms (h : AlarmsKept o s) : AnswersAlarms o (execLimitActive s) := by
  unfold execLimitActive
  split
  · refine AlarmsKept.post ?_ _ _
    exact h.of_alc rfl
  · exact h

end Sys2Proof.Machine
end

section
/-! PROOF. Run levels, clearing, the E-stop line, the requests, the link and the resets keep LevelInv and ChannelInv; so
does every step. -/

namespace Sys2Proof.Machine

variable {o s : State}

/-! ### Run levels, clearing, the E-stop line, the millisecond -/

theorem takeRun_alarms (h : AlarmsKept o s) : AlarmsKept o (takeRun s) := by
  have htold := h.told (f := ({ · with requested := .run })) fun c => by cases c <;> rfl
  unfold takeRun idleToRunning
  split <;> exact htold.of_alc rfl

theorem takeHold_alarms (h : AlarmsKept o s) : AlarmsKept o (takeHold s) := h.told fun c => by cases c <;> rfl

theorem takeStop_alarms (h : AlarmsKept o s) : AlarmsKept o (takeStop s) := h.told fun c => by cases c <;> rfl

theorem resumeButton_alarms (h : AlarmsKept o s) : AnswersAlarms o (execResumeButton s) := by
  show AlarmsKept o _
  split
  · exact takeRun_alarms h
  · exact h

theorem hornOff_alarms (h : AlarmsKept o s) : AlarmsKept o (s.updAlc ({ · with horn := false })) :=
  h.updAlc (fun c => by cases c <;> rfl) rfl rfl rfl ⟨rfl, rfl, rfl⟩

/-- R153: what a clear takes out leaves the rest of its channel right. -/
theorem clearEntry_alarms (c : ChannelId) (seq : Word16) (h : AlarmsKept o s) : AlarmsKept o (clearEntry c seq s) := by
  have hcleared : AlarmsKept o (recompute (s.updAlc (·.remove c seq))) :=
    .recompute fun ho => (h.channels ho).setChannel fun hc => hc.sublist (List.eraseP_sublist ..)
  unfold clearEntry
  simp only []
  split
  · unfold repostEstop
    split
    · exact hcleared.post _ _
    · exact hcleared
  · exact hcleared

theorem clearButton_alarms (h : AlarmsKept o s) : AnswersAlarms o (execClearButton s) := by
  have hoff := hornOff_alarms h
  unfold execClearButton
  simp only []
  split
  · exact hoff
  · split
    · exact clearEntry_alarms _ _ hoff
    · exact hoff

/-- R145, R147: the level is recomputed after the post, so it follows the line whatever it was before. -/
theorem estopTold_alarms (h : AlarmsKept o s) : AlarmsKept o (estopTold s) :=
  .recompute fun ho => postWith_channels (fun _ => abortSweep_channels) _ _
    ((h.channels ho).of_channels fun c => by cases c <;> rfl)

theorem estopAsserted_alarms (h : AlarmsKept o s) : AnswersAlarms o (execEstopAsserted s) := by
  unfold execEstopAsserted
  split
  · have hstep := congrArg EstopView.alc (estopStep_view (estopTold s))
    have htransfer := congrArg EstopView.alc (estopTransfer_view (estopStep (estopTold s)))
    have htable := congrArg EstopView.alc (estopTable_view (estopHead (estopTransfer (estopStep (estopTold s)))))
    exact ((((estopTold_alarms h).of_alc hstep).of_alc htransfer).of_alc (estopHead_alc _)).of_alc htable
  · exact h

theorem estopReleased_alarms (h : AlarmsKept o s) : AnswersAlarms o (execEstopReleased s) :=
  h.told (f := ({ · with estop := .released })) fun c => by cases c <;> rfl

theorem millisecondTick_alarms (h : AlarmsKept o s) : AnswersAlarms o (execMillisecondTick s) :=
  (h.updAlc (f := fun a => { a with ms := a.ms + 1 }) (fun c => by cases c <;> rfl) rfl rfl rfl ⟨rfl, rfl, rfl⟩).of_alc rfl

/-! ### The acts of the requests -/

/-- An act that keeps the alarms. -/
def Act.KeepsAlarms (act : Act) : Prop := ∀ {o s}, AlarmsKept o s → AlarmsKept o (act s).1

theorem Act.keepsAlarms_of_alc {act : Act} (h : ∀ s, (act s).1.alc = s.alc) : act.KeepsAlarms := fun hs => hs.of_alc (h _)

theorem Act.keepsAlarms_of_view {act : Act} (h : ∀ s, estopView (act s).1 = estopView s) : act.KeepsAlarms :=
  fun hs => hs.of_view (h _)

theorem refused_alarms (code : ResultCode) (data : List Byte) : Act.KeepsAlarms (fun s => (s, code, data)) := id

/-- R18: a load writes whole or leaves everything as it is. -/
theorem loadTable_state (t : TableName) (count : Byte) (body : List Byte) (k : LoadCheck) (write : State → State)
    (s : State) : (loadTable t count body k write s).1 = s ∨ (loadTable t count body k write s).1 = write s := by
  unfold loadTable
  split
  · exact .inl rfl
  · split
    · exact .inl rfl
    · split
      · exact .inl rfl
      · exact .inl rfl
      · exact .inr rfl
      · exact .inl rfl

theorem loadTable_alarms (t : TableName) (count : Byte) (body : List Byte) (k : LoadCheck) {write : State → State}
    (hwrite : AlarmsKept o (write s)) (h : AlarmsKept o s) : AlarmsKept o (loadTable t count body k write s).1 := by
  rcases loadTable_state t count body k write s with heq | heq <;> rw [heq]
  · exact h
  · exact hwrite

theorem loadComponent_alarms (first : Word16) (count : Byte) (body : List Byte) :
    (loadComponent first count body).KeepsAlarms := fun h =>
  loadTable_alarms _ _ _ _ (h.of_view (estopView_retakeAsk _)) h

theorem loadSpan_alarms (first : Word16) (count : Byte) (body : List Byte) :
    (loadSpan first count body).KeepsAlarms := fun h => loadTable_alarms _ _ _ _ (h.of_alc rfl) h

theorem loadStationMap_alarms (first : Word16) (count : Byte) (body : List Byte) :
    (loadStationMap first count body).KeepsAlarms := fun h => loadTable_alarms _ _ _ _ (h.of_alc rfl) h

theorem loadProfile_alarms (first : Word16) (count : Byte) (body : List Byte) :
    (loadProfile first count body).KeepsAlarms := fun h => loadTable_alarms _ _ _ _ (h.of_alc rfl) h

theorem loadFilterSet_alarms (first : Word16) (count : Byte) (body : List Byte) :
    (loadFilterSet first count body).KeepsAlarms := fun h => loadTable_alarms _ _ _ _ (h.of_alc rfl) h

theorem loadPanelPattern_alarms (first : Word16) (count : Byte) (body : List Byte) :
    (loadPanelPattern first count body).KeepsAlarms := fun h => loadTable_alarms _ _ _ _ (h.of_alc rfl) h

/-- R140: a new map says where the next post goes, and moves no entry that stands. -/
theorem loadAlarmMap_alarms (first : Word16) (count : Byte) (body : List Byte) :
    (loadAlarmMap first count body).KeepsAlarms := fun h =>
  loadTable_alarms _ _ _ _ (h.updAlc (fun c => by cases c <;> rfl) rfl rfl rfl ⟨rfl, rfl, rfl⟩) h

theorem loadConstants_alarms (first : Word16) (count : Byte) (body : List Byte) :
    (loadConstants first count body).KeepsAlarms := fun h =>
  loadTable_alarms _ _ _ _ (h.of_view (estopView_writeConstants _ _)) h

theorem loadReadOnly_alarms (t : TableName) (count : Byte) (body : List Byte) :
    (loadReadOnly t count body).KeepsAlarms := Act.keepsAlarms_of_alc fun s => by
  unfold loadReadOnly
  split <;> rfl

theorem readTable_alarms (t : TableName) (first : Word16) (count : Byte) (right : Bool) (extra entries : List Byte)
    (h : AlarmsKept o s) : AlarmsKept o (readTable t first count right extra entries s).1 := by
  unfold readTable
  split
  · exact h
  · simp only []
    split <;> exact h

theorem actPlace_alarms (payload : List Byte) : (actPlace payload).KeepsAlarms := Act.keepsAlarms_of_view fun s => by
  unfold actPlace
  split
  · rfl
  · split
    · rfl
    · simp only []
      split
      · exact estopView_placeRecords _ s
      · exact (estopView_retakeAsk _).trans (estopView_placeRecords _ s)

theorem actStationFlags_alarms (station clear set : Byte) : (actStationFlags station clear set).KeepsAlarms :=
  Act.keepsAlarms_of_view fun s => by
    unfold actStationFlags
    split
    · rfl
    · exact foldl_keep estopView (fun t n => applyStationFlags clear set n t)
        (fun t n => estopView_applyStationFlags clear set n t) _ s

theorem actRun_alarms : actRun.KeepsAlarms := fun {o s} h => by
  unfold actRun
  split
  · exact takeRun_alarms h
  · exact h

theorem actPanelLoad_alarms : actPanelLoad.KeepsAlarms := Act.keepsAlarms_of_alc fun s => by
  unfold actPanelLoad
  split <;> rfl

theorem flushRecord_alc (r : QueueRecord) (s : State) : (flushRecord r s).alc = s.alc := by
  cases r <;> rfl

theorem actFlush_alarms : actFlush.KeepsAlarms := Act.keepsAlarms_of_alc fun s =>
  foldl_keep State.alc (fun t r => flushRecord r t) (fun t r => flushRecord_alc r t) _ s

theorem actSweep_alarms (payload : List Byte) : (actSweep payload).KeepsAlarms := Act.keepsAlarms_of_alc fun s => by
  unfold actSweep
  split
  · rfl
  · split <;> rfl

theorem actSweepResult_alarms : actSweepResult.KeepsAlarms := Act.keepsAlarms_of_alc fun s => by
  unfold actSweepResult
  split
  · rfl
  · split <;> rfl

theorem clearTape_alc (s : State) : (clearTape s).alc = s.alc := by
  have hlost : (s.tpc.tape.foldl (fun t e => loseEntry e t) s).alc = s.alc :=
    foldl_keep State.alc (fun t e => loseEntry e t) (fun _ _ => rfl) _ s
  unfold clearTape
  extract_lets s1 s2
  refine (congrArg EstopView.alc (estopView_askPin _)).trans ?_
  exact (commandWaiting_alc _).trans hlost

theorem actTapeClear_alarms : actTapeClear.KeepsAlarms := Act.keepsAlarms_of_alc fun s => by
  unfold actTapeClear
  split
  · rfl
  · exact clearTape_alc s

theorem actMode_alarms (value : Byte) : (actMode value).KeepsAlarms := Act.keepsAlarms_of_view fun s => by
  unfold actMode
  split
  · rfl
  · split
    · rfl
    · split
      · exact estopView_writeConstants _ _
      · rfl

theorem actAlarmRead_alarms (channel : Byte) : (actAlarmRead channel).KeepsAlarms := Act.keepsAlarms_of_alc fun s => by
  unfold actAlarmRead
  split <;> rfl

theorem actAlarmClear_alarms (channel : Byte) (seq : Word16) : (actAlarmClear channel seq).KeepsAlarms := fun {o s} h => by
  unfold actAlarmClear
  split
  · exact h
  · split
    · exact h
    · split
      · exact clearEntry_alarms _ _ h
      · exact h

theorem actHold_alarms : actHold.KeepsAlarms := takeHold_alarms

theorem actStop_alarms : actStop.KeepsAlarms := takeStop_alarms

theorem actHornOff_alarms : actHornOff.KeepsAlarms := hornOff_alarms

theorem actStatus_alarms : actStatus.KeepsAlarms := id

theorem readRing_alarms : Act.KeepsAlarms readRing := Act.keepsAlarms_of_alc fun _ => rfl

theorem actRecordReadNext_alarms : actRecordReadNext.KeepsAlarms := Act.keepsAlarms_of_alc fun _ => rfl

theorem actReset_alarms : actReset.KeepsAlarms := Act.keepsAlarms_of_alc fun _ => rfl

/-! ### The acts by their kind (R164) -/

theorem noPayload_alarms {act : Act} (h : act.KeepsAlarms) (payload : List Byte) : (noPayload act payload).KeepsAlarms := by
  unfold noPayload
  split
  · exact h
  · exact refused_alarms _ _

theorem actTableLoad_alarms (payload : List Byte) : (actTableLoad payload).KeepsAlarms := by
  unfold actTableLoad
  split
  case h_2 => exact refused_alarms _ _
  case h_1 f1 f0 count body =>
    extract_lets first
    split
    · exact refused_alarms _ _
    · exact loadComponent_alarms first count body
    · exact loadSpan_alarms first count body
    · exact loadStationMap_alarms first count body
    · exact loadProfile_alarms first count body
    · exact loadFilterSet_alarms first count body
    · exact loadPanelPattern_alarms first count body
    · exact loadAlarmMap_alarms first count body
    · exact loadConstants_alarms first count body
    · exact loadReadOnly_alarms _ count body

theorem actTableRead_alarms (payload : List Byte) : (actTableRead payload).KeepsAlarms := by
  unfold actTableRead
  split
  case h_2 => exact refused_alarms _ _
  case h_1 t f1 f0 count =>
    extract_lets first
    split
    · exact refused_alarms _ _
    all_goals exact fun h => readTable_alarms _ first count _ _ _ h

theorem actOf_alarms (kind : Byte) (payload : List Byte) : (actOf kind payload).KeepsAlarms := by
  unfold actOf
  split
  · exact actPlace_alarms _
  · exact actTableLoad_alarms _
  · exact actTableRead_alarms _
  · split
    · exact actStationFlags_alarms _ _ _
    · exact refused_alarms _ _
  · exact noPayload_alarms actRun_alarms _
  · exact noPayload_alarms actHold_alarms _
  · exact noPayload_alarms actStop_alarms _
  · exact noPayload_alarms actHornOff_alarms _
  · exact noPayload_alarms actPanelLoad_alarms _
  · exact noPayload_alarms actFlush_alarms _
  · exact actSweep_alarms _
  · exact noPayload_alarms actSweepResult_alarms _
  · exact noPayload_alarms actTapeClear_alarms _
  · split
    · exact actMode_alarms _
    · exact refused_alarms _ _
  · split
    · exact actAlarmRead_alarms _
    · exact refused_alarms _ _
  · split
    · exact actAlarmClear_alarms _ _
    · exact refused_alarms _ _
  · exact noPayload_alarms actStatus_alarms _
  · exact noPayload_alarms readRing_alarms _
  · exact noPayload_alarms actRecordReadNext_alarms _
  · exact noPayload_alarms actReset_alarms _
  · exact refused_alarms _ _

theorem request_alarms (kind tag : Byte) {act : Act} (h : act.KeepsAlarms) (hs : AlarmsKept o s) :
    AnswersAlarms o (.next (request kind tag act s)) := by
  show AlarmsKept o (request kind tag act s)
  unfold request
  split
  · exact hs.of_alc rfl
  · have hplaced : AlarmsKept o (s.updLpu (·.pushOwn (answerPlace tag))) := hs.of_alc rfl
    exact (h hplaced).of_alc rfl

/-! ### Frames (R157 to R163) -/

theorem receiveError_alarms (p : Port) (e : ReceiveError) (h : AlarmsKept o s) : AlarmsKept o (receiveError p e s) := by
  unfold receiveError
  extract_lets s1
  have h1 : AlarmsKept o s1 := h.of_alc rfl
  split
  · exact h1.post _ _
  · exact h1

theorem dispatchFrame_alarms (f : Frame) (h : AlarmsKept o s) : AlarmsKept o (dispatchFrame f s) := by
  unfold dispatchFrame
  split
  · exact h
  · exact request_alarms f.kind f.tag (actOf_alarms _ _) h

theorem routeUpstream_alarms (f : Frame) (h : AlarmsKept o s) : AlarmsKept o (routeUpstream f s) := by
  unfold routeUpstream
  split
  · exact dispatchFrame_alarms f (h.of_alc rfl)
  · split
    · exact dispatchFrame_alarms f h
    · exact h.of_alc rfl

theorem frameReceived_alarms (p : Port) (f : Frame) (h : AlarmsKept o s) : AlarmsKept o (frameReceived p f s) := by
  unfold frameReceived
  split
  · exact receiveError_alarms _ _ h
  · split
    · cases p
      · exact routeUpstream_alarms f (h.of_alc rfl)
      · exact h.of_alc rfl
    · exact receiveError_alarms _ _ h

theorem takeByte_alarms (p : Port) (bytes : List Byte) (b : Byte) (h : AlarmsKept o s) :
    AlarmsKept o (takeByte p bytes b s) := by
  unfold takeByte
  extract_lets all
  split
  · exact h.of_alc rfl
  · split
    · exact receiveError_alarms _ _ h
    · split
      · exact h.of_alc rfl
      · split
        · exact frameReceived_alarms _ _ h
        · exact h.of_alc rfl

theorem interByteTimeout_alarms (p : Port) (h : AlarmsKept o s) : AnswersAlarms o (execInterByteTimeout p s) := by
  unfold execInterByteTimeout
  split
  · exact receiveError_alarms _ _ h
  · exact h

theorem frameByteReceived_alarms (p : Port) (b : Byte) (h : AlarmsKept o s) :
    AnswersAlarms o (execFrameByteReceived p b s) := by
  unfold execFrameByteReceived
  split
  · split
    · exact h.of_alc rfl
    · exact receiveError_alarms _ _ h
  · exact takeByte_alarms _ _ _ h

theorem lengthError_alarms (p : Port) (b : Byte) (h : AlarmsKept o s) : AnswersAlarms o (execLengthError p b s) := by
  unfold execLengthError
  split
  · split
    · exact receiveError_alarms _ _ h
    · exact h
  · exact h

theorem frameCrcMismatch_alarms (p : Port) (b : Byte) (h : AlarmsKept o s) :
    AnswersAlarms o (execFrameCrcMismatch p b s) := by
  unfold execFrameCrcMismatch
  split
  · split
    · split
      · exact h
      · exact receiveError_alarms _ _ h
    · exact h
  · exact h

/-! ### The resets (R155) -/

/-- R155: with empty channels and requested STOP the levels follow, whatever the line; the posts keep them. -/
theorem atReset_alarms (hlevel : LevelInv s) (hempty : ∀ c, (s.alc.channel c).entries = []) :
    AlarmsKept o (repost (releaseAtReset s)) := by
  have hreset : AlarmsKept o s := ⟨fun _ => hlevel, fun _ c => Channel.Right.nil (hempty c)⟩
  exact foldl_inv (f := fun t k => post k none t) (fun _ _ ht => ht.post _ _) _ (hreset.of_alc (commandHandler_alc _ s))

theorem powerOnReset_alarms (pins : BitVec 5) (e : LineState) (b : Tension) (l : LimitState) (s : State) :
    AnswersAlarms o (execPowerOnReset pins e b l s) := by
  rw [execPowerOnReset_eq]
  exact atReset_alarms (by cases e <;> exact ⟨rfl, rfl⟩) fun c => by cases c <;> rfl

theorem softReset_alarms (s : State) : AlarmsKept o (softReset s) := by
  rw [softReset_eq]
  exact atReset_alarms ⟨(effectiveOf_requested_stop rfl).symm, rfl⟩ fun c => by cases c <;> rfl

theorem upstreamSendEnd_alarms (h : AlarmsKept o s) : AnswersAlarms o (execUpstreamSendEnd s) := by
  unfold execUpstreamSendEnd
  split
  · split
    · exact softReset_alarms _
    · exact h.of_alc rfl
  · exact h.of_alc rfl

/-! ### Every command -/

theorem exec_alarms (i : Instr) (h : AlarmsKept o s) : AnswersAlarms o (exec i s) := by
  cases i
  case powerOnReset pins e b l => exact powerOnReset_alarms pins e b l s
  case millisecondTick => exact millisecondTick_alarms h
  case upstreamFrameReceived f => exact frameReceived_alarms .upstream f h
  case downstreamFrameReceived f => exact frameReceived_alarms .downstream f h
  case framingError p => exact receiveError_alarms p .framing h
  case interByteTimeout p => exact interByteTimeout_alarms p h
  case lengthError p b => exact lengthError_alarms p b h
  case upstreamSendEnd => exact upstreamSendEnd_alarms h
  case place tag payload => exact request_alarms _ tag (actPlace_alarms payload) h
  case tableLoadComponent tag f c body => exact request_alarms _ tag (loadComponent_alarms f c body) h
  case tableLoadSpan tag f c body => exact request_alarms _ tag (loadSpan_alarms f c body) h
  case tableLoadStationMap tag f c body => exact request_alarms _ tag (loadStationMap_alarms f c body) h
  case tableLoadProfile tag f c body => exact request_alarms _ tag (loadProfile_alarms f c body) h
  case tableLoadFilterSet tag f c body => exact request_alarms _ tag (loadFilterSet_alarms f c body) h
  case tableLoadPanelPattern tag f c body => exact request_alarms _ tag (loadPanelPattern_alarms f c body) h
  case tableLoadAlarmMap tag f c body => exact request_alarms _ tag (loadAlarmMap_alarms f c body) h
  case tableLoadConstants tag f c body => exact request_alarms _ tag (loadConstants_alarms f c body) h
  case stationFlags tag n clear set => exact request_alarms _ tag (actStationFlags_alarms n clear set) h
  case run tag => exact request_alarms _ tag actRun_alarms h
  case hold tag => exact request_alarms _ tag actHold_alarms h
  case stop tag => exact request_alarms _ tag actStop_alarms h
  case hornOff tag => exact request_alarms _ tag actHornOff_alarms h
  case panelLoad tag => exact request_alarms _ tag actPanelLoad_alarms h
  case flush tag => exact request_alarms _ tag actFlush_alarms h
  case sweep tag payload => exact request_alarms _ tag (actSweep_alarms payload) h
  case sweepResult tag => exact request_alarms _ tag actSweepResult_alarms h
  case tapeClear tag => exact request_alarms _ tag actTapeClear_alarms h
  case mode tag value => exact request_alarms _ tag (actMode_alarms value) h
  case alarmRead tag channel => exact request_alarms _ tag (actAlarmRead_alarms channel) h
  case alarmClear tag channel seq => exact request_alarms _ tag (actAlarmClear_alarms channel seq) h
  case status tag => exact request_alarms _ tag actStatus_alarms h
  case recordReadStart tag => exact request_alarms _ tag readRing_alarms h
  case recordReadNext tag => exact request_alarms _ tag actRecordReadNext_alarms h
  case reset tag => exact request_alarms _ tag actReset_alarms h
  case resumeButton => exact resumeButton_alarms h
  case holdButton => exact takeHold_alarms h
  case clearButton => exact clearButton_alarms h
  case skipButton => exact skipButton_alarms h
  case estopAsserted => exact estopAsserted_alarms h
  case estopReleased => exact estopReleased_alarms h
  case tensionBreak => exact tensionBreak_alarms h
  case limitActive => exact limitActive_alarms h
  case chainStepStart => exact chainStepStart_alarms h
  case chainIndexEvent present => exact chainIndexEvent_alarms present h
  case chainStepTimeout => exact chainStepTimeout_alarms h
  case exchangeSend => exact exchangeSend_alarms h
  case exchangeComplete replies => exact exchangeComplete_alarms replies h
  case unusableStationCascade => exact unusableStationCascade_alarms h
  case tapedEvent => exact tapedEvent_alarms h
  case dumpEvent => exact dumpEvent_alarms h
  case taperTimeout => exact taperTimeout_alarms h
  case taperRestart => exact taperRestart_alarms h
  case downstreamSendEnd | tensionNormal | limitReleased | markingNoticePin => exact h.of_alc rfl
  case markingNoticeCsq => exact markingNoticeCsq_alarms h
  case markingNoticeTpc => exact markingNoticeTpc_alarms h
  case markingNoticeHdc => exact markingNoticeHdc_alarms h
  case insertCycleStart => exact insertCycleStart_alarms h
  case dumpCycleStart => exact dumpCycleStart_alarms h
  case freeDumpCycleStart => exact freeDumpCycleStart_alarms h
  case axisInPosition axis => exact axisInPosition_alarms axis h
  case spanFault => exact spanFault_alarms h
  case cutDone => exact cutDone_alarms h
  case formDone => exact formDone_alarms h
  case driveDone => exact driveDone_alarms h
  case clinchDone => exact clinchDone_alarms h
  case ejectDone => exact ejectDone_alarms h
  case headUp => exact headUp_alarms h
  case phaseTimeout => exact phaseTimeout_alarms h
  case homingStart => exact homingStart_alarms h
  case homeDone => exact homeDone_alarms h
  case forceSample code => exact forceSample_alarms code h
  case silenceTimeout => exact silenceTimeout_alarms h
  case loadStart => exact loadStart_alarms h
  case unloadStart => exact unloadStart_alarms h
  case clamped => exact clamped_alarms h
  case released => exact released_alarms h
  case handlerTimeout => exact handlerTimeout_alarms h
  case handlerRestart => exact handlerRestart_alarms h
  case surveyMoveStart => exact surveyMoveStart_alarms h
  case insertMoveStart => exact insertMoveStart_alarms h
  case inPosition present => exact inPosition_alarms present h
  case followingError => exact followingError_alarms h
  case moveTimeout => exact moveTimeout_alarms h
  case frameByteReceived p b => exact frameByteReceived_alarms p b h
  case frameCrcMismatch p b => exact frameCrcMismatch_alarms p b h
  all_goals exact request_alarms _ _ (fun ht => readTable_alarms _ _ _ _ _ _ ht) h

/-- A step takes a command from the queue, of which ALC holds nothing, or idles. -/
theorem step_alarms {t : State} (h : step s = .next t) : AlarmsKept s t := by
  unfold step at h
  split at h
  case h_1 =>
    obtain rfl := Host.Outcome.next.inj h
    exact .refl _
  case h_2 c rest hq =>
    have hnext := exec_alarms c ((AlarmsKept.refl s).of_alc (t := s.withPending rest) rfl)
    rw [h] at hnext
    exact hnext

end Sys2Proof.Machine

open Sys2Proof Sys2Proof.Machine

/-- Settles O55: every command, and so every step, keeps both invariants of ALC. -/
theorem levelsAndChannelsAreKept : Obligations.LevelsAndChannelsAreKept := by
  unfold Obligations.LevelsAndChannelsAreKept
  intro s t hstep
  exact ⟨(step_alarms hstep).levels, (step_alarms hstep).channels⟩

end

section
/-! PROOF. A post by the map entry of its kind: suppressed, folded, counted as overflow, or appended
(R141, R142, R143, R168). -/

namespace Sys2Proof.Machine

variable {s : State} {c : ChannelId} {k : AlarmKind} {subject : Option Nat}

/-- R142 step 2. -/
theorem post_suppressed (h : (s.alc.mapOf k).suppress = true) :
    post k subject s = s.updAlc (·.suppress (s.alc.mapOf k).channel) := if_pos h

/-- R142 steps 3 to 5: a post that is not suppressed goes to the channel of its kind. -/
theorem post_unsuppressed (h : (s.alc.mapOf k).suppress = false) :
    post k subject s = postIn abortSweep (s.alc.mapOf k).channel k subject s := if_neg (by simp [h])

/-- R142 step 3: the fold, entry by entry. -/
theorem foldEntry_eq (now : Word32) (e : AlarmEntry) : foldEntry now k subject e =
    if e.kind = k ∧ e.subject = subject then { e with repeats := satInc 255 e.repeats, last := now } else e := by
  simp only [foldEntry, sameAs_iff]

theorem updAlc_fold (s : State) : s.updAlc (·.fold c k subject) = { s with
    alc := s.alc.setChannel c { s.alc.channel c with entries := (s.alc.channel c).entries.map (fun e =>
      if e.kind = k ∧ e.subject = subject then { e with repeats := satInc 255 e.repeats, last := s.alc.ms } else e) } } := by
  simp only [State.updAlc, Alc.fold, ← foldEntry_eq]

/-- R142 step 4: an append while no sweep is to be ended. -/
theorem post_appends (hmap : (s.alc.mapOf k).suppress = false) (hnew : ¬ s.alc.Holds (s.alc.mapOf k).channel k subject)
    (hroom : (s.alc.channel (s.alc.mapOf k).channel).entries.length < 8)
    (hsweep : s.shu.sweep = none ∨ (s.alc.mapOf k).channel ≠ .stop) :
    post k subject s = recompute (appended (s.alc.mapOf k).channel k subject s) := by
  rw [post_unsuppressed hmap, postIn_appends _ hnew hroom]
  split
  next hstop =>
    have hnone : s.shu.sweep = none := hsweep.resolve_right fun h => h hstop
    rw [abortSweep_none (by exact hnone)]
  · rfl

/-- R143: the latch on the requested level, in words. -/
theorem latched_eq (c : ChannelId) (r : Level) :
    latched c r = if c = .stop then .stop else if c = .hold ∧ r = .run then .hold else r := by
  cases c <;> simp [latched]

/-- R147: what the recomputation after an append does, seen from before the append. -/
theorem appended_told (c : ChannelId) (k : AlarmKind) (subject : Option Nat) (s : State) :
    LevelOnly s (recompute (appended c k subject s)) ∧ LevelTold s (recompute (appended c k subject s))
      ∧ SequencerTold s (recompute (appended c k subject s)) := by
  have heff : (appended c k subject s).alc.effective = s.alc.effective := by simp [appended]
  obtain ⟨honly, htold, hseq⟩ := recompute_told (appended c k subject s)
  simp only [LevelTold, SequencerTold, heff] at htold hseq
  exact ⟨honly, htold, hseq⟩

/-- R142 step 4, R143: the channels after an append. -/
theorem appended_channel (c d : ChannelId) (k : AlarmKind) (subject : Option Nat) (s : State) :
    (recompute (appended c k subject s)).alc.channel d =
      if d = c then { s.alc.channel c with entries := (s.alc.channel c).entries ++ [newEntry s.alc c k subject] }
      else s.alc.channel d := by
  rw [recompute_channel]
  exact append_channel ..

/-- R168: the ALARM NOTICE joins the answer queue, or is counted as dropped. -/
theorem notice_eq (l : Lpu) (e : AlarmEntry) : l.notice e = if l.answers.length < 2 ∧ l.resetPending = false
    then l.pushOwn ⟨mkFrame l.sender 0x81 0 (alarmBytes e), false⟩
    else { l with noticeDrops := satInc 65535 l.noticeDrops } := rfl

end Sys2Proof.Machine

open Sys2Proof Sys2Proof.Machine

/-- Settles O28: each case of R142 is one equation for the post; an append is the entry joined, and the level recomputed. -/
theorem postsAreTakenByTheMap : Obligations.PostsAreTakenByTheMap := by
  unfold Obligations.PostsAreTakenByTheMap
  intro k subject s c ch same
  refine ⟨fun hsuppress => post_suppressed hsuppress, fun hmap => ⟨fun hheld => ?_, fun hnew hfull => ?_,
    fun hnew hroom hsweep => ?_⟩⟩
  · rw [post_unsuppressed hmap, postIn_folds _ hheld]
    exact updAlc_fold s
  · rw [post_unsuppressed hmap]
    exact postIn_overflows _ hnew hfull
  · intro e t
    have ht : t = recompute (appended c k subject s) := post_appends hmap hnew hroom hsweep
    obtain ⟨honly, htold, hseq⟩ := appended_told c k subject s
    have hchannel := fun d => appended_channel c d k subject s
    rw [ht]
    refine ⟨honly, htold, hseq, recompute_follows _, ?_, fun d hd => ?_, ?_, ?_, ?_, ?_, ?_, ?_, ?_⟩
    · rw [hchannel, if_pos rfl]
      rfl
    · rw [hchannel, if_neg hd]
    · simp [appended, Alc.append]
    · simp [appended]
    · simp [appended]
    · simp [appended]
    · rw [← latched_eq]
      simp [appended, Alc.append]
    · simp [appended, Alc.append]
    · have hlpu : (recompute (appended c k subject s)).lpu = (appended c k subject s).lpu := by simp
      exact hlpu.trans (notice_eq s.lpu e)

end

section
/-! PROOF. The CRC of the link, its residue, and the frames the part sends and forwards (R158, R160, R162, R168). -/

namespace Sys2Proof.Machine

/-! ### The register (R158) -/

theorem crc16_concat (bytes : List Byte) (b : Byte) : crc16 (bytes ++ [b]) = crcByte (crc16 bytes) b :=
  List.foldl_concat ..

/-- R158: one byte, its bits counted from the most significant one. -/
theorem crcByte_eq_foldl (crc : Word16) (b : Byte) : crcByte crc b = (List.range 8).foldl (fun (r : Word16) i =>
    if r.getMsbD 0 = b.getMsbD i then r <<< 1 else (r <<< 1) ^^^ 0x1021) crc := by
  have hbits : [7, 6, 5, 4, 3, 2, 1, 0] = (List.range 8).map (7 - ·) := rfl
  rw [crcByte, hbits, List.foldl_map]
  refine List.foldl_ext _ _ _ fun r i hi => ?_
  have hi : i < 8 := List.mem_range.mp hi
  simp [crcBit, BitVec.getMsbD, hi]

/-- Data bits that are the register's own top bits shift it and combine nothing. -/
theorem crcBit_own (crc : Word16) : crcBit crc (crc.getLsbD 15) = crc <<< 1 := if_pos rfl

/-- R158: a byte equal to the register's high byte shifts it out. -/
theorem crcByte_own (crc : Word16) (b : Byte) (h : ∀ i < 8, b.getLsbD i = crc.getLsbD (8 + i)) :
    crcByte crc b = crc <<< 8 := by
  have hshift : ∀ j < 8, crcBit (crc <<< j) (b.getLsbD (7 - j)) = crc <<< (j + 1) := fun j hj => by
    have htop : b.getLsbD (7 - j) = (crc <<< j).getLsbD 15 := by
      rw [h _ (by omega), BitVec.getLsbD_shiftLeft]
      have hplace : 8 + (7 - j) = 15 - j := by omega
      simp [hplace, show ¬ 15 < j by omega]
    rw [htop, crcBit_own, ← BitVec.shiftLeft_add]
  have hall : ∀ n ≤ 8, (List.range n).foldl (fun c i => crcBit c (b.getLsbD (7 - i))) crc = crc <<< n := by
    intro n hn
    induction n with
    | zero => simp
    | succ n ih => rw [List.range_succ, List.foldl_concat, ih (by omega), hshift n (by omega)]
  exact hall 8 le_rfl

theorem byte_getLsbD (n i : Nat) : (byte n).getLsbD i = (decide (i < 8) && n.testBit i) := BitVec.getLsbD_ofNat ..

/-- R158: the register over bytes and then their own CRC. -/
theorem crcByte_residue (crc : Word16) : crcByte (crcByte crc (byte (crc.toNat / 256))) (byte crc.toNat) = 0 := by
  have hhigh : crcByte crc (byte (crc.toNat / 256)) = crc <<< 8 := crcByte_own _ _ fun i hi => by
    rw [byte_getLsbD, BitVec.getLsbD, Nat.testBit_div_two_pow _ (n := 8), Nat.add_comm]
    simp [hi]
  have hlow : crcByte (crc <<< 8) (byte crc.toNat) = crc <<< 8 <<< 8 := crcByte_own _ _ fun i hi => by
    rw [byte_getLsbD, BitVec.getLsbD_shiftLeft]
    simp only [hi, decide_true, Bool.true_and, show 8 + i < 16 by omega, Nat.not_lt.mpr (Nat.le_add_right 8 i),
      decide_false, Bool.not_false, Nat.add_sub_cancel_left]
    rfl
  rw [hhigh, hlow, ← BitVec.shiftLeft_add]
  exact BitVec.shiftLeft_eq_zero (le_refl 16)

theorem crc16_residue (bytes : List Byte) : crc16 (bytes ++ be16 (crc16 bytes).toNat) = 0 := by
  rw [be16, List.append_cons, crc16_concat, crc16_concat]
  exact crcByte_residue _

/-- R158: the check value, bit by bit. -/
theorem crc16_check : crc16 [0x31, 0x32, 0x33, 0x34, 0x35, 0x36, 0x37, 0x38, 0x39] = 0x29B1 := by
  simp [crc16, crcByte, crcBit]

/-! ### The part's own frames, and forwarded ones -/

theorem crcRight_iff (f : Frame) : Frame.crcRight f = true ↔ f.crc = crc16 (Frame.covered f) := decide_eq_true_iff

theorem mkFrame_crc (address kind tag : Byte) (payload : List Byte) :
    (mkFrame address kind tag payload).crc = crc16 (Frame.covered (mkFrame address kind tag payload)) := by
  simp only [mkFrame, Frame.covered]

variable {l : Lpu}

theorem notice_answers (hroom : l.answers.length < 2) (hpending : l.resetPending = false) (e : AlarmEntry) :
    (l.notice e).answers = l.answers ++ [⟨mkFrame l.sender 0x81 0 (alarmBytes e), false⟩] := by
  rw [notice_eq, if_pos ⟨hroom, hpending⟩]
  simp

/-- R160: a frame joins a forward buffer as it came. -/
theorem forwardDown_joins (h : l.downForward.length < 2) (f : Frame) :
    l.forwardDown f = { l with downForward := l.downForward ++ [f] } := if_pos h

theorem forwardUp_joins (h : l.upForward.length < 2) (f : Frame) :
    l.forwardUp f = Lpu.choose { l with upForward := l.upForward ++ [f] } := if_pos h

end Sys2Proof.Machine

open Sys2Proof Sys2Proof.Machine

/-- Settles O7: over its own CRC, high byte first, the register only shifts, and ends empty. -/
theorem crcOfTheLink : Obligations.CrcOfTheLink := by
  unfold Obligations.CrcOfTheLink
  refine ⟨rfl, fun bytes b => (crc16_concat bytes b).trans (crcByte_eq_foldl _ b), crc16_check, crc16_residue,
    fun address kind tag payload => (crcRight_iff _).mpr (mkFrame_crc address kind tag payload), fun f => rfl,
    crcRight_iff, fun l => ⟨fun h => ?_, fun n h => ?_, fun e hroom hpending => notice_answers hroom hpending e,
    fun kind tag code data => rfl, fun f => ⟨fun h => ?_, fun h => ?_⟩⟩⟩
  · rw [Lpu.sender, h]
    rfl
  · rw [Lpu.sender, h]
    rfl
  · rw [forwardDown_joins h]
  · simp [forwardUp_joins h]

end

section
/-! PROOF. Every request row is one request: dropped and counted, or one ANSWER ahead of the ALARM NOTICEs it causes
(R162, R164, R168, R171). -/

namespace Sys2Proof.Machine

/-! ### ALARM NOTICEs (R168) -/

/-- R162, R168: from `l` to `m` the answer queue has gained ALARM NOTICEs alone, and the machine address is kept. -/
def NoticesOnly (l m : Lpu) : Prop :=
  m.address = l.address ∧ ∃ rest, m.answers = l.answers ++ rest ∧ ∀ x ∈ rest, x.frame.kind = 0x81

theorem NoticesOnly.refl (l : Lpu) : NoticesOnly l l := ⟨rfl, [], (List.append_nil _).symm, nofun⟩

theorem NoticesOnly.of_eq {l m : Lpu} (h : m = l) : NoticesOnly l m := h ▸ .refl l

theorem NoticesOnly.trans {l m n : Lpu} (h : NoticesOnly l m) (h' : NoticesOnly m n) : NoticesOnly l n := by
  obtain ⟨haddress, rest, hrest, hkind⟩ := h
  obtain ⟨haddress', rest', hrest', hkind'⟩ := h'
  refine ⟨haddress'.trans haddress, rest ++ rest', by rw [hrest', hrest, List.append_assoc], fun x hx => ?_⟩
  exact (List.mem_append.mp hx).elim (hkind x) (hkind' x)

theorem notice_noticesOnly (l : Lpu) (e : AlarmEntry) : NoticesOnly l (l.notice e) := by
  rw [notice_eq]
  split
  · exact ⟨by simp, [noticeOf l e], by simp [noticeOf], fun x hx => by rw [List.mem_singleton.mp hx]; rfl⟩
  · exact .refl l

variable {s : State}

theorem postIn_noticesOnly {onStop : State → State} (hstop : ∀ t, NoticesOnly t.lpu (onStop t).lpu) (c : ChannelId)
    (k : AlarmKind) (subject : Option Nat) : NoticesOnly s.lpu (postIn onStop c k subject s).lpu := by
  unfold postIn
  split
  · exact .refl _
  · split
    · have hnotice := notice_noticesOnly s.lpu (newEntry s.alc c k subject)
      simp only [recompute_frame]
      split
      · exact hnotice.trans (hstop _)
      · exact hnotice
    · exact .refl _

theorem postWith_noticesOnly {onStop : State → State} (hstop : ∀ t, NoticesOnly t.lpu (onStop t).lpu) (k : AlarmKind)
    (subject : Option Nat) : NoticesOnly s.lpu (postWith onStop k subject s).lpu := by
  unfold postWith
  simp only []
  split
  · exact .refl _
  · exact postIn_noticesOnly hstop _ k subject

theorem abortSweep_noticesOnly : NoticesOnly s.lpu (abortSweep s).lpu := by
  unfold abortSweep
  split
  · exact .refl _
  · refine .trans (.of_eq ?_) (postWith_noticesOnly (fun t => .refl t.lpu) _ _)
    simp

theorem post_noticesOnly (k : AlarmKind) (subject : Option Nat) : NoticesOnly s.lpu (post k subject s).lpu :=
  postWith_noticesOnly (fun _ => abortSweep_noticesOnly) k subject

/-! ### What the acts add to the answer queue -/

/-- An act that adds ALARM NOTICEs alone to the answer queue. -/
def Act.NoticesOnly (act : Act) : Prop := ∀ s, Machine.NoticesOnly s.lpu (act s).1.lpu

theorem Act.noticesOnly_of_lpu {act : Act} (h : ∀ s, (act s).1.lpu = s.lpu) : act.NoticesOnly := fun s => .of_eq (h s)

theorem Act.LpuBlind.noticesOnly {act : Act} (h : act.LpuBlind) : act.NoticesOnly := noticesOnly_of_lpu h.lpu

/-- R162: a read changes nothing. -/
theorem readTable_state (t : TableName) (first : Word16) (count : Byte) (right : Bool) (extra entries : List Byte)
    (s : State) : (readTable t first count right extra entries s).1 = s := by
  unfold readTable
  split
  · rfl
  · simp only []
    split <;> rfl

theorem Act.noticesOnly_of_read {act : Act} {t : TableName} {first : Word16} {count : Byte} {right : State → Bool}
    {extra entries : State → List Byte} (h : ∀ s, act s = readTable t first count (right s) (extra s) (entries s) s) :
    act.NoticesOnly :=
  noticesOnly_of_lpu fun s => by rw [h, readTable_state]

theorem actSweepResult_noticesOnly : actSweepResult.NoticesOnly := Act.noticesOnly_of_lpu fun s => by
  unfold actSweepResult
  split
  · rfl
  · split <;> rfl

theorem actAlarmRead_noticesOnly (channel : Byte) : (actAlarmRead channel).NoticesOnly :=
  Act.noticesOnly_of_lpu fun s => by
    unfold actAlarmRead
    split <;> rfl

/-- R153: a clear posts ESTOP again, or nothing. -/
theorem clearEntry_noticesOnly (c : ChannelId) (seq : Word16) : NoticesOnly s.lpu (clearEntry c seq s).lpu := by
  have hrecomputed : NoticesOnly s.lpu (recompute (s.updAlc (·.remove c seq))).lpu := .of_eq (by simp)
  unfold clearEntry
  simp only []
  split
  · unfold repostEstop
    split
    · exact hrecomputed.trans (post_noticesOnly _ _)
    · exact hrecomputed
  · exact hrecomputed

theorem actAlarmClear_noticesOnly (channel : Byte) (seq : Word16) :
    (actAlarmClear channel seq).NoticesOnly := fun s => by
  unfold actAlarmClear
  split
  · exact .refl _
  · split
    · exact .refl _
    · split
      · exact clearEntry_noticesOnly _ seq
      · exact .refl _

/-! ### Request rows (R164) -/

/-- A command that is the request of a kind: it runs one act, which adds ALARM NOTICEs alone to the answer queue. -/
def IsRequest (c : Instr) (kind : Byte) : Prop :=
  ∃ act : Act, act.NoticesOnly ∧ ∀ s, exec c s = .next (request kind (tagOf c) act s)

theorem isRequest_of_kindOf {c : Instr} {k : Byte} (h : kindOf c = some k) : IsRequest c k := by
  cases c <;> cases h
  case place tag payload => exact ⟨actPlace payload, (actPlace_blind payload).noticesOnly, fun _ => rfl⟩
  case tableLoadComponent => exact ⟨_, (loadComponent_blind _ _ _).noticesOnly, fun _ => rfl⟩
  case tableLoadSpan => exact ⟨_, (loadSpan_blind _ _ _).noticesOnly, fun _ => rfl⟩
  case tableLoadStationMap => exact ⟨_, (loadStationMap_blind _ _ _).noticesOnly, fun _ => rfl⟩
  case tableLoadProfile => exact ⟨_, (loadProfile_blind _ _ _).noticesOnly, fun _ => rfl⟩
  case tableLoadFilterSet => exact ⟨_, (loadFilterSet_blind _ _ _).noticesOnly, fun _ => rfl⟩
  case tableLoadPanelPattern => exact ⟨_, (loadPanelPattern_blind _ _ _).noticesOnly, fun _ => rfl⟩
  case tableLoadAlarmMap => exact ⟨_, (loadAlarmMap_blind _ _ _).noticesOnly, fun _ => rfl⟩
  case tableLoadConstants => exact ⟨_, (loadConstants_blind _ _ _).noticesOnly, fun _ => rfl⟩
  case tableReadComponent => exact ⟨_, Act.noticesOnly_of_read (act := readComponent _ _) fun _ => rfl, fun _ => rfl⟩
  case tableReadSpan => exact ⟨_, Act.noticesOnly_of_read (act := readSpan _ _) fun _ => rfl, fun _ => rfl⟩
  case tableReadStationMap => exact ⟨_, Act.noticesOnly_of_read (act := readStationMap _ _) fun _ => rfl, fun _ => rfl⟩
  case tableReadProfile => exact ⟨_, Act.noticesOnly_of_read (act := readProfile _ _) fun _ => rfl, fun _ => rfl⟩
  case tableReadFilterSet => exact ⟨_, Act.noticesOnly_of_read (act := readFilterSet _ _) fun _ => rfl, fun _ => rfl⟩
  case tableReadPanelPattern =>
    exact ⟨_, Act.noticesOnly_of_read (act := readPanelPattern _ _) fun _ => rfl, fun _ => rfl⟩
  case tableReadAlarmMap => exact ⟨_, Act.noticesOnly_of_read (act := readAlarmMap _ _) fun _ => rfl, fun _ => rfl⟩
  case tableReadConstants => exact ⟨_, Act.noticesOnly_of_read (act := readConstants _ _) fun _ => rfl, fun _ => rfl⟩
  case tableReadStationRecords =>
    exact ⟨_, Act.noticesOnly_of_read (act := readStationRecords _ _) fun _ => rfl, fun _ => rfl⟩
  case tableReadSubstitution =>
    exact ⟨_, Act.noticesOnly_of_read (act := readSubstitution _ _) fun _ => rfl, fun _ => rfl⟩
  case tableReadWear => exact ⟨_, Act.noticesOnly_of_read (act := readWear _ _) fun _ => rfl, fun _ => rfl⟩
  case tableReadLastSignature =>
    exact ⟨_, Act.noticesOnly_of_read (act := readLastSignature _ _) fun _ => rfl, fun _ => rfl⟩
  case tableReadImages => exact ⟨_, Act.noticesOnly_of_read (act := readImages _ _) fun _ => rfl, fun _ => rfl⟩
  case stationFlags => exact ⟨_, (actStationFlags_blind _ _ _).noticesOnly, fun _ => rfl⟩
  case run => exact ⟨_, actRun_blind.noticesOnly, fun _ => rfl⟩
  case hold => exact ⟨_, actHold_blind.noticesOnly, fun _ => rfl⟩
  case stop => exact ⟨_, actStop_blind.noticesOnly, fun _ => rfl⟩
  case hornOff => exact ⟨_, Act.noticesOnly_of_lpu (act := actHornOff) fun _ => rfl, fun _ => rfl⟩
  case panelLoad => exact ⟨_, actPanelLoad_blind.noticesOnly, fun _ => rfl⟩
  case flush => exact ⟨_, actFlush_blind.noticesOnly, fun _ => rfl⟩
  case sweep => exact ⟨_, (actSweep_blind _).noticesOnly, fun _ => rfl⟩
  case sweepResult => exact ⟨_, actSweepResult_noticesOnly, fun _ => rfl⟩
  case tapeClear => exact ⟨_, actTapeClear_blind.noticesOnly, fun _ => rfl⟩
  case mode => exact ⟨_, (actMode_blind _).noticesOnly, fun _ => rfl⟩
  case alarmRead => exact ⟨_, actAlarmRead_noticesOnly _, fun _ => rfl⟩
  case alarmClear => exact ⟨_, actAlarmClear_noticesOnly _ _, fun _ => rfl⟩
  case status => exact ⟨_, Act.noticesOnly_of_lpu (act := actStatus) fun _ => rfl, fun _ => rfl⟩
  case recordReadStart => exact ⟨_, Act.noticesOnly_of_lpu (act := actRecordReadStart) fun _ => rfl, fun _ => rfl⟩
  case recordReadNext => exact ⟨_, Act.noticesOnly_of_lpu (act := actRecordReadNext) fun _ => rfl, fun _ => rfl⟩
  case reset => exact ⟨actReset, fun s => ⟨rfl, [], (List.append_nil _).symm, nofun⟩, fun _ => rfl⟩

/-! ### A request taken (R162) -/

theorem request_taken (kind tag : Byte) (act : Act) (hs : Takes s) : request kind tag act s =
    let r := act (s.updLpu (·.pushOwn (answerPlace tag)))
    r.1.updLpu (fun l =>
      { l with answers := l.answers.set s.lpu.answers.length (answerOf l kind tag r.2.1 r.2.2) }) := by
  obtain ⟨hroom, hpending⟩ := hs
  exact if_neg fun h => h.elim (Nat.not_le.mpr hroom) (by simp [hpending])

/-- R162: the answer is in its place, ahead of the ALARM NOTICEs. -/
theorem request_answers {kind tag : Byte} {act : Act} (hact : act.NoticesOnly) (hs : Takes s) :
    ∃ l code data rest, l.sender = s.lpu.sender
      ∧ (request kind tag act s).lpu.answers = s.lpu.answers ++ answerOf l kind tag code data :: rest
      ∧ ∀ x ∈ rest, x.frame.kind = 0x81 := by
  obtain ⟨haddress, rest, hrest, hkind⟩ := hact (s.updLpu (·.pushOwn (answerPlace tag)))
  simp only [updLpu_lpu, pushOwn_frame] at haddress hrest
  rw [request_taken kind tag act hs]
  generalize act (s.updLpu (·.pushOwn (answerPlace tag))) = r at haddress hrest ⊢
  simp only [updLpu_lpu, hrest]
  refine ⟨r.1.lpu, r.2.1, r.2.2, rest, congrArg (fun a : Option Nat => byte (a.getD 0)) haddress, ?_, hkind⟩
  rw [List.append_assoc, List.set_append_right _ _ (le_refl _), Nat.sub_self]
  rfl

end Sys2Proof.Machine

open Sys2Proof Sys2Proof.Machine

/-- Settles O13: a request row is one request, and that is not taken. -/
theorem requestsDropped : Obligations.RequestsDropped := by
  unfold Obligations.RequestsDropped
  intro c s hc hs
  obtain ⟨k, hk⟩ := Option.isSome_iff_exists.mp hc
  obtain ⟨act, -, hexec⟩ := isRequest_of_kindOf hk
  rw [hexec, request_dropped _ _ _ _ hs]

/-- Settles O14: the answer takes its place before the act runs, and the act adds ALARM NOTICEs alone. -/
theorem oneAnswerPerRequest : Obligations.OneAnswerPerRequest := by
  unfold Obligations.OneAnswerPerRequest
  intro c k s hk hs
  obtain ⟨act, hact, hexec⟩ := isRequest_of_kindOf hk
  obtain ⟨l, code, data, rest, hsender, hanswers, hkind⟩ := request_answers (kind := k) (tag := tagOf c) hact hs
  exact ⟨_, _, rest, hexec s, hanswers, hsender, rfl, rfl, rfl, by simp only [answerOf, mkFrame, Frame.covered], hkind⟩

end

section
/-! PROOF. What the receivers do with bytes, frames and errors, and the ends of sends (R157 to R161, R163). -/

namespace Sys2Proof.Machine

variable {s : State} {p : Port} {f : Frame}

/-! ### The receive state of a port (R157) -/

theorem setReceive_setReceive (p : Port) (r r' : Receive) (s : State) :
    setReceive p r (setReceive p r' s) = setReceive p r s := by
  cases p <;> rfl

theorem receiveOf_setReceive (p : Port) (r : Receive) (s : State) : receiveOf p (setReceive p r s).lpu = r := by
  cases p <;> rfl

/-! ### Receive errors (R157, R163) -/

/-- R163: the error window after an error, in words. -/
theorem windowError_eq {now start : Word32} {n : Nat} {l : Lpu}
    (h : if 1000 ≤ (now - l.windowStart).toNat then start = now ∧ n = 1
      else start = l.windowStart ∧ n = satInc 65535 l.windowCount) :
    l.windowError now = { l with windowStart := start, windowCount := n } := by
  unfold Lpu.windowError
  split at h
  next hold =>
    obtain ⟨rfl, rfl⟩ := h
    exact if_pos hold
  next hnew =>
    obtain ⟨rfl, rfl⟩ := h
    exact if_neg hnew

/-- R157, R163: the part after a receive error, by its error window. -/
theorem receiveError_eq (p : Port) (e : ReceiveError) {start : Word32} {n : Nat}
    (h : if 1000 ≤ (s.alc.ms - s.lpu.windowStart).toNat then start = s.alc.ms ∧ n = 1
      else start = s.lpu.windowStart ∧ n = satInc 65535 s.lpu.windowCount) :
    receiveError p e s =
      let t := (setReceive p .hunting s).updLpu fun l =>
        { countError p e l with windowStart := start, windowCount := n }
      if n = 17 then post .linkErrors none t else t := by
  have hwindow : (countError p e (setReceive p .hunting s).lpu).windowError s.alc.ms =
      { countError p e (setReceive p .hunting s).lpu with windowStart := start, windowCount := n } :=
    windowError_eq (by cases p <;> exact h)
  have hcounted : (setReceive p .hunting s).updLpu (fun l => (countError p e l).windowError s.alc.ms) =
      (setReceive p .hunting s).updLpu fun l => { countError p e l with windowStart := start, windowCount := n } :=
    congrArg (fun l : Lpu => { setReceive p .hunting s with lpu := l }) hwindow
  unfold receiveError
  rw [hcounted]
  rfl

theorem receiveError_setReceive (p : Port) (e : ReceiveError) (r : Receive) (s : State) :
    receiveError p e (setReceive p r s) = receiveError p e s := by
  have halc : (setReceive p r s).alc = s.alc := rfl
  rw [receiveError, setReceive_setReceive, halc]
  rfl

theorem exec_interByteTimeout {bytes : List Byte} (h : receiveOf p s.lpu = .frame bytes 0) :
    exec (.interByteTimeout p) s = .next (receiveError p .framing s) := by
  change execInterByteTimeout p s = _
  rw [execInterByteTimeout, h]
  rfl

/-! ### Bytes (R157) -/

theorem exec_frameByteReceived_lead (h : receiveOf p s.lpu = .hunting) :
    exec (.frameByteReceived p 0xA5) s = .next (setReceive p (.frame [] 1) s) := by
  change execFrameByteReceived p 0xA5 s = _
  rw [execFrameByteReceived, h]
  exact if_pos rfl

theorem exec_frameByteReceived_stray {b : Byte} (h : receiveOf p s.lpu = .hunting) (hb : b ≠ 0xA5) :
    exec (.frameByteReceived p b) s = .next (receiveError p .framing s) := by
  change execFrameByteReceived p b s = _
  rw [execFrameByteReceived, h]
  exact if_neg hb

theorem exec_frameByteReceived_frame {bytes : List Byte} {g : Nat} (h : receiveOf p s.lpu = .frame bytes g) (b : Byte) :
    exec (.frameByteReceived p b) s = .next (takeByte p bytes b s) := by
  change execFrameByteReceived p b s = _
  rw [execFrameByteReceived, h]

theorem lengthByte_eq {bytes : List Byte} {n : Byte} (h : bytes[3]? = some n) : lengthByte bytes = some n.toNat :=
  congrArg (Option.map BitVec.toNat) h

/-- R157: the fourth byte after the lead is the length byte. -/
theorem lengthByte_fourth {bytes : List Byte} (h : bytes.length = 3) (b : Byte) :
    lengthByte (bytes ++ [b]) = some b.toNat :=
  lengthByte_eq (by rw [← h, List.getElem?_concat_length])

/-- R157: a byte that is no wrong length and does not end the frame joins it. -/
theorem takeByte_joins {bytes : List Byte} {b : Byte}
    (h : ∀ n, lengthByte (bytes ++ [b]) = some n → n ≤ 240 ∧ bytes.length + 1 < n + 6) (s : State) :
    takeByte p bytes b s = setReceive p (.frame (bytes ++ [b]) 1) s := by
  unfold takeByte
  extract_lets all
  split
  · rfl
  next n hn =>
    obtain ⟨hle, hlt⟩ := h n hn
    rw [if_neg (Nat.not_lt.mpr hle), if_pos (by simpa [all] using hlt)]

theorem takeByte_wrongLength {bytes : List Byte} {b : Byte} (h : bytes.length = 3) (hb : 240 < b.toNat) (s : State) :
    takeByte p bytes b s = receiveError p .length s := by
  unfold takeByte
  extract_lets all
  simp only [all, lengthByte_fourth h]
  exact if_pos hb

theorem exec_lengthError {bytes : List Byte} {g : Nat} {b : Byte} (hrx : receiveOf p s.lpu = .frame bytes g)
    (h : bytes.length = 3) (hb : 240 < b.toNat) :
    exec (.lengthError p b) s = .next (receiveError p .length s) := by
  change execLengthError p b s = _
  rw [execLengthError, hrx]
  exact if_pos ⟨h, hb⟩

/-! ### The bytes of a frame (R158) -/

/-- R158: a frame's bytes after the lead. -/
def lineBytes (f : Frame) : List Byte := Frame.covered f ++ be16 f.crc.toNat

theorem frameBytes_eq (f : Frame) : frameBytes f = 0xA5 :: lineBytes f := rfl

theorem lineBytes_length (f : Frame) : (lineBytes f).length = f.payload.length + 6 := by
  simp [lineBytes, Frame.covered, be16]

theorem payload_toNat (hf : Frame.wellFormed f = true) : (byte f.payload.length).toNat = f.payload.length := by
  have hlen : f.payload.length ≤ 240 := of_decide_eq_true hf
  rw [byte, BitVec.toNat_ofNat]
  omega

theorem lengthByte_lineBytes (hf : Frame.wellFormed f = true) : lengthByte (lineBytes f) = some f.payload.length := by
  rw [lengthByte_eq (n := byte f.payload.length) rfl, payload_toNat hf]

/-- The length byte a frame has begun with is the whole frame's. -/
theorem lengthByte_begun (hf : Frame.wellFormed f = true) {bytes : List Byte} {n : Nat} (hpre : bytes <+: lineBytes f)
    (h : lengthByte bytes = some n) : n = f.payload.length := by
  obtain ⟨b, hb, rfl⟩ := Option.map_eq_some_iff.mp h
  obtain ⟨rest, hrest⟩ := hpre
  obtain ⟨hin, -⟩ := List.getElem?_eq_some_iff.mp hb
  have hwhole : lengthByte (lineBytes f) = some b.toNat :=
    lengthByte_eq (by rw [← hrest, List.getElem?_append_left hin, hb])
  exact Option.some.inj (hwhole.symm.trans (lengthByte_lineBytes hf))

theorem frameOfBytes_lineBytes (hf : Frame.wellFormed f = true) : frameOfBytes (lineBytes f) = some f := by
  have hcrc : BitVec.ofNat 16 (u16 (byte (f.crc.toNat / 256)) (byte f.crc.toNat)) = f.crc := by
    apply BitVec.eq_of_toNat_eq
    have hlt := f.crc.isLt
    simp only [u16, byte, BitVec.toNat_ofNat]
    omega
  simp only [lineBytes, Frame.covered, frameOfBytes, List.cons_append, List.nil_append, payload_toNat hf,
    List.drop_left, List.take_left, be16, hcrc]

/-! ### Frames received whole (R157 to R160) -/

theorem frameReceived_upstream (hf : Frame.wellFormed f = true) (hcrc : f.crc = crc16 (Frame.covered f)) (s : State) :
    frameReceived .upstream f s = routeUpstream f (setReceive .upstream .hunting s) := by
  rw [frameReceived, if_neg (Nat.not_lt.mpr (of_decide_eq_true hf)), if_pos ((crcRight_iff f).mpr hcrc)]

theorem frameReceived_downstream (hf : Frame.wellFormed f = true) (hcrc : f.crc = crc16 (Frame.covered f)) (s : State) :
    frameReceived .downstream f s = (setReceive .downstream .hunting s).updLpu (·.forwardUp f) := by
  rw [frameReceived, if_neg (Nat.not_lt.mpr (of_decide_eq_true hf)), if_pos ((crcRight_iff f).mpr hcrc)]
  rfl

theorem frameReceived_wrong (hf : Frame.wellFormed f = true) (hcrc : f.crc ≠ crc16 (Frame.covered f)) (p : Port)
    (s : State) : frameReceived p f s = receiveError p .crc s := by
  unfold frameReceived
  rw [if_neg (Nat.not_lt.mpr (of_decide_eq_true hf)), if_neg (mt (crcRight_iff f).mp hcrc)]

/-- R157: whatever stood in the receiver, a frame received whole does the same. -/
theorem frameReceived_setReceive (p : Port) (f : Frame) (r : Receive) (s : State) :
    frameReceived p f (setReceive p r s) = frameReceived p f s := by
  unfold frameReceived
  cases p <;> simp only [receiveError_setReceive, setReceive_setReceive]

/-- R159: a frame for another machine. -/
theorem routeUpstream_other (h0 : f.address ≠ 0) (h : s.lpu.address ≠ some f.address.toNat) :
    routeUpstream f s = s.updLpu (·.forwardDown f) := by
  rw [routeUpstream, if_neg h0, if_neg h]

/-- R159: an ANSWER or an ALARM NOTICE is not dispatched. -/
theorem dispatchFrame_ignores (h : f.kind = 0x80 ∨ f.kind = 0x81) (s : State) : dispatchFrame f s = s := if_pos h

theorem routeUpstream_own (h0 : f.address ≠ 0) (h : s.lpu.address = some f.address.toNat)
    (hkind : f.kind = 0x80 ∨ f.kind = 0x81) : routeUpstream f s = s := by
  rw [routeUpstream, if_neg h0, if_pos h, dispatchFrame_ignores hkind]

theorem routeUpstream_broadcast (h0 : f.address = 0) (hkind : f.kind = 0x80 ∨ f.kind = 0x81) (s : State) :
    routeUpstream f s = s.updLpu (·.forwardDown f) := by
  rw [routeUpstream, if_pos h0, dispatchFrame_ignores hkind]

/-! ### The last byte of a frame (R157, R158) -/

theorem takeByte_completes (hf : Frame.wellFormed f = true) {bytes : List Byte} {b : Byte}
    (h : bytes ++ [b] = lineBytes f) (p : Port) (s : State) : takeByte p bytes b s = frameReceived p f s := by
  unfold takeByte
  simp only [h, lengthByte_lineBytes hf, lineBytes_length, frameOfBytes_lineBytes hf, lt_irrefl, if_false]
  exact if_neg (Nat.not_lt.mpr (of_decide_eq_true hf))

theorem completedFrame_eq (hf : Frame.wellFormed f = true) {bytes : List Byte} {b : Byte}
    (h : bytes ++ [b] = lineBytes f) : completedFrame bytes b = some f := by
  have hlength : bytes.length = f.payload.length + 5 := by
    have hall := congrArg List.length h
    rw [List.length_append, List.length_singleton, lineBytes_length] at hall
    omega
  have hbyte : lengthByte bytes = some f.payload.length := by
    rw [← lengthByte_lineBytes hf, ← h, lengthByte, lengthByte, List.getElem?_append_left (by omega)]
  rw [completedFrame, hbyte, h, frameOfBytes_lineBytes hf]
  exact if_pos hlength

theorem exec_frameCrcMismatch {bytes : List Byte} {b : Byte} {g : Nat} (hf : Frame.wellFormed f = true)
    (hcrc : f.crc ≠ crc16 (Frame.covered f)) (h : bytes ++ [b] = lineBytes f)
    (hrx : receiveOf p s.lpu = .frame bytes g) :
    exec (.frameCrcMismatch p b) s = .next (receiveError p .crc s) := by
  change execFrameCrcMismatch p b s = _
  rw [execFrameCrcMismatch, hrx]
  simp only [completedFrame_eq hf h]
  exact if_neg (mt (crcRight_iff f).mp hcrc)

/-! ### The bytes of a frame, one after another (R157) -/

/-- R157: before the last of a frame's bytes, each joins. -/
theorem takeByte_before_last (hf : Frame.wellFormed f = true) {before after : List Byte} {b b' : Byte}
    (h : before ++ b :: b' :: after = lineBytes f) (p : Port) (s : State) :
    takeByte p before b s = setReceive p (.frame (before ++ [b]) 1) s := by
  refine takeByte_joins (fun n hn => ?_) s
  obtain rfl := lengthByte_begun hf (bytes := before ++ [b]) ⟨b' :: after, by rw [← h, List.append_assoc]; rfl⟩ hn
  have hall := congrArg List.length h
  simp only [List.length_append, List.length_cons, lineBytes_length] at hall
  exact ⟨of_decide_eq_true hf, by omega⟩

theorem runAll_lineBytes (hf : Frame.wellFormed f = true) (p : Port) (s : State) (before : List Byte) (b : Byte)
    (after : List Byte) (h : before ++ b :: after = lineBytes f) :
    runAll ((b :: after).map (.frameByteReceived p)) (setReceive p (.frame before 1) s) =
      .next (frameReceived p f s) := by
  have hexec := exec_frameByteReceived_frame (receiveOf_setReceive p (.frame before 1) s) b
  induction after generalizing before b with
  | nil =>
    rw [List.map_singleton, runAll, hexec, takeByte_completes hf h, frameReceived_setReceive]
    rfl
  | cons b' after ih =>
    rw [List.map_cons, runAll, hexec, takeByte_before_last hf h, setReceive_setReceive]
    exact ih (before ++ [b]) b' (by rw [← h, List.append_assoc]; rfl)
      (exec_frameByteReceived_frame (receiveOf_setReceive p _ s) b')

theorem runAll_frameBytes (hf : Frame.wellFormed f = true) (h : receiveOf p s.lpu = .hunting) :
    runAll ((frameBytes f).map (.frameByteReceived p)) s = .next (frameReceived p f s) := by
  have hne : lineBytes f ≠ [] := nofun
  obtain ⟨b, after, hbytes⟩ := List.exists_cons_of_ne_nil hne
  rw [frameBytes_eq, List.map_cons, runAll, exec_frameByteReceived_lead h, hbytes]
  exact runAll_lineBytes hf p s [] b after hbytes.symm

/-! ### Ends of sends (R160, R161) -/

/-- R160: a full forward buffer drops the frame and counts it. -/
theorem forwardDown_drops {l : Lpu} (h : 2 ≤ l.downForward.length) (f : Frame) :
    l.forwardDown f = { l with dropDown := satInc 65535 l.dropDown } := if_neg (Nat.not_lt.mpr h)

theorem forwardUp_drops {l : Lpu} (h : 2 ≤ l.upForward.length) (f : Frame) :
    l.forwardUp f = { l with dropUp := satInc 65535 l.dropUp } := if_neg (Nat.not_lt.mpr h)

theorem choose_busy {l : Lpu} (h : l.sending.isSome = true) : l.choose = l := if_pos h

/-- R161: the source chosen while upstream-out is free, in words. -/
theorem choose_free {l : Lpu} (h : l.sending = none) : l.choose = { l with
    sending := if l.upForward = [] ∧ l.answers = [] then none else if l.answers = [] then some .forwarded
      else if l.upForward = [] then some .own else if l.lastServed = .own then some .forwarded else some .own
    lastServed := if l.upForward = [] ∧ l.answers = [] then l.lastServed else if l.answers = [] then .forwarded
      else if l.upForward = [] then .own else if l.lastServed = .own then .forwarded else .own } := by
  have hbusy : ¬ l.sending.isSome = true := by simp [h]
  rw [Lpu.choose, if_neg hbusy]
  split
  next hup hown => rw [if_pos ⟨hup, hown⟩, if_pos ⟨hup, hown⟩, ← h]
  next hup hown => simp [hup, hown]
  next hup hown => simp [hup, hown]
  next hup hown =>
    split
    next hserved => simp [hup, hown, hserved]
    next hserved => simp [hup, hown, hserved]

/-- R161: a send that is not a RESET answer's ends: its frame leaves its source and the next is chosen. -/
theorem exec_upstreamSendEnd_ordinary {served : Source} (hsending : s.lpu.sending = some served)
    (h : served = .own → ∀ a, s.lpu.answers.head? = some a → a.endsInReset = false) :
    exec .upstreamSendEnd s = .next (s.updLpu fun l => Lpu.choose { l with
      upForward := if served = .forwarded then s.lpu.upForward.tail else s.lpu.upForward
      answers := if served = .own then s.lpu.answers.tail else s.lpu.answers
      sending := none }) := by
  have hsent : s.updLpu Lpu.sent = s.updLpu fun l => Lpu.choose { l with
      upForward := if served = .forwarded then s.lpu.upForward.tail else s.lpu.upForward
      answers := if served = .own then s.lpu.answers.tail else s.lpu.answers
      sending := none } := by
    unfold State.updLpu Lpu.sent
    cases served <;> rw [hsending] <;> rfl
  change execUpstreamSendEnd s = _
  rw [execUpstreamSendEnd, ← hsent]
  split
  next a rest hown hanswers =>
    have hmark := h (Option.some.inj (hsending.symm.trans hown)) a (by rw [hanswers]; rfl)
    simp [hmark]
  · rfl

end Sys2Proof.Machine

open Sys2Proof Sys2Proof.Machine

/-- Settles O8: a frame is routed by its address, and a forward buffer takes it or counts it. -/
theorem forwardedFrames : Obligations.ForwardedFrames := by
  unfold Obligations.ForwardedFrames
  intro f s hf hcrc
  have hup : exec (.upstreamFrameReceived f) s = .next (routeUpstream f (setReceive .upstream .hunting s)) :=
    congrArg Host.Outcome.next (frameReceived_upstream hf hcrc s)
  have hdown : exec (.downstreamFrameReceived f) s =
      .next ((setReceive .downstream .hunting s).updLpu (·.forwardUp f)) :=
    congrArg Host.Outcome.next (frameReceived_downstream hf hcrc s)
  have hjoins := fun h : s.lpu.downForward.length < 2 =>
    congrArg (fun l : Lpu => { s with lpu := l }) (forwardDown_joins (l := { s.lpu with rxUp := .hunting }) h f)
  have hdrops := fun h : 2 ≤ s.lpu.downForward.length =>
    congrArg (fun l : Lpu => { s with lpu := l }) (forwardDown_drops (l := { s.lpu with rxUp := .hunting }) h f)
  refine ⟨fun h0 h hroom => ?_, fun h0 h hfull => ?_, fun h0 h hkind => ?_, fun h0 hkind hroom => ?_,
    fun h0 hkind hfull => ?_, fun hroom hbusy => ?_, fun hempty hfree hnone => ?_, fun hfull => ?_⟩
  · rw [hup, routeUpstream_other h0 (by exact h)]
    exact congrArg Host.Outcome.next (hjoins hroom)
  · rw [hup, routeUpstream_other h0 (by exact h)]
    exact congrArg Host.Outcome.next (hdrops hfull)
  · rw [hup, routeUpstream_own h0 (by exact h) hkind]
    rfl
  · rw [hup, routeUpstream_broadcast h0 hkind]
    exact congrArg Host.Outcome.next (hjoins hroom)
  · rw [hup, routeUpstream_broadcast h0 hkind]
    exact congrArg Host.Outcome.next (hdrops hfull)
  · rw [hdown, State.updLpu, forwardUp_joins (by exact hroom), choose_busy (by exact hbusy)]
    rfl
  · rw [hdown, State.updLpu, forwardUp_joins (by simp [setReceive, hempty]), choose_free (by exact hfree)]
    simp [setReceive, State.updLpu, hempty, hnone]
  · rw [hdown, State.updLpu, forwardUp_drops (by exact hfull)]
    rfl

/-- Settles O10: each command reaches the one receive error, which is counted in its window. -/
theorem receiveErrors : Obligations.ReceiveErrors := by
  unfold Obligations.ReceiveErrors
  intro s start n h up down framingUp framingDown lengthUp lengthDown crcUp crcDown
  have hup : ∀ e, receiveError .upstream e s = up (s.lpu.errUp.bump e) := fun e => receiveError_eq .upstream e h
  have hdown : ∀ e, receiveError .downstream e s = down (s.lpu.errDown.bump e) := fun e =>
    receiveError_eq .downstream e h
  refine ⟨congrArg _ (hup .framing), congrArg _ (hdown .framing), fun bytes hrx => ?_, fun bytes hrx => ?_,
    fun b hrx hb => ?_, fun b hrx hb => ?_, fun bytes g b hrx hlen hb => ⟨?_, ?_⟩,
    fun bytes g b hrx hlen hb => ⟨?_, ?_⟩, fun f g b bytes hf hcrc hbytes => ⟨fun hrx => ?_, fun hrx => ?_, ?_, ?_⟩⟩
  · exact (exec_interByteTimeout (p := .upstream) hrx).trans (congrArg _ (hup .framing))
  · exact (exec_interByteTimeout (p := .downstream) hrx).trans (congrArg _ (hdown .framing))
  · exact (exec_frameByteReceived_stray (p := .upstream) hrx hb).trans (congrArg _ (hup .framing))
  · exact (exec_frameByteReceived_stray (p := .downstream) hrx hb).trans (congrArg _ (hdown .framing))
  · exact (exec_lengthError (p := .upstream) hrx hlen hb).trans (congrArg _ (hup .length))
  · rw [exec_frameByteReceived_frame (p := .upstream) hrx, takeByte_wrongLength hlen hb]
    exact congrArg _ (hup .length)
  · exact (exec_lengthError (p := .downstream) hrx hlen hb).trans (congrArg _ (hdown .length))
  · rw [exec_frameByteReceived_frame (p := .downstream) hrx, takeByte_wrongLength hlen hb]
    exact congrArg _ (hdown .length)
  · exact (exec_frameCrcMismatch (p := .upstream) hf hcrc hbytes.symm hrx).trans (congrArg _ (hup .crc))
  · exact (exec_frameCrcMismatch (p := .downstream) hf hcrc hbytes.symm hrx).trans (congrArg _ (hdown .crc))
  · exact congrArg _ ((frameReceived_wrong hf hcrc .upstream s).trans (hup .crc))
  · exact congrArg _ ((frameReceived_wrong hf hcrc .downstream s).trans (hdown .crc))

/-- Settles O11: the three kinds of byte that join a frame are those whose length byte, if it is in, leaves room. -/
theorem bytesInAndSendsEnded : Obligations.BytesInAndSendsEnded := by
  unfold Obligations.BytesInAndSendsEnded
  refine ⟨fun s bytes g b => ⟨fun hrx => ?_, fun hrx => ?_, fun hbyte => ?_⟩,
    fun s => ⟨rfl, fun served up own hsending hreset hup hown => ?_⟩⟩
  · exact exec_frameByteReceived_lead (p := .upstream) hrx
  · exact exec_frameByteReceived_lead (p := .downstream) hrx
  · have hjoins : ∀ n, lengthByte (bytes ++ [b]) = some n → n ≤ 240 ∧ bytes.length + 1 < n + 6 := by
      intro n hn
      rcases hbyte with hshort | ⟨hthree, hb⟩ | ⟨m, hm, hle, hlt⟩
      · obtain ⟨m, hm, -⟩ := Option.map_eq_some_iff.mp hn
        obtain ⟨hin, -⟩ := List.getElem?_eq_some_iff.mp hm
        rw [List.length_append, List.length_singleton] at hin
        omega
      · obtain rfl : b.toNat = n := Option.some.inj ((lengthByte_fourth hthree b).symm.trans hn)
        exact ⟨hb, by omega⟩
      · obtain ⟨hin, -⟩ := List.getElem?_eq_some_iff.mp hm
        rw [lengthByte_eq ((List.getElem?_append_left hin).trans hm)] at hn
        obtain rfl := Option.some.inj hn
        exact ⟨hle, hlt⟩
    exact ⟨fun hrx => by rw [exec_frameByteReceived_frame (p := .upstream) hrx, takeByte_joins hjoins]; rfl,
      fun hrx => by rw [exec_frameByteReceived_frame (p := .downstream) hrx, takeByte_joins hjoins]; rfl⟩
  · subst hup hown
    rw [exec_upstreamSendEnd_ordinary hsending hreset, State.updLpu, choose_free rfl]

/-- Settles O12, by induction on the bytes that are still to come. -/
theorem bytesOfAFrameAreTheFrame : Obligations.BytesOfAFrameAreTheFrame := by
  unfold Obligations.BytesOfAFrameAreTheFrame
  exact fun f s hf => ⟨fun hrx => runAll_frameBytes (p := .upstream) hf hrx,
    fun hrx => runAll_frameBytes (p := .downstream) hf hrx⟩

end

section
/-! PROOF. The posts after a soft reset, by the kept map and behind the kept forwarded frames, and the state it leaves
(R17, R55, R74, R87, R105, R122, R137, R142, R143, R155, R161, R168, R171, R172). -/

namespace Sys2Proof.Machine

/-! ### The channels, the levels and the lamps (R141, R142, R155) -/

/-- R141: ALC with the four channels given. -/
def Alc.withChannels (a : Alc) (f : ChannelId → Channel) : Alc :=
  { a with stopCh := f .stop, holdCh := f .hold, warnCh := f .warn, noteCh := f .note }

theorem withChannels_setChannel (a : Alc) (f : ChannelId → Channel) (c : ChannelId) (ch : Channel) :
    (a.withChannels f).setChannel c ch = a.withChannels (Function.update f c ch) := by
  cases c <;> rfl

/-- R148: the lamps go by the entries alone. -/
theorem lampsOf_withChannels (a : Alc) {f g : ChannelId → Channel} (h : ∀ c, (g c).entries = (f c).entries) :
    (lampsOf (a.withChannels f)).withChannels g = lampsOf (a.withChannels g) := by
  simp only [lampsOf, Alc.withChannels, h]

section

variable (a : Alc) (kinds : List AlarmKind)

/-- R142, R155: the entries of the kinds posted after a reset, numbered from 0, by the map of `a`. -/
def Alc.entriesOf : List AlarmEntry :=
  (kinds.filter (fun k => !(a.mapOf k).suppress)).zipIdx.map (fun x =>
    ⟨BitVec.ofNat 16 x.2, x.1, none, (a.mapOf x.1).channel, 0, 0, 0⟩)

/-- R141, R142: a channel after those posts. -/
def Alc.channelAfter (c : ChannelId) : Channel :=
  ⟨(a.entriesOf kinds).filter (fun e => e.channel == c), 0,
    (kinds.filter (fun k => (a.mapOf k).suppress && (a.mapOf k).channel == c)).length⟩

/-- R155: ALC after a soft reset from `a` and those posts. -/
def Alc.conditionsPosted : Alc :=
  lampsOf (Alc.withChannels
    { a.soft with
      nextSeq := BitVec.ofNat 16 (a.entriesOf kinds).length
      horn := (a.entriesOf kinds).any (fun e => e.channel == .stop || e.channel == .hold) }
    (a.channelAfter kinds))

theorem conditionsPosted_nil : a.conditionsPosted [] = a.soft := rfl

theorem conditionsPosted_channel (c : ChannelId) : (a.conditionsPosted kinds).channel c = a.channelAfter kinds c := by
  cases c <;> rfl

theorem entriesOf_length : (a.entriesOf kinds).length ≤ kinds.length := by
  simp only [Alc.entriesOf, List.length_map, List.length_zipIdx]
  exact List.length_filter_le ..

variable {a kinds} {k : AlarmKind}

theorem mem_entriesOf {e : AlarmEntry} (h : e ∈ a.entriesOf kinds) : e.kind ∈ kinds := by
  obtain ⟨x, hx, rfl⟩ := List.mem_map.mp h
  exact List.mem_of_mem_filter (List.fst_mem_of_mem_zipIdx hx)

theorem entriesOf_suppressed (h : (a.mapOf k).suppress = true) : a.entriesOf (kinds ++ [k]) = a.entriesOf kinds := by
  simp [Alc.entriesOf, List.filter_append, h]

/-- R142: the entry a kind posted next gets. -/
def Alc.entryAfter (a : Alc) (kinds : List AlarmKind) (k : AlarmKind) : AlarmEntry :=
  newEntry (a.conditionsPosted kinds) (a.mapOf k).channel k none

theorem entriesOf_posted (h : (a.mapOf k).suppress = false) :
    a.entriesOf (kinds ++ [k]) = a.entriesOf kinds ++ [a.entryAfter kinds k] := by
  have hnumber : (kinds.filter fun k => !(a.mapOf k).suppress).length = (a.entriesOf kinds).length := by
    simp [Alc.entriesOf]
  have hsplit : (kinds ++ [k]).filter (fun k => !(a.mapOf k).suppress) =
      kinds.filter (fun k => !(a.mapOf k).suppress) ++ [k] := by
    simp [List.filter_append, h]
  rw [Alc.entriesOf, hsplit, List.zipIdx_append, List.map_append, Nat.zero_add, hnumber]
  rfl

/-- R142 step 2: a kind suppressed is counted in its channel. -/
theorem channelAfter_suppressed (h : (a.mapOf k).suppress = true) (hn : kinds.length < 8) :
    a.channelAfter (kinds ++ [k]) = Function.update (a.channelAfter kinds) (a.mapOf k).channel
      { a.channelAfter kinds (a.mapOf k).channel with
        suppressed := satInc 65535 (a.channelAfter kinds (a.mapOf k).channel).suppressed } := by
  have hcount : ∀ c, (a.channelAfter kinds c).suppressed < 65535 := fun c =>
    (List.length_filter_le ..).trans_lt (hn.trans (by decide))
  funext c
  by_cases hc : c = (a.mapOf k).channel
  · subst hc
    rw [Function.update_self, satInc, if_pos (hcount _)]
    simp [Alc.channelAfter, entriesOf_suppressed h, List.filter_append, h]
  · rw [Function.update_of_ne hc]
    simp [Alc.channelAfter, entriesOf_suppressed h, List.filter_append, h, Ne.symm hc]

/-- R142 step 4: a kind that is not suppressed joins its channel. -/
theorem channelAfter_posted (h : (a.mapOf k).suppress = false) :
    a.channelAfter (kinds ++ [k]) = Function.update (a.channelAfter kinds) (a.mapOf k).channel
      { a.channelAfter kinds (a.mapOf k).channel with
        entries := (a.channelAfter kinds (a.mapOf k).channel).entries ++ [a.entryAfter kinds k] } := by
  have hchannel : (a.entryAfter kinds k).channel = (a.mapOf k).channel := rfl
  funext c
  by_cases hc : c = (a.mapOf k).channel
  · subst hc
    rw [Function.update_self]
    simp [Alc.channelAfter, entriesOf_posted h, List.filter_append, h, hchannel]
  · rw [Function.update_of_ne hc]
    simp [Alc.channelAfter, entriesOf_posted h, List.filter_append, h, hchannel, Ne.symm hc]

theorem conditionsPosted_suppress (h : (a.mapOf k).suppress = true) (hn : kinds.length < 8) :
    (a.conditionsPosted kinds).suppress (a.mapOf k).channel = a.conditionsPosted (kinds ++ [k]) := by
  have hentries : ∀ c, (a.channelAfter (kinds ++ [k]) c).entries = (a.channelAfter kinds c).entries := fun c => by
    rw [Alc.channelAfter, Alc.channelAfter, entriesOf_suppressed h]
  have hset : (a.conditionsPosted kinds).suppress (a.mapOf k).channel =
      (a.conditionsPosted kinds).withChannels (a.channelAfter (kinds ++ [k])) := by
    rw [channelAfter_suppressed h hn, ← conditionsPosted_channel]
    exact withChannels_setChannel (a.conditionsPosted kinds) (a.channelAfter kinds) _ _
  rw [hset, Alc.conditionsPosted, Alc.conditionsPosted, lampsOf_withChannels _ hentries, entriesOf_suppressed h]

theorem conditionsPosted_append (h : (a.mapOf k).suppress = false) :
    lampsOf ((a.conditionsPosted kinds).append (a.mapOf k).channel (a.entryAfter kinds k)) =
      a.conditionsPosted (kinds ++ [k]) := by
  have hseq : BitVec.ofNat 16 (a.entriesOf kinds).length + 1#16 =
      BitVec.ofNat 16 (a.entriesOf kinds ++ [a.entryAfter kinds k]).length := by
    rw [List.length_append, BitVec.ofNat_add]
    rfl
  have hhorn : (a.entriesOf kinds ++ [a.entryAfter kinds k]).any (fun e => e.channel == .stop || e.channel == .hold) =
      ((a.conditionsPosted kinds).horn || (a.mapOf k).channel == .stop || (a.mapOf k).channel == .hold) := by
    rw [List.any_append, Bool.or_assoc, List.any_cons, List.any_nil, Bool.or_false]
    rfl
  have hrequested : latched (a.mapOf k).channel (a.conditionsPosted kinds).requested = .stop := by
    cases (a.mapOf k).channel <;> rfl
  have hset : (a.conditionsPosted kinds).setChannel (a.mapOf k).channel
      { (a.conditionsPosted kinds).channel (a.mapOf k).channel with
        entries := ((a.conditionsPosted kinds).channel (a.mapOf k).channel).entries ++ [a.entryAfter kinds k] } =
      (a.conditionsPosted kinds).withChannels (a.channelAfter (kinds ++ [k])) := by
    rw [channelAfter_posted h, ← conditionsPosted_channel]
    exact withChannels_setChannel (a.conditionsPosted kinds) (a.channelAfter kinds) _ _
  dsimp only [Alc.append] at hset ⊢
  rw [hset, hrequested, ← hhorn, Alc.conditionsPosted, Alc.conditionsPosted, entriesOf_posted h, ← hseq]
  rfl

end

/-! ### The notices (R161, R168) -/

/-- R159, R172: LPU after a soft reset, before any notice. -/
def Lpu.softened (l : Lpu) : Lpu :=
  { Lpu.reset with
    addressPins := l.addressPins
    address := addressOf l.addressPins
    rxUp := l.rxUp
    rxDown := l.rxDown
    downForward := l.downForward
    upForward := l.upForward
    sending := if l.upForward ≠ [] then some .forwarded else none
    lastServed := if l.upForward ≠ [] then .forwarded else .own }

/-- R161: with upstream-out free, a forwarded frame that waits begins at once. -/
theorem soft_eq_softened {l : Lpu} (h : l.sending = none) : l.soft = l.softened := by
  unfold Lpu.soft Lpu.softened
  simp only [h]
  cases l.upForward <;> rfl

/-- R161, R168: LPU after a soft reset and the notices of `es`: two wait, the others are dropped. -/
def Lpu.withNotices (l : Lpu) (es : List AlarmEntry) : Lpu :=
  { l.softened with
    answers := (es.take 2).map (noticeOf l.softened)
    noticeDrops := es.length - 2
    sending := if l.upForward ≠ [] then some .forwarded else if es ≠ [] then some .own else none }

theorem withNotices_notice (l : Lpu) (es : List AlarmEntry) (e : AlarmEntry) (hn : es.length < 8) :
    (l.withNotices es).notice e = l.withNotices (es ++ [e]) := by
  match es with
  | [] | [_] =>
    simp only [Lpu.withNotices, Lpu.softened]
    generalize l.upForward = waiting
    cases waiting <;> rfl
  | _ :: _ :: rest =>
    have hdrops : satInc 65535 rest.length = (rest ++ [e]).length := by
      rw [List.length_append]
      exact if_pos (by simp only [List.length_cons] at hn; omega)
    show { l.withNotices (_ :: _ :: rest) with noticeDrops := satInc 65535 rest.length } = _
    rw [hdrops]
    rfl

/-- R161, R172: LPU after those notices, with upstream-out by what waits. -/
theorem withNotices_eq (l : Lpu) (es : List AlarmEntry) : l.withNotices es = { State.reset.lpu with
    addressPins := l.addressPins
    address := addressOf l.addressPins
    rxUp := l.rxUp, rxDown := l.rxDown, downForward := l.downForward, upForward := l.upForward
    answers := (l.withNotices es).answers, noticeDrops := (l.withNotices es).noticeDrops
    sending := if l.upForward ≠ [] then some .forwarded
      else if (l.withNotices es).answers ≠ [] then some .own else none
    lastServed := if l.upForward ≠ [] then .forwarded else .own } := by
  cases es <;> rfl

/-! ### The posts (R142, R155) -/

/-- R38, R147: at requested STOP and level STOP, with no sequencer to go IDLE, a recomputation sets the lamps alone. -/
theorem recompute_lamps {s : State} (hr : s.alc.requested = .stop) (he : s.alc.effective = .stop)
    (hq : s.csq.seq ≠ .running ∧ s.csq.seq ≠ .held) : recompute s = s.updAlc lampsOf := by
  have hlevel : s.updAlc (fun a => lampsOf { a with effective := effectiveOf a }) = s.updAlc lampsOf := by
    simp only [State.updAlc, effectiveOf_requested_stop hr, ← he]
  obtain ⟨hsame, -⟩ := recompute_cases s
  rw [hsame ((effectiveOf_requested_stop hr).trans he.symm), hlevel]
  exact if_neg fun ⟨h, _⟩ => h.elim hq.1 hq.2

variable {a : Alc} {l : Lpu} {kinds : List AlarmKind} {k : AlarmKind} {u : State}

/-- R155: the state `u` a soft reset builds, with ALC and LPU as the posts of `kinds` leave them. -/
def withConditions (a : Alc) (l : Lpu) (kinds : List AlarmKind) (u : State) : State :=
  { u with alc := a.conditionsPosted kinds, lpu := l.withNotices (a.entriesOf kinds) }

theorem withConditions_nil (ha : u.alc = a.soft) (hl : u.lpu = l.softened) : withConditions a l [] u = u := by
  rw [withConditions, conditionsPosted_nil, ← ha]
  show { u with lpu := l.softened } = u
  rw [← hl]

theorem conditionsPosted_holds (c : ChannelId) (h : (a.conditionsPosted kinds).Holds c k none) : k ∈ kinds := by
  obtain ⟨e, he, hk, -⟩ := h
  rw [conditionsPosted_channel] at he
  exact hk ▸ mem_entriesOf (List.mem_of_mem_filter he)

/-- R142 to R144: one more kind is posted. -/
theorem post_withConditions (hq : u.csq.seq ≠ .running ∧ u.csq.seq ≠ .held) (hs : u.shu.sweep = none) (hnew : k ∉ kinds)
    (hn : kinds.length < 8) : post k none (withConditions a l kinds u) = withConditions a l (kinds ++ [k]) u := by
  have hmap : (withConditions a l kinds u).alc.mapOf k = a.mapOf k := rfl
  cases h : (a.mapOf k).suppress with
  | true =>
    rw [post_suppressed (hmap ▸ h), hmap, withConditions, withConditions, ← conditionsPosted_suppress h hn,
      entriesOf_suppressed h]
    rfl
  | false =>
    have hroom : ((withConditions a l kinds u).alc.channel (a.mapOf k).channel).entries.length < 8 := by
      show ((a.conditionsPosted kinds).channel (a.mapOf k).channel).entries.length < 8
      rw [conditionsPosted_channel]
      exact (List.length_filter_le ..).trans_lt ((entriesOf_length a kinds).trans_lt hn)
    have hlatched : latched (a.mapOf k).channel .stop = .stop := by cases (a.mapOf k).channel <;> rfl
    obtain ⟨-, -, -, hlevel⟩ := append_frame (a.conditionsPosted kinds) (a.mapOf k).channel (a.entryAfter kinds k)
    have hlamps := recompute_lamps (s := appended (a.mapOf k).channel k none (withConditions a l kinds u))
      hlatched hlevel hq
    rw [post_appends (hmap ▸ h) (fun hheld => hnew (conditionsPosted_holds _ hheld)) hroom (.inl hs), hmap, hlamps,
      withConditions, withConditions, ← conditionsPosted_append h, entriesOf_posted h,
      ← withNotices_notice l _ _ ((entriesOf_length a kinds).trans_lt hn)]
    rfl

/-- R155: the posts of a list of kinds, one after another. -/
theorem posts_withConditions (hq : u.csq.seq ≠ .running ∧ u.csq.seq ≠ .held) (hs : u.shu.sweep = none)
    (done : List AlarmKind) (hnodup : (done ++ kinds).Nodup) (hn : (done ++ kinds).length ≤ 8) :
    kinds.foldl (fun t k => post k none t) (withConditions a l done u) = withConditions a l (done ++ kinds) u := by
  induction kinds generalizing done with
  | nil => rw [List.append_nil, List.foldl_nil]
  | cons k rest ih =>
    have hnew : k ∉ done := fun h => (List.nodup_append.mp hnodup).2.2 k h k List.mem_cons_self rfl
    have hroom : done.length < 8 := by
      rw [List.length_append, List.length_cons] at hn
      omega
    have hsplit : done ++ k :: rest = (done ++ [k]) ++ rest := List.append_cons ..
    rw [List.foldl_cons, post_withConditions hq hs hnew hroom, hsplit]
    exact ih (done ++ [k]) (hsplit ▸ hnodup) (hsplit ▸ hn)

/-- R142, R143, R155, R168: what the posts leave in the channels and the answer queue. -/
theorem withConditions_reposted : RepostedAre kinds (withConditions a l kinds u) := by
  refine ⟨fun c => conditionsPosted_channel a kinds c, rfl, rfl, levelInv_follows _ ⟨?_, rfl⟩, rfl, rfl⟩
  exact (effectiveOf_requested_stop rfl).symm

/-! ### The state after a soft reset -/

theorem release_softened (s : State) : releaseAtReset (softened s) = { softened s with
    tbc := { s.tbc.soft with
      handler := some ⟨.release, if s.alc.estop = .asserted then .suspended else .running⟩
      handlerTimer := if s.alc.estop = .asserted then .suspended s.tables.constants.moveTimeout
        else .running s.tables.constants.moveTimeout }
    out := { s.out.soft (s.csq.cycle == .step) with handler := .release } } := by
  have hline : (softened s).alc.estop = s.alc.estop := rfl
  unfold releaseAtReset commandHandler
  simp only [hline]
  split <;> rfl

/-- The conditions that stand after a soft reset. -/
def softPosts (s : State) : List AlarmKind := repostsDue (releaseAtReset (softened s))

theorem softPosts_perm (s : State) :
    (softPosts s).Perm ((if s.alc.estop = .asserted then [.estop] else [])
      ++ (if s.tpc.tension = .broken then [.tapeBreak] else [])
      ++ (if s.tbc.limits = .active then [.tableLimit] else [])) := by
  refine (repostsDue_perm _).trans (.of_eq ?_)
  rw [release_softened]
  show [AlarmKind.estop, .tapeBreak, .tableLimit].filter (conditionStands s) = _
  simp only [List.filter_cons, List.filter_nil, conditionStands, beq_iff_eq]
  split_ifs <;> rfl

theorem softReset_withConditions {s : State} (h : s.lpu.sending = none) :
    softReset s = withConditions s.alc s.lpu (softPosts s) (releaseAtReset (softened s)) := by
  have hframe := release_softened s
  have hseq : (softened s).csq.seq ≠ .running ∧ (softened s).csq.seq ≠ .held := by
    have hmode : (softened s).csq.seq = if s.tables.constants.mode = .insertOnly then .idle else .purging := rfl
    rw [hmode]
    split <;> decide
  have hposts := posts_withConditions (a := s.alc) (l := s.lpu) (u := releaseAtReset (softened s))
    (kinds := softPosts s) (by rw [hframe]; exact hseq) (by rw [hframe]; exact (shuSoft_subst s.shu).2) []
    (repostsDue_nodup _) ((repostsDue_length _).trans (by decide))
  rw [withConditions_nil (by rw [hframe]; rfl) (by rw [hframe]; exact soft_eq_softened h)] at hposts
  exact hposts

/-- R171: the end of the answer to a RESET is the soft reset. -/
theorem exec_upstreamSendEnd_reset {s : State} {w : OwnFrame} {rest : List OwnFrame}
    (hsending : s.lpu.sending = some .own) (hanswers : s.lpu.answers = w :: rest) (h : w.endsInReset = true) :
    exec .upstreamSendEnd s = .next (softReset (s.updLpu ({ · with answers := rest, sending := none }))) := by
  change execUpstreamSendEnd s = _
  rw [execUpstreamSendEnd, hsending, hanswers]
  exact if_pos h

/-- R171: a RESET taken is answered OK, and the reset is pending. -/
theorem exec_reset {s : State} (hs : Takes s) (tag : Byte) : exec (.reset tag) s = .next { s with lpu :=
    { (s.lpu.pushOwn ⟨mkFrame s.lpu.sender 0x80#8 tag [0x50, 0], true⟩) with resetPending := true } } := by
  have hsender : (s.lpu.pushOwn (answerPlace tag)).sender = s.lpu.sender := by simp [Lpu.sender]
  change execReset tag s = _
  rw [execReset, request_taken 0x50 tag actReset hs, ← pushOwn_set s.lpu (answerPlace tag), ← hsender]
  rfl

end Sys2Proof.Machine

open Sys2Proof Sys2Proof.Machine

/-- Settles O6: the conditions that stand are posted one after another, by the kept map, to channels that are empty. -/
theorem resetRequestThenSoftReset : Obligations.ResetRequestThenSoftReset := by
  unfold Obligations.ResetRequestThenSoftReset
  refine ⟨fun tag s hs => exec_reset hs tag, fun s w rest hsending hanswers hmark => ?_⟩
  let s1 := s.updLpu ({ · with answers := rest, sending := none })
  refine ⟨_, (exec_upstreamSendEnd_reset hsending hanswers hmark).trans
    (congrArg Host.Outcome.next (softReset_withConditions (s := s1) rfl)), ?_⟩
  have hframe := release_softened s1
  have hperm := softPosts_perm s1
  generalize releaseAtReset (softened s1) = u at hframe ⊢
  subst hframe
  generalize softPosts s1 = kinds at hperm ⊢
  refine ⟨rfl, ?_, rfl, rfl, rfl, rfl, fun hnone => ?_, fun sweep hsweep => ?_, rfl, rfl, rfl, rfl, rfl, rfl, rfl, rfl,
    rfl, ⟨kinds, hperm, withConditions_reposted⟩, ?_⟩
  · exact withNotices_eq s1.lpu (s.alc.entriesOf kinds)
  · show s.shu.soft = s.shu
    rw [Shu.soft, hnone]
  · show s.shu.soft = _
    rw [Shu.soft, hsweep]
    rfl
  · show { s.out.soft (s.csq.cycle == .step) with handler := .release } = _
    simp [Outputs.soft]

end

section
/-! PROOF. A step is the command at the front of the queue, or idles (Sys2Proof/Machine/Step). -/

namespace Sys2Proof.Machine

theorem step_cons {c : Instr} {rest : List Instr} {s : State} (h : s.pending = c :: rest) :
    step s = exec c (s.withPending rest) := by rw [step, h]

theorem step_idle {s : State} (h : s.pending = []) : step s = .next s := by rw [step, h]

end Sys2Proof.Machine

open Sys2Proof Sys2Proof.Machine

/-- Settles O1: the two branches of `step`. -/
theorem stepRunsFront : Obligations.StepRunsFront :=
  ⟨fun _ _ _ => step_cons rfl, fun _ => step_idle⟩

end

section
/-! PROOF. The stations, the intake and the taper leave the queue of waiting commands as it was; with what
Sys2Proof/Laws/Frames says of the shared operations (Sys2Proof/Machine/Health, Intake, Taping). -/

namespace Sys2Proof.Machine

variable (s : State)

/-- A command's answer: a next state whose queue of waiting commands is `q`. -/
def NextWithQueue (q : List Instr) (r : Result) : Prop := ∃ t, r = .next t ∧ t.pending = q

@[simp] theorem nextWithQueue_next {q : List Instr} {t : State} : NextWithQueue q (.next t) ↔ t.pending = q :=
  ⟨fun ⟨_, h, ht⟩ => Host.Outcome.next.inj h ▸ ht, fun h => ⟨t, rfl, h⟩⟩

/-! ### Station records and the Substitution Table -/

@[simp] theorem setRecord_pending (n : Nat) (f : StationRecord → StationRecord) :
    (setRecord n f s).pending = s.pending := by
  unfold setRecord
  split <;> rfl

@[simp] theorem dropSubstitute_pending (n : Nat) : (dropSubstitute n s).pending = s.pending := rfl

@[simp] theorem noticeUnusable_pending (n : Nat) : (noticeUnusable n s).pending = s.pending := rfl

@[simp] theorem becomeUnusable_pending (n : Nat) : (becomeUnusable n s).pending = s.pending := rfl

@[simp] theorem attemptSubstitution_pending (f : Nat) : (attemptSubstitution f s).pending = s.pending := by
  unfold attemptSubstitution
  split
  · rfl
  · split
    · rfl
    · split
      · rfl
      · simp

@[simp] theorem stationFailed_pending (was : Bool) (n : Nat) : (stationFailed was n s).pending = s.pending := by
  unfold stationFailed
  split <;> simp

@[simp] theorem countedMiss_pending (n : Nat) : (countedMiss n s).pending = s.pending := by
  unfold countedMiss
  extract_lets was s1 r
  split <;> simp [s1]

@[simp] theorem confirmedDrop_pending (n : Nat) : (confirmedDrop n s).pending = s.pending := setRecord_pending ..

@[simp] theorem emptyReply_pending (n : Nat) : (emptyReply n s).pending = s.pending := by
  unfold emptyReply
  split <;> simp

@[simp] theorem lowReply_pending (n : Nat) : (lowReply n s).pending = s.pending := by simp [lowReply]

@[simp] theorem countFire_pending (n : Nat) : (countFire n s).pending = s.pending := setRecord_pending ..

/-! ### The sweep -/

@[simp] theorem updMember_pending (n : Nat) (f : SweepMember → SweepMember) :
    (updMember n f s).pending = s.pending := rfl

@[simp] theorem passSensed_pending (n : Nat) (present : Bool) : (passSensed n present s).pending = s.pending := rfl

@[simp] theorem judgePass_pending (n : Nat) (r : Reply) : (judgePass n r s).pending = s.pending := by
  unfold judgePass
  split <;> rfl

@[simp] theorem reportFire_pending (n : Nat) (r : Reply) : (reportFire n r s).pending = s.pending := by
  cases r <;> simp [reportFire]

@[simp] theorem reportTest_pending (judged : Bool) (n : Nat) (r : Reply) :
    (reportTest judged n r s).pending = s.pending := by
  unfold reportTest
  extract_lets s1 s2
  have hreported : s2.pending = s.pending := by cases r <;> simp [s2, s1]
  split
  · exact (judgePass_pending ..).trans hreported
  · exact hreported

@[simp] theorem applyFlags_pending (w : Sweep) : (applyFlags w s).pending = s.pending :=
  foldl_keep State.pending _ (fun _ _ => setRecord_pending ..) _ s

@[simp] theorem jamFailing_pending (n : Nat) : (jamFailing n s).pending = s.pending := by
  unfold jamFailing
  extract_lets was s1
  split <;> simp [s1]

@[simp] theorem applySubstitution_pending (failing : List Nat) (chosen : List (Nat × Nat)) :
    (applySubstitution failing chosen s).pending = s.pending := by
  have hnotices := foldl_keep State.pending (fun t f => noticeUnusable f t) fun _ _ => rfl
  have hdrops := foldl_keep State.pending (fun t f => dropSubstitute f t) fun _ _ => rfl
  have hjams := foldl_keep State.pending (fun t f => jamFailing f t) fun _ _ => jamFailing_pending ..
  simp [applySubstitution, hnotices, hdrops, hjams]

@[simp] theorem applySweep_pending (w : Sweep) : (applySweep w s).pending = s.pending := by
  unfold applySweep
  extract_lets failing chosen tooMany outcome install s1 s2
  have hinstalled : s2.pending = s.pending := by
    simp only [s2, s1]
    split <;> simp
  simp [hinstalled]

@[simp] theorem sweepTest_pending : (sweepTest s).pending = s.pending := by
  unfold sweepTest
  split
  · rfl
  · split
    · exact applySweep_pending ..
    · rfl

@[simp] theorem applyStationFlags_pending (clear set : Byte) (n : Nat) :
    (applyStationFlags clear set n s).pending = s.pending := by
  unfold applyStationFlags
  extract_lets was s1 now s2
  have hcleared : s2.pending = s.pending := by
    simp only [s2, s1]
    split <;> simp
  split <;> exact hcleared

/-! ### Takes, asks, PLACE and FLUSH -/

@[simp] theorem placeRecords_pending (rs : List StreamRecord) : (placeRecords rs s).1.pending = s.pending := by
  induction rs generalizing s with
  | nil => rfl
  | cons r rest ih =>
    unfold placeRecords
    split
    · exact ih _
    · rfl

theorem take_pending {s t : State} {e : Option Entry} (h : take s = (t, e)) : t.pending = s.pending := by
  obtain ⟨_, heffect⟩ := take_effect_of_eq h
  rw [heffect.blocks]

@[simp] theorem takeForHead_pending : (takeForHead s).pending = s.pending := by
  unfold takeForHead
  split
  next ht => simpa using take_pending ht
  next ht => simpa using take_pending ht

@[simp] theorem askPin_pending : (askPin s).pending = s.pending := by
  unfold askPin
  split <;> simp

@[simp] theorem retakeAsk_pending : (retakeAsk s).pending = s.pending := by
  unfold retakeAsk
  split <;> simp

@[simp] theorem flushQueue_pending : (flushQueue s).pending = s.pending := by rw [flushQueue_eq]

/-! ### Transfer actions -/

@[simp] theorem commandTransfer_pending (op : TransferOp) : (commandTransfer op s).pending = s.pending := by
  unfold commandTransfer
  extract_lets full s1
  split <;> simp [s1]

@[simp] theorem startTaping_pending : (startTaping s).pending = s.pending := by
  unfold startTaping
  split <;> simp

@[simp] theorem startTransfer_pending (c : ClipState) : (startTransfer c s).pending = s.pending := by
  cases c <;> simp [startTransfer]

@[simp] theorem endTransfer_pending : (endTransfer s).pending = s.pending := rfl

@[simp] theorem releaseTaped_pending : (releaseTaped s).pending = s.pending := by
  unfold releaseTaped
  split
  · rfl
  · split <;> simp [endTaped]

@[simp] theorem estopTransfer_pending : (estopTransfer s).pending = s.pending := by
  unfold estopTransfer
  split <;> simp

theorem execTapedEvent_queue : NextWithQueue s.pending (execTapedEvent s) := by
  unfold execTapedEvent
  split <;> simp

theorem execDumpEvent_queue : NextWithQueue s.pending (execDumpEvent s) := by
  unfold execDumpEvent
  split <;> simp

theorem execTaperTimeout_queue : NextWithQueue s.pending (execTaperTimeout s) := by
  unfold execTaperTimeout
  split
  · split <;> simp
  · simp

theorem execTaperRestart_queue : NextWithQueue s.pending (execTaperRestart s) := by
  unfold execTaperRestart
  split
  · split <;> simp
  · simp

theorem execTensionBreak_queue : NextWithQueue s.pending (execTensionBreak s) := by
  unfold execTensionBreak
  split <;> simp

theorem withdrawEntries_pending (l : List TapeEntry) :
    (l.foldl (fun t e => withdraw e.entry.uid t) s).pending = s.pending :=
  foldl_keep State.pending (fun t e => withdraw e.entry.uid t) (fun _ _ => rfl) l s

theorem execMarkingNoticeTpc_queue : NextWithQueue s.pending (execMarkingNoticeTpc s) := by
  unfold execMarkingNoticeTpc
  split
  · simp
  · exact nextWithQueue_next.mpr (withdrawEntries_pending ..)

end Sys2Proof.Machine
end

section
/-! PROOF. The chain leaves the queue of waiting commands as it was (Sys2Proof/Machine/Chain). -/

namespace Sys2Proof.Machine

variable (s : State)

/-! ### Cascades and marked images -/

@[simp] theorem missCascade_pending (missed : List Nat) : (missCascade missed s).pending = s.pending := by
  unfold missCascade
  extract_lets s1
  split
  · rfl
  · refine (foldl_keep State.pending _ (fun _ _ => by simp) _ _).trans ?_
    simp [s1, countTries]

theorem execUnusableStationCascade_queue : NextWithQueue s.pending (execUnusableStationCascade s) := by
  unfold execUnusableStationCascade
  split
  · simp
  · extract_lets s1
    split <;> simp [s1]

@[simp] theorem rejectEntry_pending (e : Entry) (station : Nat) : (rejectEntry e station s).pending = s.pending := rfl

@[simp] theorem markEntry_pending (w : WindowEntry) : (markEntry w s).pending = s.pending := by
  unfold markEntry
  split <;> simp

theorem execMarkingNoticeCsq_queue : NextWithQueue s.pending (execMarkingNoticeCsq s) := by
  have hmarked := foldl_keep State.pending (fun t w => markEntry w t) fun _ _ => markEntry_pending ..
  unfold execMarkingNoticeCsq
  split <;> simp [hmarked]

/-! ### Step start, timeout and index event -/

theorem execChainStepStart_queue : NextWithQueue s.pending (execChainStepStart s) := by
  unfold execChainStepStart
  split <;> simp

theorem execChainStepTimeout_queue : NextWithQueue s.pending (execChainStepTimeout s) := by
  unfold execChainStepTimeout
  split <;> simp

@[simp] theorem estopStep_pending : (estopStep s).pending = s.pending := by
  unfold estopStep
  split <;> simp

@[simp] theorem clipSense_pending (present : Bool) : (clipSense present s).pending = s.pending := by
  unfold clipSense
  extract_lets p missed
  split <;> simp

@[simp] theorem handOver_pending : (handOver s).pending = s.pending := by simp [handOver]

@[simp] theorem countServed_pending (c : Nat) : (countServed c s).pending = s.pending := rfl

@[simp] theorem assignCandidate_pending (w : WindowEntry) : (assignCandidate w s).pending = s.pending := by
  unfold assignCandidate
  extract_lets c
  split
  · simp
  · extract_lets d
    split <;> simp [reserve]

@[simp] theorem dropInvalid_pending (l : List WindowEntry) : (dropInvalid l s).1.pending = s.pending := by
  induction l generalizing s with
  | nil => rfl
  | cons w rest ih =>
    unfold dropInvalid
    split
    · rfl
    · exact ih _

@[simp] theorem assignEntering_pending : (assignEntering s).pending = s.pending := by
  have hvalid := dropInvalid_pending s (s.csq.window.filter (fun w => w.status == .unassigned))
  unfold assignEntering
  split
  next hd =>
    rw [hd] at hvalid
    exact (assignCandidate_pending ..).trans hvalid
  next hd =>
    rw [hd] at hvalid
    split
    next ht => exact (take_pending ht).trans hvalid
    next ht => exact (assignCandidate_pending ..).trans ((take_pending ht).trans hvalid)

@[simp] theorem assignStep_pending : (assignStep s).pending = s.pending := by
  unfold assignStep
  split <;> simp

/-! ### The exchange -/

@[simp] theorem fireTest_pending (n : Nat) : (fireTest n s).pending = s.pending := rfl

@[simp] theorem buildTests_pending : (buildTests s).pending = s.pending := by
  unfold buildTests
  split
  · exact foldl_keep State.pending (fun t n => fireTest n t) (fun _ _ => rfl) _ s
  · rfl

@[simp] theorem buildExchange_pending : (buildExchange s).pending = s.pending := by
  simp [buildExchange, sendOrWait]

theorem execChainIndexEvent_queue (present : Bool) : NextWithQueue s.pending (execChainIndexEvent present s) := by
  unfold execChainIndexEvent
  split <;> simp

theorem execExchangeSend_queue : NextWithQueue s.pending (execExchangeSend s) := by
  unfold execExchangeSend
  split <;> simp

@[simp] theorem applyTestReply_pending (station clip : Nat) (r : Reply) :
    (applyTestReply station clip r s).pending = s.pending := by
  unfold applyTestReply
  split <;> simp

@[simp] theorem setStatus_pending (uid : Nat) (st : EntryStatus) : (setStatus uid st s).pending = s.pending := rfl

@[simp] theorem applyReply_pending (acc : State × List Nat) (slot : Nat × SlotCommand × Reply) :
    (applyReply acc slot).1.pending = acc.1.pending := by
  obtain ⟨station, command, reply⟩ := slot
  cases command with
  | none => rfl
  | test clip judged => exact applyTestReply_pending ..
  | fire uid =>
    simp only [applyReply]
    split
    · split <;> simp
    · split <;> simp

theorem applyReplies_pending (slots : List (Nat × SlotCommand × Reply)) (acc : State × List Nat) :
    (slots.foldl applyReply acc).1.pending = acc.1.pending := by
  induction slots generalizing acc with
  | nil => rfl
  | cons slot rest ih => exact (ih _).trans (applyReply_pending acc slot)

@[simp] theorem reportSlot_pending (slot : Nat × SlotCommand × Reply) : (reportSlot s slot).pending = s.pending := by
  unfold reportSlot
  split <;> simp

theorem execExchangeComplete_queue (replies : List ReplySlot) :
    NextWithQueue s.pending (execExchangeComplete replies s) := by
  have hreports := foldl_keep State.pending reportSlot fun _ _ => reportSlot_pending ..
  unfold execExchangeComplete
  split
  · extract_lets rs slots s1
    have hreplies := applyReplies_pending slots (s1, [])
    split
    next hacc =>
      rw [hacc] at hreplies
      simpa [hreports, s1] using hreplies
  · simp

end Sys2Proof.Machine
end

section
/-! PROOF. The clinch signature, the head and the table leave the queue of waiting commands as it was
(Sys2Proof/Machine/Clinch, Head, Table). -/

namespace Sys2Proof.Machine

variable (s : State)

/-! ### Capture, wear and faults -/

@[simp] theorem handVerdict_pending (v : Verdict) (f : Option Features) : (handVerdict v f s).pending = s.pending := rfl

@[simp] theorem clinchBegin_pending (e : TapeEntry) : (clinchBegin e s).pending = s.pending := by
  unfold clinchBegin
  split
  · rfl
  · split <;> rfl

@[simp] theorem shutWindow_pending : (shutWindow s).pending = s.pending := rfl

@[simp] theorem wearUpdate_pending (w : SampleWindow) (peak : Int) : (wearUpdate w peak s).pending = s.pending := by
  unfold wearUpdate
  extract_lets acc s1
  split <;> simp [s1]

@[simp] theorem actPolicy_pending (w : SampleWindow) : (actPolicy w s).pending = s.pending := by
  unfold actPolicy
  split <;> simp

@[simp] theorem repeatTest_pending (n : Nat) : (repeatTest n s).pending = s.pending := by
  unfold repeatTest
  split <;> simp

@[simp] theorem handleVerdict_pending (v : Verdict) (w : SampleWindow) : (handleVerdict v w s).pending = s.pending := by
  unfold handleVerdict
  split
  · rfl
  · rfl
  · extract_lets s1 s2
    have hposted : s2.pending = s.pending := by
      simp only [s2, s1]
      split <;> simp
    simp [hposted]

@[simp] theorem closeWindow_pending (w : SampleWindow) : (closeWindow w s).pending = s.pending := by
  unfold closeWindow
  extract_lets m v s1 signature s2 s3
  have hclosed : s2.pending = s.pending := rfl
  clear_value s2 m
  have hworn : s3.pending = s.pending := by
    simp only [s3]
    split
    · split <;> simp [hclosed]
    · exact hclosed
  exact (handleVerdict_pending ..).trans hworn

@[simp] theorem closeIfOpen_pending : (closeIfOpen s).pending = s.pending := by
  unfold closeIfOpen
  split <;> simp

theorem execForceSample_queue (code : BitVec 12) : NextWithQueue s.pending (execForceSample code s) := by
  unfold execForceSample
  split
  · simp
  · extract_lets w1 s1
    split <;> simp [s1]

theorem execSilenceTimeout_queue : NextWithQueue s.pending (execSilenceTimeout s) := by
  unfold execSilenceTimeout
  split
  · simp
  · split <;> simp

/-! ### Phases of the head -/

@[simp] theorem enterPhase_pending (p : HeadState) : (enterPhase p s).pending = s.pending := rfl

@[simp] theorem turnToDump_pending : (turnToDump s).pending = s.pending := rfl

@[simp] theorem driveTest_pending (e : TapeEntry) : (driveTest e s).pending = s.pending := by
  unfold driveTest
  split
  · rfl
  · split <;> rfl

@[simp] theorem enterSetup_pending (e : TapeEntry) : (enterSetup e s).pending = s.pending := rfl

theorem execInsertCycleStart_queue : NextWithQueue s.pending (execInsertCycleStart s) := by
  unfold execInsertCycleStart
  split
  · simp
  · split
    · split <;> simp
    · simp

theorem execDumpCycleStart_queue : NextWithQueue s.pending (execDumpCycleStart s) := by
  unfold execDumpCycleStart
  split
  · simp
  · split <;> simp

theorem execFreeDumpCycleStart_queue : NextWithQueue s.pending (execFreeDumpCycleStart s) := by
  unfold execFreeDumpCycleStart
  split <;> simp

theorem execHomingStart_queue : NextWithQueue s.pending (execHomingStart s) := by
  unfold execHomingStart
  split <;> simp

@[simp] theorem axisReported_pending (axis : HeadAxis) (c : HeadCycle) (e : TapeEntry) :
    (axisReported axis c e s).pending = s.pending := by
  unfold axisReported
  extract_lets c1 s1
  split <;> rfl

theorem execAxisInPosition_queue (axis : HeadAxis) : NextWithQueue s.pending (execAxisInPosition axis s) := by
  unfold execAxisInPosition
  split
  · split
    · split <;> simp
    · simp
  · simp

@[simp] theorem failSetup_pending : (failSetup s).pending = s.pending := by simp [failSetup]

theorem execSpanFault_queue : NextWithQueue s.pending (execSpanFault s) := by
  unfold execSpanFault
  split <;> simp

theorem execCutDone_queue : NextWithQueue s.pending (execCutDone s) := by
  unfold execCutDone
  split <;> simp

theorem execFormDone_queue : NextWithQueue s.pending (execFormDone s) := by
  unfold execFormDone
  split
  · split <;> simp
  · simp

theorem execDriveDone_queue : NextWithQueue s.pending (execDriveDone s) := by
  unfold execDriveDone
  split
  · split <;> simp
  · simp

theorem execClinchDone_queue : NextWithQueue s.pending (execClinchDone s) := by
  unfold execClinchDone
  split <;> simp

theorem execEjectDone_queue : NextWithQueue s.pending (execEjectDone s) := by
  unfold execEjectDone
  split <;> simp

theorem execMarkingNoticeHdc_queue : NextWithQueue s.pending (execMarkingNoticeHdc s) := by
  unfold execMarkingNoticeHdc
  split
  · simp
  · split
    · split <;> simp
    · simp

/-! ### Ends of cycles -/

@[simp] theorem finishNotice_pending (o : RecordOutcome) (e : Entry) : (finishNotice o e s).pending = s.pending := by
  unfold finishNotice
  split <;> rfl

@[simp] theorem countOutcome_pending (o : RecordOutcome) : (countOutcome o s).pending = s.pending := rfl

@[simp] theorem endCycleWith_pending (o : RecordOutcome) (c : HeadCycle) : (endCycleWith o c s).pending = s.pending := by
  unfold endCycleWith
  split
  · rfl
  · unfold finishEntry
    split <;> simp

theorem execHeadUp_queue : NextWithQueue s.pending (execHeadUp s) := by
  unfold execHeadUp
  split <;> simp

@[simp] theorem abortCycle_pending (c : HeadCycle) : (abortCycle c s).pending = s.pending := by simp [abortCycle]

@[simp] theorem failHoming_pending : (failHoming s).pending = s.pending := rfl

theorem execPhaseTimeout_queue : NextWithQueue s.pending (execPhaseTimeout s) := by
  unfold execPhaseTimeout
  split
  · split
    · simp
    · split <;> simp
    · simp
  · simp

@[simp] theorem estopHead_pending : (estopHead s).pending = s.pending := by
  unfold estopHead
  split
  · simp
  · simp
  · split <;> simp
  · rfl

theorem execHomeDone_queue : NextWithQueue s.pending (execHomeDone s) := by
  unfold execHomeDone
  split <;> simp

theorem execSkipButton_queue : NextWithQueue s.pending (execSkipButton s) := by
  unfold execSkipButton
  split
  · split <;> simp
  · simp

/-! ### The handler -/

@[simp] theorem commandHandler_pending (op : HandlerOp) : (commandHandler op s).pending = s.pending := by
  unfold commandHandler
  extract_lets full s1
  split <;> rfl

@[simp] theorem endHandler_pending (panel : PanelState) : (endHandler panel s).pending = s.pending := rfl

theorem execClamped_queue : NextWithQueue s.pending (execClamped s) := by
  unfold execClamped
  split <;> simp

theorem execReleased_queue : NextWithQueue s.pending (execReleased s) := by
  unfold execReleased
  split <;> simp

theorem execHandlerTimeout_queue : NextWithQueue s.pending (execHandlerTimeout s) := by
  unfold execHandlerTimeout
  split
  · split <;> simp
  · simp

theorem execHandlerRestart_queue : NextWithQueue s.pending (execHandlerRestart s) := by
  unfold execHandlerRestart
  split
  · split
    · simp
    · split <;> simp
    · simp
  · simp

@[simp] theorem estopTable_pending : (estopTable s).pending = s.pending := by
  unfold estopTable
  extract_lets s1
  split <;> simp [s1]

theorem execLoadStart_queue : NextWithQueue s.pending (execLoadStart s) := by
  unfold execLoadStart
  split <;> simp

theorem execUnloadStart_queue : NextWithQueue s.pending (execUnloadStart s) := by
  unfold execUnloadStart
  split <;> simp

/-! ### Moves -/

@[simp] theorem startMove_pending (k : MoveKind) (target : Int × Int) : (startMove k target s).pending = s.pending := rfl

theorem execSurveyMoveStart_queue : NextWithQueue s.pending (execSurveyMoveStart s) := by
  unfold execSurveyMoveStart
  split
  · split <;> simp
  · simp

theorem execInsertMoveStart_queue : NextWithQueue s.pending (execInsertMoveStart s) := by
  unfold execInsertMoveStart
  split
  · split <;> simp
  · simp

@[simp] theorem readMark_pending (present : Bool) (n : Nat) : (readMark present n s).pending = s.pending := by
  show State.pending (if present = true then _ else s) = s.pending
  split
  · rw [(post_frame ..).1]
    split <;> simp
  · rfl

@[simp] theorem reportInPosition_pending (uid : Nat) : (reportInPosition uid s).pending = s.pending := by
  unfold reportInPosition
  extract_lets s1
  split
  · split <;> simp [s1]
  · rfl

theorem execInPosition_queue (present : Bool) : NextWithQueue s.pending (execInPosition present s) := by
  unfold execInPosition
  split
  · simp
  · split
    · simp
    · split <;> simp

theorem execMoveTimeout_queue : NextWithQueue s.pending (execMoveTimeout s) := by
  unfold execMoveTimeout
  split <;> simp

theorem execLimitActive_queue : NextWithQueue s.pending (execLimitActive s) := by
  unfold execLimitActive
  split <;> simp

end Sys2Proof.Machine
end

section
/-! PROOF. The levels, the requests, the link and the resets answer a next state with the queue of waiting commands as it
was; so does every command (Sys2Proof/Machine/RunLevel, Reset, Loads, Requests, Link, Dispatch). -/

namespace Sys2Proof.Machine

variable (s : State)

/-! ### Run level, clearing, the E-stop line -/

@[simp] theorem takeRun_pending : (takeRun s).pending = s.pending := by
  unfold takeRun idleToRunning
  split <;> simp

@[simp] theorem takeHold_pending : (takeHold s).pending = s.pending := by simp [takeHold]

@[simp] theorem takeStop_pending : (takeStop s).pending = s.pending := by simp [takeStop]

theorem execResumeButton_queue : NextWithQueue s.pending (execResumeButton s) := by
  unfold execResumeButton
  split <;> simp

@[simp] theorem repostEstop_pending : (repostEstop s).pending = s.pending := by
  unfold repostEstop
  split <;> simp

@[simp] theorem clearEntry_pending (c : ChannelId) (seq : Word16) : (clearEntry c seq s).pending = s.pending := by
  unfold clearEntry
  extract_lets s1
  split <;> simp [s1]

theorem execClearButton_queue : NextWithQueue s.pending (execClearButton s) := by
  unfold execClearButton
  extract_lets s1
  split
  · simp [s1]
  · split <;> simp [s1]

theorem execEstopAsserted_queue : NextWithQueue s.pending (execEstopAsserted s) := by
  unfold execEstopAsserted
  split <;> simp

/-! ### The acts (R162) -/

/-- An act that leaves the queue of waiting commands. -/
def Act.KeepsQueue (act : Act) : Prop := ∀ s, (act s).1.pending = s.pending

theorem refused_queue (code : ResultCode) (data : List Byte) : Act.KeepsQueue (fun s => (s, code, data)) := fun _ => rfl

theorem actPlace_queue (payload : List Byte) : (actPlace payload).KeepsQueue := fun s => by
  unfold actPlace
  split
  · rfl
  · split
    · rfl
    · extract_lets r free
      show State.pending (if r.2.2 = 0 then r.1 else retakeAsk r.1) = _
      split <;> simp [r]

theorem loadTable_pending (t : TableName) (count : Byte) (body : List Byte) (k : LoadCheck) {write : State → State}
    (h : ∀ s, (write s).pending = s.pending) : (loadTable t count body k write s).1.pending = s.pending := by
  unfold loadTable
  split
  · rfl
  · split
    · rfl
    · split
      · rfl
      · rfl
      · exact h s
      · rfl

theorem loadComponent_queue (first : Word16) (count : Byte) (body : List Byte) :
    (loadComponent first count body).KeepsQueue := fun s => loadTable_pending s _ _ _ _ fun _ => by simp

theorem loadSpan_queue (first : Word16) (count : Byte) (body : List Byte) :
    (loadSpan first count body).KeepsQueue := fun s => loadTable_pending s _ _ _ _ fun _ => rfl

theorem loadStationMap_queue (first : Word16) (count : Byte) (body : List Byte) :
    (loadStationMap first count body).KeepsQueue := fun s => loadTable_pending s _ _ _ _ fun _ => rfl

theorem loadProfile_queue (first : Word16) (count : Byte) (body : List Byte) :
    (loadProfile first count body).KeepsQueue := fun s => loadTable_pending s _ _ _ _ fun _ => rfl

theorem loadFilterSet_queue (first : Word16) (count : Byte) (body : List Byte) :
    (loadFilterSet first count body).KeepsQueue := fun s => loadTable_pending s _ _ _ _ fun _ => rfl

theorem loadPanelPattern_queue (first : Word16) (count : Byte) (body : List Byte) :
    (loadPanelPattern first count body).KeepsQueue := fun s => loadTable_pending s _ _ _ _ fun _ => rfl

theorem loadAlarmMap_queue (first : Word16) (count : Byte) (body : List Byte) :
    (loadAlarmMap first count body).KeepsQueue := fun s => loadTable_pending s _ _ _ _ fun _ => rfl

@[simp] theorem takeUpMode_pending : (takeUpMode s).pending = s.pending := by
  unfold takeUpMode
  extract_lets s1
  split
  · rfl
  · split <;> rfl

@[simp] theorem writeConstants_pending (k : MachineConstants) : (writeConstants k s).pending = s.pending := by
  unfold writeConstants
  extract_lets s1 s2
  have hchain : s2.pending = s.pending := by
    simp only [s2]
    split <;> rfl
  split
  · exact hchain
  · exact (takeUpMode_pending s2).trans hchain

theorem loadConstants_queue (first : Word16) (count : Byte) (body : List Byte) :
    (loadConstants first count body).KeepsQueue := fun s => loadTable_pending s _ _ _ _ fun _ => writeConstants_pending ..

theorem loadReadOnly_queue (t : TableName) (count : Byte) (body : List Byte) :
    (loadReadOnly t count body).KeepsQueue := fun s => by
  unfold loadReadOnly
  split <;> rfl

theorem readTable_queue (t : TableName) (first : Word16) (count : Byte) (right : Bool) (extra entries : List Byte) :
    (readTable t first count right extra entries).KeepsQueue := fun s => by
  unfold readTable
  split
  · rfl
  · extract_lets data
    split <;> rfl

theorem actStationFlags_queue (station clear set : Byte) : (actStationFlags station clear set).KeepsQueue := fun s => by
  unfold actStationFlags
  split
  · rfl
  · exact foldl_keep State.pending (fun t n => applyStationFlags clear set n t)
      (fun _ _ => applyStationFlags_pending ..) _ s

theorem actRun_queue : actRun.KeepsQueue := fun s => by
  unfold actRun
  split <;> simp

theorem actHold_queue : actHold.KeepsQueue := takeHold_pending

theorem actStop_queue : actStop.KeepsQueue := takeStop_pending

theorem actHornOff_queue : actHornOff.KeepsQueue := fun _ => rfl

theorem actPanelLoad_queue : actPanelLoad.KeepsQueue := fun s => by
  unfold actPanelLoad
  split <;> rfl

theorem actFlush_queue : actFlush.KeepsQueue := flushQueue_pending

theorem actSweep_queue (payload : List Byte) : (actSweep payload).KeepsQueue := fun s => by
  unfold actSweep
  split
  · rfl
  · split <;> rfl

theorem actSweepResult_queue : actSweepResult.KeepsQueue := fun s => by
  unfold actSweepResult
  split
  · rfl
  · split <;> rfl

@[simp] theorem commandWaiting_pending : (commandWaiting s).pending = s.pending := by
  unfold commandWaiting
  split <;> simp

@[simp] theorem clearTape_pending : (clearTape s).pending = s.pending := by
  have hlost := foldl_keep State.pending (fun t e => loseEntry e t) fun _ _ => rfl
  simp [clearTape, hlost]

theorem actTapeClear_queue : actTapeClear.KeepsQueue := fun s => by
  unfold actTapeClear
  split <;> simp

theorem actMode_queue (value : Byte) : (actMode value).KeepsQueue := fun s => by
  unfold actMode
  split
  · rfl
  · split
    · rfl
    · split <;> simp

theorem actAlarmRead_queue (channel : Byte) : (actAlarmRead channel).KeepsQueue := fun s => by
  unfold actAlarmRead
  split <;> rfl

theorem actAlarmClear_queue (channel : Byte) (seq : Word16) : (actAlarmClear channel seq).KeepsQueue := fun s => by
  unfold actAlarmClear
  split
  · rfl
  · split
    · rfl
    · split <;> simp

theorem actStatus_queue : actStatus.KeepsQueue := fun _ => rfl

theorem readRing_queue : Act.KeepsQueue readRing := fun _ => rfl

theorem actRecordReadNext_queue : actRecordReadNext.KeepsQueue := fun _ => rfl

theorem actReset_queue : actReset.KeepsQueue := fun _ => rfl

/-! ### The acts by their kind (R164) -/

theorem noPayload_queue {act : Act} (h : act.KeepsQueue) (payload : List Byte) :
    (noPayload act payload).KeepsQueue := by
  cases payload with
  | nil => exact h
  | cons b rest => exact refused_queue _ _

theorem actTableLoad_queue (payload : List Byte) : (actTableLoad payload).KeepsQueue := by
  unfold actTableLoad
  split
  case h_2 => exact refused_queue _ _
  case h_1 f1 f0 count body =>
    extract_lets first
    split
    · exact refused_queue _ _
    · exact loadComponent_queue first count body
    · exact loadSpan_queue first count body
    · exact loadStationMap_queue first count body
    · exact loadProfile_queue first count body
    · exact loadFilterSet_queue first count body
    · exact loadPanelPattern_queue first count body
    · exact loadAlarmMap_queue first count body
    · exact loadConstants_queue first count body
    · exact loadReadOnly_queue _ count body

theorem actTableRead_queue (payload : List Byte) : (actTableRead payload).KeepsQueue := by
  unfold actTableRead
  split
  case h_2 => exact refused_queue _ _
  case h_1 t f1 f0 count =>
    extract_lets first
    split
    · exact refused_queue _ _
    all_goals exact fun s => readTable_queue _ _ _ _ _ _ s

theorem actOf_queue (kind : Byte) (payload : List Byte) : (actOf kind payload).KeepsQueue := by
  unfold actOf
  split
  · exact actPlace_queue _
  · exact actTableLoad_queue _
  · exact actTableRead_queue _
  · split
    · exact actStationFlags_queue _ _ _
    · exact refused_queue _ _
  · exact noPayload_queue actRun_queue _
  · exact noPayload_queue actHold_queue _
  · exact noPayload_queue actStop_queue _
  · exact noPayload_queue actHornOff_queue _
  · exact noPayload_queue actPanelLoad_queue _
  · exact noPayload_queue actFlush_queue _
  · exact actSweep_queue _
  · exact noPayload_queue actSweepResult_queue _
  · exact noPayload_queue actTapeClear_queue _
  · split
    · exact actMode_queue _
    · exact refused_queue _ _
  · split
    · exact actAlarmRead_queue _
    · exact refused_queue _ _
  · split
    · exact actAlarmClear_queue _ _
    · exact refused_queue _ _
  · exact noPayload_queue actStatus_queue _
  · exact noPayload_queue readRing_queue _
  · exact noPayload_queue actRecordReadNext_queue _
  · exact noPayload_queue actReset_queue _
  · exact refused_queue _ _

theorem request_pending (kind tag : Byte) {act : Act} (h : act.KeepsQueue) :
    (request kind tag act s).pending = s.pending := by
  unfold request
  split
  · rfl
  · exact h _

theorem request_queue (kind tag : Byte) {act : Act} (h : act.KeepsQueue) :
    NextWithQueue s.pending (.next (request kind tag act s)) :=
  nextWithQueue_next.mpr (request_pending s kind tag h)

/-! ### The link -/

@[simp] theorem setReceive_pending (p : Port) (r : Receive) : (setReceive p r s).pending = s.pending := rfl

@[simp] theorem receiveError_pending (p : Port) (e : ReceiveError) : (receiveError p e s).pending = s.pending := by
  unfold receiveError
  extract_lets s1
  split <;> simp [s1]

@[simp] theorem dispatchFrame_pending (f : Frame) : (dispatchFrame f s).pending = s.pending := by
  unfold dispatchFrame
  split
  · rfl
  · exact request_pending s f.kind f.tag (actOf_queue _ _)

@[simp] theorem routeUpstream_pending (f : Frame) : (routeUpstream f s).pending = s.pending := by
  unfold routeUpstream
  split
  · simp
  · split <;> simp

@[simp] theorem routeDownstream_pending (f : Frame) : (routeDownstream f s).pending = s.pending := rfl

@[simp] theorem frameReceived_pending (p : Port) (f : Frame) : (frameReceived p f s).pending = s.pending := by
  unfold frameReceived
  split
  · simp
  · split
    · cases p <;> simp
    · simp

@[simp] theorem takeByte_pending (p : Port) (bytes : List Byte) (b : Byte) :
    (takeByte p bytes b s).pending = s.pending := by
  unfold takeByte
  extract_lets all
  split
  · rfl
  · split
    · simp
    · split
      · rfl
      · split <;> simp

theorem execInterByteTimeout_queue (p : Port) : NextWithQueue s.pending (execInterByteTimeout p s) := by
  unfold execInterByteTimeout
  split <;> simp

theorem execFrameByteReceived_queue (p : Port) (b : Byte) :
    NextWithQueue s.pending (execFrameByteReceived p b s) := by
  unfold execFrameByteReceived
  split
  · split <;> simp
  · simp

theorem execLengthError_queue (p : Port) (b : Byte) : NextWithQueue s.pending (execLengthError p b s) := by
  unfold execLengthError
  split
  · split <;> simp
  · simp

theorem execFrameCrcMismatch_queue (p : Port) (b : Byte) :
    NextWithQueue s.pending (execFrameCrcMismatch p b s) := by
  unfold execFrameCrcMismatch
  split
  · split
    · split <;> simp
    · simp
  · simp

/-! ### The resets (R171, R172) -/

/-- R155: the release commanded and the conditions posted at the end of a reset. -/
theorem resetEnd_pending : (repost (releaseAtReset s)).pending = s.pending :=
  (foldl_keep State.pending _ (fun _ _ => by simp) _ _).trans (commandHandler_pending ..)

theorem execPowerOnReset_queue (pins : BitVec 5) (e : LineState) (b : Tension) (l : LimitState) :
    NextWithQueue s.pending (execPowerOnReset pins e b l s) := by
  rw [execPowerOnReset_eq]
  exact nextWithQueue_next.mpr (resetEnd_pending (poweredOn pins e b l s))

@[simp] theorem softReset_pending : (softReset s).pending = s.pending := by
  rw [softReset_eq]
  exact resetEnd_pending (softened s)

theorem execUpstreamSendEnd_queue : NextWithQueue s.pending (execUpstreamSendEnd s) := by
  unfold execUpstreamSendEnd
  split
  · split <;> simp
  · simp

/-! ### Every command -/

theorem exec_queue (i : Instr) : NextWithQueue s.pending (exec i s) := by
  cases i
  case powerOnReset pins e b l => exact execPowerOnReset_queue s pins e b l
  case upstreamFrameReceived f => exact nextWithQueue_next.mpr (frameReceived_pending s .upstream f)
  case downstreamFrameReceived f => exact nextWithQueue_next.mpr (frameReceived_pending s .downstream f)
  case framingError p => exact nextWithQueue_next.mpr (receiveError_pending s p .framing)
  case interByteTimeout p => exact execInterByteTimeout_queue s p
  case lengthError p b => exact execLengthError_queue s p b
  case upstreamSendEnd => exact execUpstreamSendEnd_queue s
  case place tag payload => exact request_queue s _ tag (actPlace_queue payload)
  case tableLoadComponent tag f c body => exact request_queue s _ tag (loadComponent_queue f c body)
  case tableLoadSpan tag f c body => exact request_queue s _ tag (loadSpan_queue f c body)
  case tableLoadStationMap tag f c body => exact request_queue s _ tag (loadStationMap_queue f c body)
  case tableLoadProfile tag f c body => exact request_queue s _ tag (loadProfile_queue f c body)
  case tableLoadFilterSet tag f c body => exact request_queue s _ tag (loadFilterSet_queue f c body)
  case tableLoadPanelPattern tag f c body => exact request_queue s _ tag (loadPanelPattern_queue f c body)
  case tableLoadAlarmMap tag f c body => exact request_queue s _ tag (loadAlarmMap_queue f c body)
  case tableLoadConstants tag f c body => exact request_queue s _ tag (loadConstants_queue f c body)
  case stationFlags tag n clear set => exact request_queue s _ tag (actStationFlags_queue n clear set)
  case run tag => exact request_queue s _ tag actRun_queue
  case hold tag => exact request_queue s _ tag actHold_queue
  case stop tag => exact request_queue s _ tag actStop_queue
  case hornOff tag => exact request_queue s _ tag actHornOff_queue
  case panelLoad tag => exact request_queue s _ tag actPanelLoad_queue
  case flush tag => exact request_queue s _ tag actFlush_queue
  case sweep tag payload => exact request_queue s _ tag (actSweep_queue payload)
  case sweepResult tag => exact request_queue s _ tag actSweepResult_queue
  case tapeClear tag => exact request_queue s _ tag actTapeClear_queue
  case mode tag value => exact request_queue s _ tag (actMode_queue value)
  case alarmRead tag channel => exact request_queue s _ tag (actAlarmRead_queue channel)
  case alarmClear tag channel seq => exact request_queue s _ tag (actAlarmClear_queue channel seq)
  case status tag => exact request_queue s _ tag actStatus_queue
  case recordReadStart tag => exact request_queue s _ tag readRing_queue
  case recordReadNext tag => exact request_queue s _ tag actRecordReadNext_queue
  case reset tag => exact request_queue s _ tag actReset_queue
  case resumeButton => exact execResumeButton_queue s
  case holdButton => exact nextWithQueue_next.mpr (takeHold_pending s)
  case clearButton => exact execClearButton_queue s
  case skipButton => exact execSkipButton_queue s
  case estopAsserted => exact execEstopAsserted_queue s
  case estopReleased => exact nextWithQueue_next.mpr (recompute_frame _).1
  case tensionBreak => exact execTensionBreak_queue s
  case limitActive => exact execLimitActive_queue s
  case chainStepStart => exact execChainStepStart_queue s
  case chainIndexEvent present => exact execChainIndexEvent_queue s present
  case chainStepTimeout => exact execChainStepTimeout_queue s
  case exchangeSend => exact execExchangeSend_queue s
  case exchangeComplete replies => exact execExchangeComplete_queue s replies
  case unusableStationCascade => exact execUnusableStationCascade_queue s
  case tapedEvent => exact execTapedEvent_queue s
  case dumpEvent => exact execDumpEvent_queue s
  case taperTimeout => exact execTaperTimeout_queue s
  case taperRestart => exact execTaperRestart_queue s
  case markingNoticeCsq => exact execMarkingNoticeCsq_queue s
  case markingNoticeTpc => exact execMarkingNoticeTpc_queue s
  case markingNoticeHdc => exact execMarkingNoticeHdc_queue s
  case insertCycleStart => exact execInsertCycleStart_queue s
  case dumpCycleStart => exact execDumpCycleStart_queue s
  case freeDumpCycleStart => exact execFreeDumpCycleStart_queue s
  case axisInPosition axis => exact execAxisInPosition_queue s axis
  case spanFault => exact execSpanFault_queue s
  case cutDone => exact execCutDone_queue s
  case formDone => exact execFormDone_queue s
  case driveDone => exact execDriveDone_queue s
  case clinchDone => exact execClinchDone_queue s
  case ejectDone => exact execEjectDone_queue s
  case headUp => exact execHeadUp_queue s
  case phaseTimeout => exact execPhaseTimeout_queue s
  case homingStart => exact execHomingStart_queue s
  case homeDone => exact execHomeDone_queue s
  case forceSample code => exact execForceSample_queue s code
  case silenceTimeout => exact execSilenceTimeout_queue s
  case loadStart => exact execLoadStart_queue s
  case unloadStart => exact execUnloadStart_queue s
  case clamped => exact execClamped_queue s
  case released => exact execReleased_queue s
  case handlerTimeout => exact execHandlerTimeout_queue s
  case handlerRestart => exact execHandlerRestart_queue s
  case surveyMoveStart => exact execSurveyMoveStart_queue s
  case insertMoveStart => exact execInsertMoveStart_queue s
  case inPosition present => exact execInPosition_queue s present
  case followingError => exact nextWithQueue_next.mpr (post_frame ..).1
  case moveTimeout => exact execMoveTimeout_queue s
  case frameByteReceived p b => exact execFrameByteReceived_queue s p b
  case frameCrcMismatch p b => exact execFrameCrcMismatch_queue s p b
  case millisecondTick | downstreamSendEnd | tensionNormal | limitReleased | markingNoticePin =>
    exact nextWithQueue_next.mpr rfl
  /- The thirteen table reads. -/
  all_goals exact request_queue s _ _ fun t => readTable_queue _ _ _ _ _ _ t

end Sys2Proof.Machine

open Sys2Proof Sys2Proof.Machine

/-- Settles O2: `exec_queue`, one command after another. -/
theorem everyCommandAnswersNext : Obligations.EveryCommandAnswersNext :=
  fun c s => exec_queue s c

end
